-- ==== Sys2Proof/Word.lean ====
section
/-! DEFINITION. The word, the byte, the C-pair and the sparse table: the plainest types, over which everything is written. -/

namespace Sys2Proof

/-- A 32-bit word, the unit of the node's objects and registers. -/
abbrev Word := BitVec 32

/-- A C-pair: a value word and its bitwise complement, stored together (R53). -/
structure Pair where
  /-- The value. -/
  v : Word
  /-- The complement. -/
  c : Word
  deriving DecidableEq, Repr

/-- The pair of a value: the value and its complement (R53). -/
def Pair.mk0 (w : Word) : Pair := ⟨w, ~~~w⟩

/-- A pair checks where its second word is the complement of its first (R53). -/
def Pair.ok (p : Pair) : Bool := p.c == ~~~p.v

/-- Sparse data by number, held as a list in rising order of the number. -/
abbrev Tab (α : Type) := List (Nat × α)

end Sys2Proof
end

