-- ==== Sys2Proof/Syntax.lean ====
section
/-! DEFINITION. The commands the block takes: one constructor of `Instr` per row of spec/opcode_table.json, with the
row's operands, and the types of those operands. -/

namespace Sys2Proof

/-- A station's action, as carried by a Bereb request: who asks (R450, R128). -/
structure Req where
  /-- Source MAC address of the request. -/
  mac : BitVec 48
  /-- SESSION of the request. -/
  sess : BitVec 16
  deriving DecidableEq, Repr

/-- A Bereb request with what its reply needs (R444, R452). -/
structure Rq where
  /-- Source MAC address. -/
  mac : BitVec 48
  /-- SESSION. -/
  sess : BitVec 16
  /-- TAG. -/
  tag : Word
  /-- NO_REPLY. -/
  noReply : Bool
  deriving DecidableEq, Repr

/-- Where a call request comes from: a panel frame or a station (R364). -/
inductive CallFrom where
  | panel (kind : BitVec 4) (eng : BitVec 8)
  | station (r : Req) (eng : BitVec 8)
  deriving DecidableEq, Repr

/-- The units with a fabric port: the quads (R15) and the nine other units named before R18. -/
inductive FabUnit where
  | quad (n : Fin 4) | switch | dram | nand | nor | canA | canB | link | gauze | counters
  deriving DecidableEq, Repr

/-- The memories that ECC protects (R69, R70). -/
inductive MemUnit where
  | iscratch (e : Fin 16) | dscratch (e : Fin 16) | quad (q : Fin 4) | dram | dramStack | frameBuffer
  deriving DecidableEq, Repr

/-- LAST_CAUSE with its codes 0 to 6 (R162). -/
inductive TripCause where
  | none_ | currentFall | currentRise | voltageStep | powerLimit | probeFailed | selfTest
  deriving DecidableEq, Repr

/-- What one evaluation of a point is given by the hardware: its start instant in Gauze ticks, whether it is a due
instant, whether an input C-pair failed, upsets of path A's and path B's results, and the cycles it took (R64, R291, R380). -/
structure EvalIn where
  /-- Start instant in Gauze ticks of 1/1024 ms. -/
  tick : Nat
  /-- It is the evaluation of a due instant, not an extra one (R314, R380). -/
  due : Bool
  /-- Bits flipped in the value of path B (R57). -/
  upset : Word
  /-- Engine cycles taken (R380). -/
  cycles : Word
  /-- Bits in which path B's decisions differ: its alarm state word (R56). -/
  upState : Word := 0
  /-- Bits in which path B's output command differs (R56). -/
  upOut : Word := 0
  /-- Bits turned in the first pair of the task record in Canvas task state (R390). -/
  upRec : Word := 0
  deriving DecidableEq, Repr

/-- One half-sample of a resistance, in one polarity of the excitation (R183). -/
structure Half where
  /-- V(HI − LO), in 2-wire V(XA − LO), binary32 volts. -/
  v : Word
  /-- V(XA − HI), binary32 volts. -/
  lead : Word
  /-- Excitation current with its sign, binary32 amperes. -/
  cur : Word
  deriving DecidableEq, Repr

/-- One converter sample of a universal analogue input as the field die measures it (R176 to R187). -/
structure Meas where
  /-- The measured signal in the mode's electrical unit, binary32; with a NAMUR sensor its current in mA. -/
  e : Word
  /-- The first half-sample of a resistance. -/
  h1 : Half
  /-- The second, with the excitation reversed. -/
  h2 : Half
  /-- Voltage of the excitation source, binary32 volts. -/
  srcV : Word
  /-- The loop supply stands at its cap. -/
  atCap : Bool
  /-- The loop headroom, binary32 volts. -/
  headroom : Word
  /-- The die temperature, binary32 degrees. -/
  dieTemp : Word
  /-- ACQ_TICK at the end of the output period. -/
  tick : BitVec 64
  /-- Bits flipped in the complement path before the pair leaves the field die. -/
  upset : Word
  deriving DecidableEq, Repr

/-- A HART reply (R200 to R202). -/
structure HartResp where
  /-- Response code. -/
  code : BitVec 8
  /-- Device status. -/
  status : BitVec 8
  /-- Expanded device type of a command 0 reply. -/
  devType : BitVec 16
  /-- Device identifier of a command 0 reply. -/
  devId : BitVec 24
  /-- Loop current of a command 3 reply, binary32 mA. -/
  loopMa : Word
  /-- Values of the variables asked, binary32. -/
  vars : List Word
  /-- Units codes of the variables asked. -/
  units : List (BitVec 8)
  /-- Device variable status bytes of the variables asked. -/
  stats : List (BitVec 8)
  deriving DecidableEq, Repr

/-- What a frame is, as the switch classes frames (R434, R441). -/
inductive FrameKind where
  | ptpEvent | ptpOther | supervision | pause | bereb (cls : BitVec 2) (type : BitVec 6) | other
  deriving DecidableEq, Repr

/-- A frame at a ring port, with what the frame buffer holds as it arrives (R429, R430, R434 to R436). -/
structure RingFrame where
  /-- The frame check sequence holds. -/
  fcsOk : Bool
  /-- Source MAC address. -/
  src : BitVec 48
  /-- Destination MAC address. -/
  dst : BitVec 48
  /-- It carries an HSR tag. -/
  tagged : Bool
  /-- HSR sequence number. -/
  hsrSeq : BitVec 16
  /-- What it is. -/
  kind : FrameKind
  /-- Length in bytes. -/
  bytes : Nat
  /-- Its egress port is idle and its class queue there is empty. -/
  idle : Bool
  /-- Bytes of its class in the frame buffer on its arrival. -/
  occ : Nat
  /-- Bytes of its class queued for its egress port on its arrival. -/
  occPort : Nat
  deriving DecidableEq, Repr

/-- What an Announce says of its grandmaster (R432, R433). -/
structure GmData where
  /-- Clock identity of the grandmaster. -/
  gm : BitVec 64
  /-- priority1. -/
  prio1 : BitVec 8
  /-- clockClass. -/
  cls : BitVec 8
  /-- clockAccuracy. -/
  accuracy : BitVec 8
  /-- offsetScaledLogVariance. -/
  variance : BitVec 16
  /-- priority2. -/
  prio2 : BitVec 8
  /-- stepsRemoved. -/
  steps : BitVec 16
  /-- logMessageInterval, two's complement: its announce interval is 2 to this power in seconds. -/
  logInterval : BitVec 8
  deriving DecidableEq, Repr

/-- A precision time message (R432, R433). -/
inductive PtpMsg where
  | announce (gm : GmData) (utc : BitVec 16) (utcValid : Bool)
  | sync (seconds : Nat) (offset : Word)
  deriving DecidableEq, Repr

/-- Which copy of a frame the frame buffer error strikes (R436). -/
inductive FrameCopy where
  | transit | origination | receive
  deriving DecidableEq, Repr

/-- A CAN frame (R471, R472). -/
structure CanFrame where
  /-- Identifier, 11 bits where not extended. -/
  id : BitVec 29
  /-- Extended identifier. -/
  ide : Bool
  /-- FD frame. -/
  fdf : Bool
  /-- Bit-rate switch. -/
  brs : Bool
  /-- Error state indicator. -/
  esi : Bool
  /-- Remote frame. -/
  rtr : Bool
  /-- Data length code. -/
  dlc : BitVec 4
  /-- Data words. -/
  data : List Word
  deriving DecidableEq, Repr

/-- A bus error, with the codes of LEC (R487). -/
inductive CanErr where
  | stuff | form | ack | bit1 | bit0 | crc
  deriving DecidableEq, Repr

/-- What happened to a frame this node offered (R478 to R480). -/
inductive TxErr where
  /-- Arbitration lost. -/
  | lost
  /-- An error, in the data phase or not, and in the control, data or CRC field of a frame that won or not. -/
  | err (e : CanErr) (dataPhase inBody : Bool)
  deriving DecidableEq, Repr

/-- How far a frame is when its cancel arrives (R478). -/
inductive TxPoint where
  | waiting | arbitration | won
  deriving DecidableEq, Repr

/-- What the scan of the NAND finds (R508). -/
structure NandInfo where
  /-- The NAND targets that answer. -/
  targets : BitVec 2
  /-- The page size code. -/
  page : BitVec 2
  /-- Capacity of target 0 in GiB. -/
  gib0 : BitVec 8
  /-- Capacity of target 1 in GiB. -/
  gib1 : BitVec 8
  /-- The blocks, as target * 2^24 + block, of the bad-block tables, or of the factory marks where both copies fail. -/
  bad : List Nat
  /-- The NV-DDR2 timing modes of target 0's parameter page, bit k mode k (R575). -/
  modes0 : BitVec 8
  /-- Those of target 1's. -/
  modes1 : BitVec 8
  deriving DecidableEq, Repr

/-- What a sample notes beside its event (R553). -/
structure SampleSrc where
  /-- Task number, 0xFFFF for none. -/
  task : BitVec 16
  /-- The instruction belongs to path B. -/
  pathB : Bool
  /-- Byte offset of the instruction. -/
  offset : Word
  /-- Gauze ticks within the millisecond. -/
  ticks : BitVec 10
  deriving DecidableEq, Repr

/-- Instructions of the test access port (R579). -/
inductive TapIns where
  | bypass | idcode | sample | extest | other
  deriving DecidableEq, Repr


/-- The commands of the block, one constructor per row of spec/opcode_table.json. -/
inductive Instr where
  /-- PORN_RELEASE (R78): PORn is high and both rails have been above their thresholds for 1 ms, so the start begins at t0. -/
  | pornRelease (norMib : Option Nat)
  /-- LOGIC_RESET_ASSERT (R80): PORn goes low or a rail falls below its threshold; the logic side is held in reset and any start in progress is abandoned. -/
  | logicResetAssert (cause : BitVec 2) (cut : Option Nat)
  /-- NOR_READ_PHASE_COMPLETE (R82): A phase of the start read of NOR completes: sections 0x01 to 0x05, the firmware copy, or sections 0x06 to 0x12. -/
  | norReadPhaseComplete (phase : Fin 3)
  /-- FUNCTION_READY (R83): A function's readiness condition comes to hold, and it announces READY or returns to service. -/
  | functionReady (fn : BitVec 8) (idx : BitVec 16)
  /-- READY_DEADLINE_EXPIRY (R90): The READY deadline passes; unevaluated points go BAD with NOT_READY and unready groups announce LATE. -/
  | readyDeadlineExpiry
  /-- MEMBERSHIP_LISTEN_END (R91): 300 ms after RING READY the membership view is formed and a snapshot request is broadcast. -/
  | membershipListenEnd
  /-- SNAPSHOT_ANSWER_TIMEOUT (R93): A peer has not answered the snapshot request in 500 ms; it is asked once more, and after a second timeout REPLICA becomes READY with PARTIAL. -/
  | snapshotAnswerTimeout (peer : Fin 64)
  /-- FIELD_DIE_START (R96): VFLD has been above 17.0 V for 100 ms; the field die starts with outputs de-energised. -/
  | fieldDieStart
  /-- FIELD_DIE_RESTART_DETECTED (R98): The field die restarts while the logic side runs; field functions send LOST and their points go BAD. -/
  | fieldDieRestartDetected
  /-- FIELD_DIE_STOP (R167): VFLD has been below 10.0 V for 5 ms, so the field die stops. -/
  | fieldDieStop
  /-- VFLD_THRESHOLD_CROSS (R167): VFLD crosses a threshold; loop supplies and outputs change state and SYSTEM conditions are raised. -/
  | vfldThresholdCross (mv : Nat)
  /-- VFLD_RESTORE (R168): VFLD has stayed back in range for 100 ms; outputs and loop supplies return to their commands or safe states. -/
  | vfldRestore (mv : Nat)
  /-- QUAD_POWER_ON (R25): Canvas powers a quad in OFF, or a RETRY acts, and the quad enters RESET. -/
  | quadPowerOn (q : Fin 4)
  /-- QUAD_SELF_CHECK_COMPLETE (R25): A quad in RESET finishes loading firmware and self-checking; it goes to SLEEP, or to FAILED after three failures. -/
  | quadSelfCheckComplete (q : Fin 4) (pass : Bool)
  /-- QUAD_WAKE (R31): A slot due, a wake bound or a doorbell moves a quad from SLEEP to RUN and the engine begins its task. -/
  | quadWake (q : Fin 4)
  /-- QUAD_IDLE_SLEEP (R25): A quad in RUN has no task, no pending wake and no slot within 2 ms, so it enters SLEEP. -/
  | quadIdleSleep (q : Fin 4) (tick : Nat)
  /-- QUAD_FAULT_RESET (R25): A watchdog, an uncorrectable memory error, a supply fault or a reply timeout sends a quad to RESET. -/
  | quadFaultReset (q : Fin 4)
  /-- QUAD_REPLY_TIMEOUT (R23): A quad has held an accepted request for 100 µs without replying; it is taken out of service. -/
  | quadReplyTimeout (id : Nat)
  /-- QUAD_ISOLATE (R25): Canvas isolates a quad, which goes to OFF and increments its epoch. -/
  | quadIsolate (q : Fin 4)
  /-- QUAD_RETRY_INTERVAL (R25): The 10 min Canvas retry interval for a FAILED or powered-off quad expires and the quad enters RESET. -/
  | quadRetryInterval (q : Fin 4)
  /-- FABRIC_REQUEST (R21): A unit issues a fabric request, which is stamped with epochs and accepted by the target or completed ABSENT. -/
  | fabricRequest (src tgt : FabUnit) (wr : Option (List Word)) (count addr : Nat) (accept : Bool)
  /-- FABRIC_REPLY_DELIVERY (R22): A reply reaches its requester; a stale epoch makes the fabric discard it and complete ABSENT. -/
  | fabricReplyDelivery (id : Nat)
  /-- FABRIC_PARITY_ERROR (R71): A fabric port receives a beat with a parity error, retries it, and after eight failures removes a quad or poisons the beat. -/
  | fabricParityError (src tgt : FabUnit) (addr : Nat)
  /-- MEMORY_ECC_ERROR (R68): A memory read finds an ECC error; it is corrected, or it causes a quad reset or DRAM poisoning. -/
  | memoryEccError (mem : MemUnit) (addr : Nat) (correctable : Bool)
  /-- SCRUB_PASS (R69): A scrub pass over a memory falls due and writes back every corrected word. -/
  | scrubPass (mem : MemUnit)
  /-- GAUZE_SLOT_DUE (R27): A slot-table entry falls due and wakes the quads in its mask. -/
  | gauzeSlotDue (k : Fin 256) (tick : Nat) (upsetA upsetB : BitVec 27)
  /-- GAUZE_BACKSTOP_WAKE (R72): Every 1 024 000 ticks Gauze wakes each quad that holds tasks, independently of the slot table. -/
  | gauzeBackstopWake
  /-- LINK_FRAME_RECEIVE (R30): A field-to-logic isolation-link frame arrives; its CRC is checked and its samples and diagnostics are written and compared with the wake bounds. -/
  | linkFrameReceive (crcOk : Bool) (ch : Fin 16) (upSample upDiag : Word) (doMa : List Nat) (doMv diUa : List Int)
  /-- LINK_HEARTBEAT_SEND (R62): Every 1 ms the logic side sends every output command and setting across the isolation link. -/
  | linkHeartbeatSend
  /-- FELT_FRAME_RECEIVE (R62): The field die receives a logic-to-field frame; checking commands and settings are taken and command ages reset. -/
  | feltFrameReceive (crcOk : Bool) (out : Fin 12) (upCmd upSafe : Word)
  /-- FELT_TIMEOUT (R62): No checking command has reached an output for the Felt timeout; Felt drives that output to its safe state. -/
  | feltTimeout (out : Fin 12)
  /-- SAFE_STATE_REWRITE (R63): Every 10 s the logic side rewrites every safe-state setting. -/
  | safeStateRewrite
  /-- ENGINE_CLOCK_STEP_CHANGE (R33): A new clock step for an engine takes effect at its next task boundary. -/
  | engineClockStepChange (e : Fin 16)
  /-- POWER_LEVEL_WRITE (R46): A station writes STATION_LEVEL of POWER_LEVEL. -/
  | powerLevelWrite (r : Req) (w : Word)
  /-- POWER_LEVEL_CHANGE (R38): A change of effective power level takes effect; vibration work is shed or resumed and clocks are capped. -/
  | powerLevelChange
  /-- POINT_EVALUATION (R292): A point is evaluated at a due or extra instant: inputs are checked, both paths run, quality and alarms are derived and results are published. -/
  | pointEvaluation (p : BitVec 16) (ev : EvalIn)
  /-- DELAY_EXPIRY (R317): A condition's on- or off-delay runs out and its active state changes at that evaluation. -/
  | delayExpiry (p : BitVec 16) (cond : Fin 7) (ev : EvalIn)
  /-- RELEASE_DELAY_EXPIRY (R321): A suppression release delay runs out and the point's process conditions leave SUPPRESSED. -/
  | releaseDelayExpiry (p : BitVec 16) (ev : EvalIn)
  /-- SUPPRESS_HOLD_EXPIRY (R322): An unusable suppression source has held its last state for 60 s and now counts as not suppressing. -/
  | suppressHoldExpiry (p : BitVec 16) (ev : EvalIn)
  /-- SHELVE_EXPIRY (R324): A point's shelving time runs out and it is unshelved with onsets for its active conditions. -/
  | shelveExpiry (p : BitVec 16)
  /-- HELD_ACTION_DISCARD (R325): An alarm action held through integrity failures for 10 s is discarded. -/
  | heldActionDiscard (p : BitVec 16)
  /-- ADAPT_ESTIMATE (R319): Every 10 s the roll-period estimator computes T and the effective on-delay is updated. -/
  | adaptEstimate (p : BitVec 16) (bUpset : Word)
  /-- SHADOW_EXECUTION (R64): Once every 100 scans a task is re-run on its standby engine and the result pairs are compared. -/
  | shadowExecution (task : Nat) (ups : List Word)
  /-- THIRD_RUN (R65): After a shadow mismatch or path disagreement the task is run on a third engine and the odd engine is charged. -/
  | thirdRun (task : Nat) (ups : List Word)
  /-- CONVERTER_SAMPLE (R177): A converter channel ends an output period and the field die forms the sample and DIAG pairs with its flags. -/
  | converterSample (ch : Fin 16) (m : Meas)
  /-- SETTLING_END (R179): A channel's settling time ends; SETTLING clears and the channel may become READY. -/
  | settlingEnd (di : Bool) (ch : Fin 16)
  /-- TC_OPEN_TEST (R187): Once every 1 s a thermocouple channel applies a 1 µA test current for 1 ms to detect an open loop. -/
  | tcOpenTest (ch : Fin 16) (ohms : Nat)
  /-- SPARE_VISIT_PHASE_END (R189): A phase of the spare converter's visit ends and passes or fails. -/
  | spareVisitPhaseEnd (refs : List (Fin 3 × Int)) (diffs : List Int) (ppm : Option Word)
  /-- REF_DEVIATION_RECORD (R191): Every 24 h REF_DEVIATION is recorded and REF_SLOPE and the reference conditions are updated. -/
  | refDeviationRecord
  /-- TRIM_ZERO (R194): TRIM_ZERO starts a zero trim capture on the channel. -/
  | trimZero (r : Req) (ch : Fin 16)
  /-- TRIM_SPAN (R194): TRIM_SPAN starts a span trim capture on the channel. -/
  | trimSpan (r : Req) (ch : Fin 16)
  /-- TRIM_CLEAR (R194): TRIM_CLEAR sets ZERO_TRIM to 0.0 and SPAN_TRIM to 1.0 at once. -/
  | trimClear (r : Req) (ch : Fin 16)
  /-- TRIM_CAPTURE_END (R195): A 2 s trim capture ends and is applied or rejected; an applied trim is queued for a commit. -/
  | trimCaptureEnd (ch : Fin 16) (bUpset : Word)
  /-- TRIM_BUTTON_RELEASE (R196): A trim button is released after a press of 3 s to 10 s, or longer, and starts a capture or a clear. -/
  | trimButtonRelease (ch : Fin 16) (span : Bool)
  /-- RESTORE_ENERGY (R160): RESTORE_ENERGY on a LOCKED_PASSIVE port runs the self-test and sends it to SL_PROBING. -/
  | restoreEnergy (r : Req) (port : Fin 20) (selfTest : Bool)
  /-- HART_REDISCOVER (R207): HART_REDISCOVER clears COMM_FAIL and ID_MISMATCH and sends command 0 at the channel's next turn. -/
  | hartRediscover (r : Req) (c : Fin 20)
  /-- HART_TRANSACTION_START (R201): A modem's turn comes and it begins the next HART transaction with a device. -/
  | hartTransactionStart (c : Fin 20)
  /-- HART_TRANSACTION_END (R200): A HART transaction ends with a response or a failure; identity, status, values and retries are handled. -/
  | hartTransactionEnd (c : Fin 20) (resp : Option HartResp) (other : Bool)
  /-- HART_MODEM_SELF_TEST (R199): Every 60 s a modem runs its loopback self-test and gives up or takes back its channels. -/
  | hartModemSelfTest (k : Fin 4) (pass : Bool)
  /-- OTHER_MASTER_CLEAR (R208): OTHER_MASTER clears after 10 min without another master heard. -/
  | otherMasterClear (c : Fin 20)
  /-- DETECTOR_TRIP (R158): A spark-limited port's detector trips, opens the series switch and enters SL_TRIPPED or LOCKED_PASSIVE. -/
  | detectorTrip (port : Fin 20) (cause : TripCause)
  /-- PROBE_START (R159): A spark-limited port's probe falls due and a 20 mA probe begins. -/
  | probeStart (port : Fin 20)
  /-- PROBE_COMPLETE (R159): A 2 ms probe ends and passes into a ramp, or fails into SL_TRIPPED or LOCKED_PASSIVE. -/
  | probeComplete (port : Fin 20) (ua mv pf : Nat) (switchOk : Bool)
  /-- RAMP_COMPLETE (R160): The 5 ms power ramp after a passing probe ends and the port enters SL_ON. -/
  | rampComplete (port : Fin 20)
  /-- SPARK_SELF_TEST (R161): Every 10 min in SL_ON the detector self-test runs; a failure locks the port passive. -/
  | sparkSelfTest (port : Fin 20) (pass : Bool)
  /-- FOLDBACK_ENTRY (R160): A port's terminal voltage has been below 2.0 V with current at its limit for 1 ms and it enters FOLDBACK. -/
  | foldbackEntry (port : Fin 20)
  /-- FOLDBACK_RETRY_START (R165): Once every 1 000 ms in FOLDBACK the port restores full current for a 10 ms retry. -/
  | foldbackRetryStart (port : Fin 20)
  /-- FOLDBACK_RETRY_END (R165): A foldback retry ends; the port leaves FOLDBACK or returns to 8 mA. -/
  | foldbackRetryEnd (port : Fin 20) (heldCond : Bool)
  /-- LOOP_SUPPLY_ADJUST (R163): Every 1 ms each loop supply is set to the terminal voltage plus drop plus headroom. -/
  | loopSupplyAdjust (port : Fin 20) (termMv ua headMv : Nat)
  /-- WAVEFORM_SAMPLE_WRITE (R212): The waveform writer checks a waveform sample pair and stores its value or MISSING in the ring. -/
  | waveformSampleWrite (ch : Fin 16) (tick : BitVec 64) (volts upset : Word) (lost : Bool)
  /-- FREQUENCY_EDGE (R213): A FREQUENCY input has a transition, which is stamped with ACQ_TICK and written to the edge log. -/
  | frequencyEdge (ch : Fin 16) (tick : BitVec 64) (level : Word) (held : Nat)
  /-- TRIGGER_CAPTURE (R214): TRIGGER_POINT enters ACT_UNACK and a TRIGGER capture is recorded, or merged into an open window. -/
  | triggerCapture (ch : Fin 16)
  /-- CAPTURE_NOW (R214): CAPTURE_NOW records a COMMAND capture on the channel. -/
  | captureNow (r : Req) (ch : Fin 16)
  /-- SCHEDULED_CAPTURE (R214): SCHEDULE_MIN minutes pass and a SCHEDULED capture is recorded. -/
  | scheduledCapture (ch : Fin 16)
  /-- CAPTURE_WINDOW_CLOSE (R215): The last sample of a capture window is written and the window closes. -/
  | captureWindowClose (ch : Fin 16)
  /-- CANCEL_PENDING (R216): CANCEL_PENDING drops every pending capture of the channel whose first message has not been sent. -/
  | cancelPending (r : Req) (ch : Fin 16)
  /-- RESEND_ID (R217): A CAPTURE_ID written to RESEND_ID sends that capture again if its first sample is still in the ring. -/
  | resendId (r : Req) (ch : Fin 16) (id : Word)
  /-- WAVEFORM (R218): Grant allows it, and a WAVEFORM message of a capture or stream is sent in the order of precedence. -/
  | waveform
  /-- FEATURE_UPDATE (R221): Every UPDATE_MS a feature is computed from the newest span and published to its target point. -/
  | featureUpdate (ch : Fin 16) (k : Nat)
  /-- FEATURE_STALE_TIMEOUT (R223): A feature has not published within 3 × UPDATE_MS plus the span and is held. -/
  | featureStaleTimeout (ch : Fin 16) (k : Nat)
  /-- AO_READBACK_SAMPLE (R234): Every 1 ms the field die forms a loop output's readback and AO_DIAG pairs and raises or clears its flags. -/
  | aoReadbackSample (n : Fin 4) (ma volts : Word) (atCap : Bool) (upset : Word)
  /-- MANUAL_ON (R242): MANUAL_ON puts an output under manual control if its manual value pair checks. -/
  | manualOn (r : Req) (out : Fin 12)
  /-- MANUAL_OFF (R242): MANUAL_OFF ends manual control of an output. -/
  | manualOff (r : Req) (out : Fin 12)
  /-- MANUAL_VALUE_WRITE (R242): A write of MANUAL_MA or MANUAL_PATTERN updates the value that a manual output follows. -/
  | manualValueWrite (r : Req) (out : Fin 12) (v : Pair)
  /-- MANUAL_TIMEOUT (R242): 30 min pass without a manual write and manual control ends. -/
  | manualTimeout (out : Fin 12)
  /-- OPEN_TEST_PULSE (R244): Every 10 s a SOURCE output below 1.0 mA drives a 1.0 mA pulse for 5 ms to test for an open loop. -/
  | openTestPulse (n : Fin 4) (ma : Word) (atCap : Bool)
  /-- SAFEN_CHANGE (R271): SAFEn has been low or high for 1 ms and its qualified state changes; the change crosses the link and outputs react. -/
  | safenChange (low stood : Bool)
  /-- DI_FILTER_TRANSITION (R255): A digital input's filter counter reaches its limit and the filtered state changes, with pulse counting and the link report. -/
  | diFilterTransition (n : Fin 16) (raw : List Bool) (tick : BitVec 64)
  /-- DI_LINE_OPEN (R258): A line-monitored input's current stays below 0.30 mA for 100 ms, or above 0.60 mA for 300 ms, and OPEN is raised or cleared. -/
  | diLineOpen (n : Fin 16) (isOpen : Bool)
  /-- TOTAL_PRESET (R263): An Engineer-level write of a checking pair to TOTAL_PRESET is queued for the field die. -/
  | totalPreset (r : Req) (n : Fin 16) (v : Pair)
  /-- TOTAL_PRESET_APPLY (R263): At the next sample boundary the preset replaces the total, clears WRAPPED and is recorded. -/
  | totalPresetApply (n : Fin 16) (edge : Bool)
  /-- CLEAR_WRAP (R281): CLEAR_WRAP clears WRAPPED and TOTAL_GAP and sets MERGED to 0 at the next sample boundary. -/
  | clearWrap (r : Req) (n : Fin 16) (edge : Bool)
  /-- TOTAL_BACKUP_WRITE (R264): Once every second the logic side writes each total into backup RAM. -/
  | totalBackupWrite
  /-- DO_PATTERN_EDGE (R268): A pattern phase boundary in the 2 s frame switches the digital outputs that play that pattern. -/
  | doPatternEdge (tick : BitVec 64)
  /-- DO_THERMAL_CUTOFF (R272): A digital output's junction reaches 165 °C; it switches off with THERMAL, and a ninth cut-off in 60 s latches it. -/
  | doThermalCutoff (n : Fin 8)
  /-- DO_THERMAL_RESTART (R272): A cut-off output restarts when cooled to 145 °C and 2 s have passed. -/
  | doThermalRestart (n : Fin 8)
  /-- RESET_LATCH (R272): RESET_LATCH releases a latched digital output. -/
  | resetLatch (r : Req) (n : Fin 8)
  /-- DO_GROUP_SHED (R273): The summed output current has exceeded 3.6 A for 20 ms and the highest-numbered energised output is shed. -/
  | doGroupShed (ma : Nat)
  /-- DO_SHED_RESTART (R273): 2 s after shedding, shed outputs restart in ascending number one every 20 ms. -/
  | doShedRestart
  /-- DO_OFF_TEST (R274): Every 1 s an off output with OPEN_LOAD_TEST 2 is tested for external drive and open load. -/
  | doOffTest (n : Fin 8) (extMv testMv : Int)
  /-- DO_OPEN_LOAD_DETECT (R274): An energised output's load current stays below 5 mA for 100 ms and OPEN_LOAD is raised. -/
  | doOpenLoadDetect (n : Fin 8)
  /-- DO_REVERSE_BLOCK (R275): An energised output's terminal is above VFLD; it switches off with EXT_DRIVE and retries every 100 ms. -/
  | doReverseBlock (n : Fin 8) (above : Bool)
  /-- DO_STAGGERED_RESTART (R276): After VFLD returns, outputs restart one at a time at 20 ms or slowed 1 s spacing. -/
  | doStaggeredRestart
  /-- SETPOINT_WRITE (R295): An Engineer-level write of a checking pair to SETPOINT sets a STATION point's value and is recorded. -/
  | setpointWrite (r : Req) (p : BitVec 16) (v : Pair)
  /-- REPLICA_DELTA_SEND (R402): A REPLICA_DELTA leaves when 22 records are queued or 1 ms after the first. -/
  | replicaDeltaSend
  /-- REPLICA_REFRESH (R402): Every evaluated point is sent at least once every 10 s flagged REFRESH. -/
  | replicaRefresh (p : BitVec 16)
  /-- REPLICA_DELTA_RECEIVE (R404): A REPLICA_DELTA arrives; its records are taken or discarded, and a sequence gap asks for a snapshot. -/
  | replicaDeltaReceive (src : Fin 64) (seq : Word) (payload : List Word)
  /-- REPLICA_SNAPSHOT_RECEIVE (R92): A REPLICA_SNAPSHOT or duty image arrives and is applied, with the stored later deltas, or kept. -/
  | replicaSnapshotReceive (src : Fin 64) (payload : List Word)
  /-- REPLICA_STALE_TIMEOUT (R405): No record from a peer point's entitled holder has been taken for 25 s and it goes STALE. -/
  | replicaStaleTimeout (p : BitVec 16)
  /-- ALARM_RECEIVE (R342): An ALARM from a peer updates the replica alarm state, first-out, folding, call and segment duties. -/
  | alarmReceive (src : Fin 64) (payload : List Word)
  /-- ACK (R324): ALARM_ACTION ACK acknowledges the point's unacknowledged conditions if its SEQ matches. -/
  | ack (r : Req) (p : BitVec 16) (seq : BitVec 16) (ev : EvalIn)
  /-- SHELVE (R326): ALARM_ACTION SHELVE shelves the point for MINUTES. -/
  | shelve (r : Req) (p : BitVec 16) (minutes : BitVec 12) (ev : EvalIn)
  /-- UNSHELVE (R324): ALARM_ACTION UNSHELVE ends shelving of the point. -/
  | unshelve (r : Req) (p : BitVec 16) (ev : EvalIn)
  /-- OOS_ON (R324): ALARM_ACTION OOS_ON takes the point out of service and clears its states. -/
  | oosOn (r : Req) (p : BitVec 16) (ev : EvalIn)
  /-- OOS_OFF (R324): ALARM_ACTION OOS_OFF returns the point to service. -/
  | oosOff (r : Req) (p : BitVec 16) (ev : EvalIn)
  /-- ADAPT_RESTART (R326): ALARM_ACTION ADAPT_RESTART empties the estimator window. -/
  | adaptRestart (r : Req) (p : BitVec 16) (ev : EvalIn)
  /-- SYS_ACK (R333): SYS_ACTION ACK acknowledges one of this node's SYSTEM conditions. -/
  | sysAck (r : Req) (code : BitVec 8) (seq : BitVec 16)
  /-- ACK_ALL (R349): GROUP_ACTION ACK_ALL acknowledges every point of the group that this node evaluates. -/
  | ackAll (r : Req) (g : BitVec 8)
  /-- DAMASK_CLEAR (R349): GROUP_ACTION DAMASK_CLEAR empties the Damask tables of this node's points in the group. -/
  | damaskClear (r : Req) (g : BitVec 8)
  /-- SYSTEM_CONDITION_CHANGE (R333): A SYSTEM condition is raised or cleared by its cause, sends its ALARM and moves FLTn. -/
  | systemConditionChange (code : Fin 64) (on : Bool)
  /-- SYSTEM_CONDITION_CLEAR_TIMER (R332): 60 s of operating time pass without a further event and a SYSTEM condition clears. -/
  | systemConditionClearTimer (code : Fin 64)
  /-- DAMASK_OBSERVATION (R336): 5 s after a candidate root's onset one hit or miss is recorded for it. -/
  | damaskObservation (p root : BitVec 16)
  /-- DAMASK_CHECKPOINT (R336): Every 6 h the Damask tables are written to Linen as checkpoint records. -/
  | damaskCheckpoint
  /-- CALL_DUTY_STEP (R357): Every 10 ms the call duty holder applies requests, expired timers and call checks, and sends CALL STATE on change. -/
  | callDutyStep
  /-- TO_MANNED (R352): TO_MANNED sets the watch mode MANNED, closing any call and pending transfer. -/
  | toManned (src : CallFrom)
  /-- TO_UMS (R352): TO_UMS makes a transfer to UMS pending or is refused. -/
  | toUms (src : CallFrom)
  /-- ACCEPT_UMS (R352): A BRIDGE panel's ACCEPT_UMS completes a pending transfer to UMS. -/
  | acceptUms (src : CallFrom)
  /-- SET_DUTY (R354): SET_DUTY names a new duty engineer, at once or as a pending handover. -/
  | setDuty (src : CallFrom) (eng : BitVec 8)
  /-- ACCEPT_DUTY (R354): ACCEPT_DUTY from the named engineer's cabin completes a pending duty handover. -/
  | acceptDuty (src : CallFrom)
  /-- ROTA_ON (R353): ROTA_ON puts an engineer on the rota. -/
  | rotaOn (src : CallFrom) (eng : BitVec 8)
  /-- ROTA_OFF (R353): ROTA_OFF takes an engineer off the rota, refused for the duty engineer. -/
  | rotaOff (src : CallFrom) (eng : BitVec 8)
  /-- ACCEPT (R356): ACCEPT from an engineer's cabin accepts the call or silences the engineers' alarm for that engineer. -/
  | callAccept (src : CallFrom) (callId : BitVec 16)
  /-- ENG_ALARM (R358): ENG_ALARM sets the MANUAL cause of the engineers' alarm. -/
  | engAlarm (src : CallFrom)
  /-- ENG_ALARM_RESET (R358): ENG_ALARM_RESET clears the MANUAL cause of the engineers' alarm. -/
  | engAlarmReset (src : CallFrom)
  /-- DEADMAN_START (R359): DEADMAN_START starts the dead-man timer, or resets it if running. -/
  | deadmanStart (src : CallFrom)
  /-- DEADMAN_RESET (R359): DEADMAN_RESET restarts the dead-man timer from DEADMAN_PERIOD. -/
  | deadmanReset (src : CallFrom)
  /-- DEADMAN_STOP (R359): DEADMAN_STOP turns the dead-man timer OFF. -/
  | deadmanStop (src : CallFrom)
  /-- ACCEPT_TIME_EXPIRY (R356): ACCEPT_TIME runs out and the call escalates to BACKUP or ENGINEERS. -/
  | acceptTimeExpiry
  /-- BACKUP_TIME_EXPIRY (R356): BACKUP_TIME runs out and the call escalates to ENGINEERS. -/
  | backupTimeExpiry
  /-- ATTEND_TIME_EXPIRY (R356): ATTEND_TIME runs out after acceptance and the call goes to ENGINEERS. -/
  | attendTimeExpiry
  /-- HANDOVER_TIMEOUT (R352): HANDOVER_TIMEOUT runs out and a pending transfer or duty handover lapses. -/
  | handoverTimeout
  /-- DEADMAN_PREWARN (R359): The dead-man remaining time reaches DEADMAN_PREWARN and the timer enters PREWARN. -/
  | deadmanPrewarn
  /-- DEADMAN_EXPIRY (R359): The dead-man remaining time reaches 0, the timer is EXPIRED and the DEADMAN cause is set. -/
  | deadmanExpiry
  /-- MANNED_ESCALATE_EXPIRY (R351): In MANNED a callable condition has stood unacknowledged for MANNED_ESCALATE and the engineers' alarm sounds. -/
  | mannedEscalateExpiry
  /-- CALL_STATE_PERIODIC (R360): The call duty holder sends CALL STATE at least every 1 000 ms. -/
  | callStatePeriodic
  /-- CALL_STATE_RECEIVE (R360): A node stores the newest CALL STATE, checks its CALLING CRC and drives its panels. -/
  | callStateReceive (src : Fin 64) (payload : List Word)
  /-- CALL_REQUEST_RECEIVE (R357): A CALL REQUEST reaches the call duty holder and waits for its next step. -/
  | callRequestReceive (src : Fin 64) (payload : List Word)
  /-- CALL_PATH_TIMEOUT (R376): A segment duty holder receives no CALL STATE for 3 s and raises CALL_PATH. -/
  | callPathTimeout
  /-- PANEL_ACK_FRAME (R365): A panel ACK frame is forwarded as a WRITE of ALARM_ACTION or SYS_ACTION to the evaluating node. -/
  | panelAckFrame (c : Fin 2) (panel : Fin 64) (ws : List Word)
  /-- PANEL_SILENCE_FRAME (R366): A panel SILENCE frame silences rank 6 on that panel. -/
  | panelSilenceFrame (c : Fin 2) (panel : Fin 64) (ws : List Word)
  /-- PANEL_REQUEST_FRAME (R365): A panel REQUEST frame is checked against the panel's kind and forwarded as a CALL REQUEST. -/
  | panelRequestFrame (c : Fin 2) (panel : Fin 64) (code : BitVec 8) (ws : List Word)
  /-- PANEL_HEARTBEAT (R368): A PANEL_HEARTBEAT marks the panel heard or records an unknown panel or kind mismatch. -/
  | panelHeartbeat (c : Fin 2) (panel : Fin 64) (ws : List Word)
  /-- PANEL_LOST_TIMEOUT (R368): A configured panel has not been heard for HEARTBEAT_TIMEOUT and becomes LOST. -/
  | panelLostTimeout (c : Fin 2) (panel : Fin 64)
  /-- PANEL_COMMAND_PERIODIC (R368): Every 1 000 ms the segment duty holder sends each panel its COMMAND and a NODE_HEARTBEAT. -/
  | panelCommandPeriodic
  /-- PANEL_ALARM_REPEAT (R368): Each unacknowledged condition shown on a panel is sent again at PRIO 2 at least every 10 s. -/
  | panelAlarmRepeat
  /-- PLACEMENT_ROUND (R382): A placement round starts on its trigger; the controllers compute and agree a decision of tasks, steps, duties and grants. -/
  | placementRound (late differ badPair : BitVec 4)
  /-- TASK_HANDOVER (R392): The old engine finishes its evaluation and writes the task record, and the new engine takes the task. -/
  | taskHandover (task : Nat)
  /-- DRAIN_OFF (R394): DRAIN_OFF orders a quad drained to OFF, or is refused. -/
  | drainOff (r : Req) (q : Fin 4)
  /-- RESUME (R394): RESUME cancels a drain. -/
  | resume (r : Req) (q : Fin 4)
  /-- DRAIN_COMPLETE (R25): A draining quad has handed over all its tasks and enters UPDATE or OFF. -/
  | drainComplete (q : Fin 4)
  /-- UPDATE_LOADED (R25): A quad in UPDATE has loaded new firmware and enters RESET. -/
  | updateLoaded (q : Fin 4)
  /-- QUAD_RETRY (R423): QUAD_ACTION RETRY sends a FAILED or OFF quad to RESET. -/
  | quadRetry (r : Req) (q : Fin 4)
  /-- ENGINE_RETRY (R423): ENGINE_ACTION RETRY returns a withdrawn engine to service. -/
  | engineRetry (r : Req) (e : Fin 16)
  /-- REBALANCE (R425): PLACEMENT_ACTION REBALANCE starts an immediate rebalance round. -/
  | rebalance (r : Req)
  /-- ROTATE_NOW (R400): ROTATE_NOW passes each quad's spare role to its most worn engine and rebalances. -/
  | rotateNow (r : Req)
  /-- FORGET_NODE (R425): FORGET_NODE removes a node from the PEER_ABSENT set until it is next counted. -/
  | forgetNode (r : Req) (n : BitVec 8)
  /-- SPARE_ROTATION (R400): At each multiple of ROTATION_DAYS the spare role rotates and a rebalance round follows. -/
  | spareRotation
  /-- WEAR_READ (R399): Every 24 h each engine's delay monitor is read, and WEAR marks engines WORN or withdraws them. -/
  | wearRead (e : Fin 16) (hz tj : Word)
  /-- FW_BEGIN (R395): FW_BEGIN starts erasing the firmware copy not loaded. -/
  | fwBegin (r : Req)
  /-- FW_WINDOW_WRITE (R396): A write to FW_WINDOW at FW_NEXT_WORD is programmed and the word index advances. -/
  | fwWindowWrite (r : Req) (idx : BitVec 21) (ws : List Word)
  /-- FW_COMMIT (R395): FW_COMMIT starts verifying the received firmware copy. -/
  | fwCommit (r : Req)
  /-- FW_CANCEL (R395): CANCEL ends receiving, or invalidates a staged copy. -/
  | fwCancel (r : Req)
  /-- FW_APPLY (R398): APPLY reads the staged firmware into DRAM and updates the quads one by one. -/
  | fwApply (r : Req)
  /-- FW_ERASE_COMPLETE (R395): The firmware target region is erased and receiving begins. -/
  | fwEraseComplete
  /-- FW_VERIFY_COMPLETE (R396): Verification ends; the FW_SEQ pair is programmed and the copy is STAGED, or REJECTED. -/
  | fwVerifyComplete
  /-- FW_RECEIVE_TIMEOUT (R395): 10 min pass without a firmware window write and the load returns to IDLE. -/
  | fwReceiveTimeout
  /-- FW_QUAD_STEP_COMPLETE (R398): An updated quad is counted in an effective round and the next quad update begins, or the update ends APPLIED or FAILED. -/
  | fwQuadStepComplete
  /-- HEARTBEAT_SEND (R408): Every 100 ms the node sends HEARTBEAT. -/
  | heartbeatSend
  /-- HEARTBEAT_RECEIVE (R409): A HEARTBEAT marks its sender present or counted, binds its MAC address and may change the view. -/
  | heartbeatReceive (mac : BitVec 48) (src : BitVec 8) (payload : List Word)
  /-- PEER_ABSENT_TIMEOUT (R409): 325 ms after its last heartbeat a node is declared absent and an immediate round follows. -/
  | peerAbsentTimeout (n : Fin 64)
  /-- DUTY_SEND (R413): The node sends DUTY on a change of its table and every 1 000 ms. -/
  | dutySend
  /-- DUTY_RECEIVE (R414): A DUTY message is checked, and a duty conflict is settled in favour of the lower-numbered claimant. -/
  | dutyReceive (src : Fin 64) (payload : List Word)
  /-- PLACEMENT_PERIODIC (R419): A PLACEMENT message is sent on a decision that moves work, and otherwise every 10 s. -/
  | placementPeriodic
  /-- C3_GRANT_COMPUTE (R417): Every 1 000 ms the node computes the C3 grants of the view from the heartbeats. -/
  | c3GrantCompute
  /-- PORT_LINK_CHANGE (R427): A port's PCS synchronises or loses synchronisation, and the port changes state, with preemption verify on return to UP. -/
  | portLinkChange (p : Fin 3) (synced negotiated verified : Bool) (speed : BitVec 2)
  /-- RING_FRAME_RECEIVE (R429): A frame arrives on a ring port; it is classed, forwarded, removed as own, delivered or discarded as a duplicate. -/
  | ringFrameReceive (p : Fin 2) (f : RingFrame)
  /-- STATION_FRAME_RECEIVE (R430): A frame arrives on link S; the proxy table learns its source and it is tagged onto the ring or discarded. -/
  | stationFrameReceive (f : RingFrame)
  /-- HSR_SUPERVISION_SEND (R429): Every 2 000 ms the node sends HSR supervision frames. -/
  | hsrSupervisionSend
  /-- PROXY_ENTRY_EXPIRY (R430): A proxy table entry unheard for 60 s is removed. -/
  | proxyEntryExpiry (k : Fin 8)
  /-- RING_OPEN_TIMEOUT (R431): For 6 000 ms no own frame has returned in one direction, or frames return both ways, and RING_OPEN changes. -/
  | ringOpenTimeout
  /-- PTP_MESSAGE_RECEIVE (R432): An IEEE 1588 message is timestamped, corrected as a transparent clock and used by the slave clock. -/
  | ptpMessageReceive (p : Fin 3) (m : PtpMsg)
  /-- PTP_PEER_DELAY_MEASURE (R433): Every 1 000 ms the mean path delay is measured on each ring port. -/
  | ptpPeerDelayMeasure (p : Fin 2) (ns : Word)
  /-- PTP_ANNOUNCE_TIMEOUT (R433): Three announce intervals pass without an Announce and PTP goes to NO_MASTER, with PTP_NO_MASTER after 10 s. -/
  | ptpAnnounceTimeout
  /-- ORIGINATION_SEND (R437): A class's token bucket holds enough tokens and the next queued message leaves. -/
  | originationSend (cls : Fin 4)
  /-- FRAME_BUFFER_ECC_ERROR (R440): A frame in the frame buffer has an uncorrectable error; it is ended invalid or discarded and own frames are resent. -/
  | frameBufferEccError (cls : Fin 4) (what : FrameCopy) (src : BitVec 48) (seq : BitVec 16)
  /-- PAUSE_REFRESH (R441): While held link S C3 frames exceed 256 KiB, PAUSE is sent every 100 µs, and a zero PAUSE once they fall to 128 KiB. -/
  | pauseRefresh
  /-- BEREB_RECEIVE (R449): A Bereb message is taken from a receive queue and checked, then discarded or passed to its handler. -/
  | berebReceive (mac : BitVec 48) (ws : List Word)
  /-- READ (R451): A READ returns WORD_COUNT words in a READ_REPLY, or BUSY. -/
  | berebRead (q : Rq) (addr : Word) (count : BitVec 16)
  /-- WRITE (R451): A WRITE applies its words object by object and answers DONE. -/
  | berebWrite (q : Rq) (addr : Word) (ws : List Word)
  /-- SUBSCRIBE (R453): A SUBSCRIBE creates or replaces a subscription and returns the range's words. -/
  | berebSubscribe (q : Rq) (addr : Word) (count : BitVec 16) (w : Word)
  /-- UNSUBSCRIBE (R453): An UNSUBSCRIBE ends the named subscription. -/
  | berebUnsubscribe (q : Rq)
  /-- SNAPSHOT_REQUEST (R454): A node's SNAPSHOT_REQUEST makes the receiver send its snapshots and duty image to the sender. -/
  | snapshotRequest (q : Rq)
  /-- IDENTIFY (R454): IDENTIFY returns the node's identity, status, label and the requester's level. -/
  | identify (q : Rq)
  /-- END_SESSION (R454): END_SESSION ends the sender's subscriptions in that SESSION, and its amendment and cursors. -/
  | endSession (q : Rq)
  /-- SUBSCRIPTION_CHECK (R453): Every 10 ms subscribed ranges are checked and notifications are sent. -/
  | subscriptionCheck
  /-- SUBSCRIPTION_LAPSE (R453): A station has sent no request in its SESSION for 60 s and its subscriptions lapse. -/
  | subscriptionLapse (mac : BitVec 48)
  /-- SEQUENCE_HOLD_EXPIRY (R457): A broadcast held for a missing SEQUENCE for 2 ms is delivered and what is still missing is a gap. -/
  | sequenceHoldExpiry (src : Fin 64) (cls : Fin 4)
  /-- EVENT (R455): Staged class E records are sent in an EVENT to subscribers of EVENT_FEED. -/
  | eventSend
  /-- RING_CLEAR_COUNTERS (R462): CLEAR_COUNTERS sets every ring counter to 0. -/
  | ringClearCounters (r : Req)
  /-- CLEAR_PEAKS (R462): CLEAR_PEAKS sets every PEAK_KIB to its present occupancy. -/
  | clearPeaks (r : Req)
  /-- CAN_BUS_IDLE_DETECT (R468): A controller sees 11 consecutive recessive bits and enters RESTRICTED or, holding the duty, NORMAL. -/
  | canBusIdleDetect (c : Fin 2)
  /-- CAN_NORMAL_ENTRY (R468): 20 ms after taking the segment duty and after 11 recessive bits, the controller enters NORMAL. -/
  | canNormalEntry (c : Fin 2)
  /-- CAN_BUS_OFF (R468): The transmit error count passes 255 and the controller enters BUS_OFF, sending LOST. -/
  | canBusOff (c : Fin 2)
  /-- CAN_BUS_OFF_RECOVERY (R470): After 128 recessive sequences and any hold the controller returns to RESTRICTED and CAN READY. -/
  | canBusOffRecovery (c : Fin 2)
  /-- RECOVER_NOW (R470): RECOVER_NOW ends a bus-off hold. -/
  | recoverNow (r : Req) (c : Fin 2)
  /-- CAN_CLEAR_COUNTERS (R487): CAN_CONTROL CLEAR_COUNTERS sets the controller's counters to 0. -/
  | canClearCounters (r : Req) (c : Fin 2)
  /-- CAN_FRAME_RECEIVE (R474): A received frame is matched to a filter and stored in a buffer, shadow slot or FIFO, or discarded. -/
  | canFrameReceive (c : Fin 2) (f : CanFrame)
  /-- CAN_RX_SERVICE (R473): The CAN duty engine reads and releases a receive buffer and extracts mapped values or handles panel frames. -/
  | canRxService (c : Fin 2) (b : Fin 48) (midRead : Bool) (bUpset : Word)
  /-- BUFFER_LOCK_LAPSE (R473): A receive buffer lock is not released within 1 ms and lapses. -/
  | bufferLockLapse (c : Fin 2) (b : Fin 48)
  /-- TX_REQUEST (R477): The duty engine writes TX_REQUEST and a filled transmit buffer becomes pending. -/
  | txRequest (c : Fin 2) (k : Fin 16) (f : CanFrame)
  /-- TX_CANCEL (R478): The duty engine writes TX_CANCEL to cancel a pending frame. -/
  | txCancel (c : Fin 2) (k : Fin 16) (p : TxPoint)
  /-- CAN_TX_COMPLETE (R477): A sent frame completes; TX_RESULT and TIMESTAMP are set and FULL clears. -/
  | canTxComplete (c : Fin 2) (k : Fin 16) (loopDelay : BitVec 7)
  /-- CAN_TX_ERROR (R480): A sent frame loses arbitration or ends in error; it is offered again or, after four collisions, ends COLLISION. -/
  | canTxError (c : Fin 2) (k : Fin 16) (e : TxErr)
  /-- MAPPED_TIMEOUT (R296): No frame has been accepted for a mapped entry within TIMEOUT_MS and TIMED_OUT is set. -/
  | mappedTimeout (c : Fin 2) (e : Nat)
  /-- OPEN (R128): OPEN begins an amendment owned by the requester, or is ignored. -/
  | amendOpen (r : Req)
  /-- APPLY (R129): APPLY sends the owner's amendment buffer to CHECKING. -/
  | amendApply (r : Req)
  /-- ABORT (R131): ABORT discards an open amendment. -/
  | amendAbort (r : Req)
  /-- AMEND_OPEN_TIMEOUT (R131): 60 s pass without a write by the amendment's owner and it returns to IDLE. -/
  | amendOpenTimeout
  /-- AMEND_CHECK_COMPLETE (R130): CHECKING ends; the amendment is rejected, or its Live fields apply and it goes to COMMITTING. -/
  | amendCheckComplete
  /-- COMMIT_START (R135): A waiting commit, repair commit or trim commit begins once no other NOR write runs. -/
  | commitStart
  /-- NOR_COMMIT_STEP_COMPLETE (R133): A NOR erase, program or read-back step of a commit completes and the next step follows, ending COMMITTED or FAILED. -/
  | norCommitStepComplete (readBackOk : Bool)
  /-- IMAGE_BEGIN (R137): IMAGE_BEGIN starts erasing the target slot for an image load. -/
  | imageBegin (r : Req)
  /-- IMAGE_WINDOW_WRITE (R138): A write to IMAGE_WINDOW at IMAGE_NEXT_WORD is programmed and the word index advances. -/
  | imageWindowWrite (r : Req) (idx : BitVec 23) (ws : List Word)
  /-- IMAGE_COMMIT (R137): IMAGE_COMMIT starts verifying the received image. -/
  | imageCommit (r : Req)
  /-- IMAGE_CANCEL (R137): IMAGE_CANCEL abandons a receiving image and queues a repair commit. -/
  | imageCancel (r : Req)
  /-- IMAGE_ERASE_COMPLETE (R137): The image target region is erased and receiving begins. -/
  | imageEraseComplete
  /-- IMAGE_VERIFY_COMPLETE (R138): Image verification ends; the COMMIT pair is programmed and the image is PENDING, or it is REJECTED. -/
  | imageVerifyComplete
  /-- IMAGE_RECEIVE_TIMEOUT (R137): 10 min pass without an image window write and the load returns to IDLE with a repair commit. -/
  | imageReceiveTimeout
  /-- NAND_SCAN_COMPLETE (R508): The NAND scan finds the write points and the newest checkpoint, and recorder time may be resumed. -/
  | nandScanComplete (info : NandInfo)
  /-- INDEX_BUILD_COMPLETE (R508): The RECORD_SEQ index of the NAND tiers is built and cursors leave BUSY. -/
  | indexBuildComplete
  /-- NAND_SEGMENT_PROGRAM (R503): A segment is due, 100 ms after its first record or when full, and its page is programmed and read back. -/
  | nandSegmentProgram (ok : Bool)
  /-- NAND_BLOCK_REFRESH (R506): A block due for refresh has its records copied forward and is recycled. -/
  | nandBlockRefresh (block corrected : Nat)
  /-- RECORDER_CHECKPOINT (R494): Every 50 000 ms a RECORDER_CHECKPOINT record is staged. -/
  | recorderCheckpoint
  /-- RECORDS_DROPPED_REPORT (R500): While records are dropped, and once after, a RECORDS_DROPPED record is staged every 10 s. -/
  | recordsDroppedReport
  /-- CLAIM (R510): CLAIM takes an unowned cursor for the requester. -/
  | cursorClaim (r : Req) (c : Fin 8)
  /-- RELEASE (R510): RELEASE frees the owner's cursor. -/
  | cursorRelease (r : Req) (c : Fin 8)
  /-- CURSOR_IDLE_TIMEOUT (R510): A cursor not accessed by its owner for 60 s is released. -/
  | cursorIdleTimeout (c : Fin 8)
  /-- POSITION_LOW_WRITE (R511): A write to POSITION_LOW sets the cursor position and starts a window fill. -/
  | positionLowWrite (r : Req) (c : Fin 8) (w : Word)
  /-- ADVANCE (R511): ADVANCE moves the position past the last record examined and starts a fill. -/
  | cursorAdvance (r : Req) (c : Fin 8)
  /-- SEEK_OLDEST (R511): SEEK_OLDEST moves the position to the oldest resident record and starts a fill. -/
  | seekOldest (r : Req) (c : Fin 8)
  /-- SEEK_NEWEST (R511): SEEK_NEWEST moves the position to NEXT_SEQ and starts a fill. -/
  | seekNewest (r : Req) (c : Fin 8)
  /-- WINDOW_FILL_COMPLETE (R511): A window fill ends with up to 16 matching records and BUSY clears. -/
  | windowFillComplete (c : Fin 8) (bad : List (Word × Word))
  /-- TREND_SAMPLE (R514): At each TREND_PERIOD_S a trend sample of each owned point is stored in the cache. -/
  | trendSample
  /-- TREND_ARCHIVE (R514): At each ARCHIVE_PERIOD_S one summary entry per point is written to the trend tier. -/
  | trendArchive
  /-- BACKUP_SUPPLY_CHANGEOVER (R520): VAUX crosses its thresholds and the backup domain changes supply between VAUX and VBAT. -/
  | backupSupplyChangeover (toVbat : Bool)
  /-- BROWNOUT_LATCH_SET (R521): The backup supply falls below 1.55 V for 2 µs and the brownout latch sets. -/
  | brownoutLatchSet (lost : Bool)
  /-- VBAT_TEST (R522): At TIME READY and every 60 min VBAT is tested under load and VBAT_LOW and VBAT_ABSENT are updated. -/
  | vbatTest (mv : BitVec 12)
  /-- OP_MS_INCREMENT (R525): Every 1 024 Gauze ticks OP_MS advances and is written as pairs. -/
  | opMsIncrement
  /-- RTC_ROLLOVER_COMPARISON (R530): At each RTC seconds roll-over the RTC is compared with PTP and stepped or shifted, with the PPS pulse. -/
  | rtcRolloverComparison (ptpNs : Int)
  /-- STAGE_WRITE (R528): A WRITE of STAGE_SECONDS and STAGE_SUBSECOND sets or clears STAGED. -/
  | stageWrite (r : Req) (sec sub : Option Word)
  /-- COMMIT (R528): RTC_CONTROL COMMIT sets the RTC to the staged time at the next crystal edge, a step. -/
  | rtcCommit (r : Req)
  /-- CANCEL_STAGE (R544): CANCEL_STAGE clears STAGED. -/
  | cancelStage (r : Req)
  /-- STAGE_LAPSE (R528): Staged values lapse 10 s after staging and STAGED clears. -/
  | stageLapse
  /-- RTC_SHIFT_WRITE (R532): A write to RTC_SHIFT starts a shift of the prescaler. -/
  | rtcShiftWrite (r : Req) (w : Word)
  /-- SHIFT_COMPLETE (R532): A negative shift has held the prescaler for its cycles and SHIFT_BUSY clears. -/
  | shiftComplete
  /-- RTC_TRIM_CODE_WRITE (R533): A write to RTC_TRIM_CODE sets the trim code from the next roll-over. -/
  | rtcTrimCodeWrite (r : Req) (w : Word)
  /-- AUTO_TRIM_ADJUST (R533): Every 600 s of unbroken SYNCED the trim code moves by one if the shifts exceed 1.0 ppm. -/
  | autoTrimAdjust
  /-- TIME_PERIODIC (R536): A TIME message of KIND PERIODIC is sent every TIME_BROADCAST_S. -/
  | timePeriodic
  /-- SHUTDOWN (R538): SHUTDOWN waits for the backlog to empty or for 2 s, then drives PWRON low. -/
  | shutdown (r : Req)
  /-- PWRON_OFF (R538): The backlog reaches 0 or 2 s pass and PWRON goes low. -/
  | pwronOff
  /-- WAKEN_LOW (R538): WAKEn is low for 10 ms; it ends SHUTDOWN, or otherwise sets WAKE_SEEN. -/
  | wakenLow
  /-- WAKE_AT_MATCH (R538): SECONDS reaches a non-zero WAKE_AT and SHUTDOWN ends. -/
  | wakeAtMatch
  /-- SAMPLER_WRAP (R551): A sampling counter wraps, sets WRAPPED, reloads and takes a sample if SAMPLE is set. -/
  | samplerWrap (k : Fin 16) (extra : Word) (src : SampleSrc)
  /-- SAMPLER_SELECT_WRITE (R549): A write to SAMPLER_SELECT changes the counter's event, enable, chain and sample settings at the next edge. -/
  | samplerSelectWrite (r : Req) (k : Fin 16) (w : Word)
  /-- COUNT_WRITE (R560): An Engineer-level write of COUNT replaces a sampling counter's value at the next edge. -/
  | countWrite (r : Req) (k : Fin 16) (ws : List Word)
  /-- CLEAR_WRAPS (R563): CLEAR_WRAPS clears every WRAPPED bit of both kinds of counter. -/
  | clearWraps (r : Req)
  /-- DUMP_PERIODIC (R555): At each multiple of DUMP_PERIOD_S every counter is captured into a dump. -/
  | dumpPeriodic
  /-- DUMP_NOW (R555): DUMP_NOW captures every counter into a dump. -/
  | dumpNow (r : Req)
  /-- COUNTER_DUMP (R557): A dump or a batch of samples is sent in COUNTER_DUMP parts to DUMP_FEED subscribers. -/
  | counterDump
  /-- RESEND_DUMP (R558): A DUMP_SEQ written to RESEND_DUMP sends that dump again if still in the ring. -/
  | resendDump (r : Req) (seq : Word)
  /-- TAP_INSTRUCTION (R579): A test access port instruction is loaded; any other than BYPASS or IDCODE takes the logic balls out of the node's control. -/
  | tapInstruction (ins : TapIns)
  /-- REGISTER_WRITE (R8): A write to an object with no row of its own is applied, or ignored, under the access and pairing rules. -/
  | registerWrite (r : Req) (addr : Word) (ws : List Word)
  /-- DO_CURRENT_LIMIT (R272): A digital output's load draws beyond its current limit; the switch limits within 20 µs and raises OVERLOAD in DO_DIAG, which wakes the owning quad. -/
  | doCurrentLimit (n : Fin 8) (isLimiting : Bool)
  /-- CAN_RECEIVE_ERROR (R470): A bus error is detected while receiving, the receive error count changes, and the controller may become error passive or return to error active. -/
  | canReceiveError (c : Fin 2) (e : CanErr) (dataPhase eight : Bool)
  /-- OSCILLATOR_START (R578): The 32.768 kHz crystal oscillator starts within 500 ms of the backup domain first receiving supply, and Gauze changes from its internal oscillator to the crystal lock. -/
  | oscillatorStart
  /-- RESTART_SLOWED_END (R276): VFLD has stayed above 12.0 V for 60 s, so slowed restarts end and RESTART_SLOWED clears. -/
  | restartSlowedEnd
  deriving DecidableEq, Repr

end Sys2Proof
end

