-- ==== Sys2Proof/Config.lean ====
section
/-! DEFINITION. What the spec leaves open: opaque constants and functions, of which nothing can be proved but that they
are functions. Each is named in the assumption log. -/

namespace Sys2Proof

/-- The free values: the value drawn at the n-th draw (log entry 8). -/
opaque Config.freeWord : Nat → Word

/-- The factory MAC address of this node (R459; log entry 8). -/
opaque Config.factoryMac : BitVec 48

/-- Temperature of an RTD above the highest resistance its equation reaches, by type code and resistance (R176; log entry 9). -/
opaque Config.rtdBeyond : Nat → Word → Word

/-- Thermoelectric voltage in V at a temperature, by type code: the IEC 60584-1 reference function (R184; log entry 9). -/
opaque Config.tcVolt : Nat → Word → Word

/-- Temperature of a thermoelectric voltage in V, by type code: the inverse of the reference function (R176, R184; log entry 9). -/
opaque Config.tcTemp : Nat → Word → Word

/-- Raw code of a resistance sample in which a half-sample finds no current at all, by the voltages measured (R183; log entry
9). -/
opaque Config.noCurrentCode : Word → Word → BitVec 24

/-- The envelope of a span in m/s², each value a binary32: by ENV_FILTER, CAPTURE_RATE, SENSITIVITY and the span's codes (R221;
log entry 10). -/
opaque Config.envelope : Word → Word → Word → List Word → List Word

/-- The code of a span at a place between its samples, counted from the first (R221; log entry 10). -/
opaque Config.between : List Word → Rat → Rat

/-- Lower wake bound of a channel by the values its points hold: UAI number, newest value and quality (R29; log entry 11). -/
opaque Config.wakeLow : Nat → Word → Word → Word

/-- Upper wake bound of a channel (R29; log entry 11). -/
opaque Config.wakeHigh : Nat → Word → Word → Word

/-- The instruction a sample of number n names, where an event the node itself raises takes it (R552; log entry 8). -/
opaque Config.sampleOffset : Word → Word

/-- The task a sample of number n names, likewise (R553; log entry 8). -/
opaque Config.sampleTask : Word → BitVec 16

/-- Gauze ticks within the millisecond at the n-th sample or dump (R553, R557; log entry 8). -/
opaque Config.subTicks : Nat → BitVec 10

/-- QUALITY word of the ALARM of a SYSTEM condition, which R341 does not lay out (log entry 8). -/
opaque Config.sysQuality : Word

/-- Milliseconds of shelving left to a point restored as SHELVED, which no record carries (R328; log entry 8). -/
opaque Config.restoredShelve : Nat → Nat

/-- PRIORITY in the ALARM of a point-wide event, which R341 does not give (log entry 8). -/
opaque Config.widePriority : BitVec 4

/-- The firmware's tabled estimate of a task's cycles, by kind code (R380; log entry 8). -/
opaque Config.taskEstimate : Nat → Word

/-- The number of a fabric port in a MEMORY record, by unit (R18, R490; log entry 8). -/
opaque Config.fabricPort : Nat → Word

/-- The ship point whose entry of the point replica holds an address of DRAM (R41, R70; log entry 96). -/
opaque Config.replicaEntry : Nat → Nat

/-- The point and the place in its trend cache that hold an address of DRAM (R41, R70; log entry 96). -/
opaque Config.trendEntry : Nat → Nat × Nat

/-- The staged record, and which of its two copies, that hold an address of DRAM (R41, R70; log entry 96). -/
opaque Config.stagedEntry : Nat → Nat × Bool

/-- The task whose record holds an address of DRAM (R41, R70, R390; log entry 96). -/
opaque Config.taskEntry : Nat → Nat

/-- The Canvas revision of a firmware version (R389, R423; log entry 8). -/
opaque Config.canvasRevision : Word → BitVec 8

/-- Factory frequency F0 in Hz of each engine's delay monitor (R399; log entry 113). -/
opaque Config.monitorF0 : Nat → Word

/-- Frequency in Hz of an engine's delay monitor at 85 °C, by its reading and the junction temperature: the correction by the
factory coefficient (R399; log entry 113). -/
opaque Config.monitorAt85 : Nat → Word → Word → Word

end Sys2Proof
end

