-- ==== Sys2Proof/Machine/State.lean ====
section
/-! DEFINITION. The state of the node: every register, buffer, counter, mode and pin the spec gives it, and the
queue of waiting commands, as plain data. Each field's docstring cites the rule of spec/ that names it. -/

namespace Sys2Proof.Machine
open Sys2Proof

/-- Bytes by address, rising, none equal to what an unlisted address reads as. -/
abbrev Mem := List Host.Cell

/-- The seven quad states with the codes of STATE in QUAD_STATUS (R25, R44). -/
inductive QuadState where
  | off | reset | sleep | run | drain | update | failed
  deriving DecidableEq, Repr

/-- What a drained quad enters when its tasks are handed over (R25). -/
inductive DrainTo where
  | toOff | toUpdate
  deriving DecidableEq, Repr

/-- The model's own clock and its source of free values. -/
structure Clk where
  /-- R525: Model clock in milliseconds: advanced by OP_MS_INCREMENT only; every window of time is measured with it. -/
  now : Nat := 0
  /-- R54: Number of free values already drawn; the next one is Config.freeWord of it. -/
  free : Nat := 0
  deriving DecidableEq, Repr

/-- One quad: power, clock and reset domain (R15, R25, R44). -/
structure Quad where
  /-- R25, R44: STATE of QUAD_STATUS. -/
  st : QuadState := .reset
  /-- R19, R44: QUAD_EPOCH. -/
  epoch : BitVec 16 := 1
  /-- R25, R44: tasks that its engines have begun and not ended, which ENGINE_BUSY shows. -/
  running : List Nat := []
  /-- R44, R32: PLL_LOCK. -/
  pllLock : Bool := false
  /-- R25: consecutive failed self-check attempts. -/
  tries : Nat := 0
  /-- R25: what Canvas ordered the drain to end in. -/
  drainTo : Option DrainTo := none
  /-- R394: drained by order and to stay OFF until RESUME or RETRY. -/
  drainHold : Bool := false
  /-- R25, R394: powered off by Canvas isolation. -/
  isolated : Bool := false
  /-- R25: model time of entry to FAILED or OFF, for the 10 min retry interval. -/
  faultAt : Nat := 0
  /-- R16, R17: 1 MiB of quad memory (reads zero after RESET). -/
  memory : Mem := []
  /-- R83, R398: firmware sequence loaded into the quad. -/
  fwSeq : Word := 0
  /-- R69: model time of the last full quad-memory scrub pass. -/
  scrubbedAt : Nat := 0
  deriving DecidableEq, Repr

/-- One engine (R16, R45, R66). -/
structure Engine where
  /-- R45: STEP_Em of ENGINE_CLOCK. -/
  step : BitVec 2 := 0
  /-- R33: clock step that Canvas chose, waiting for the task boundary. -/
  nextStep : Option (BitVec 2) := none
  /-- R66, R421: withdrawn by Canvas. -/
  withdrawn : Bool := false
  /-- R66: operating times (OP_MS) of the integrity faults charged within 24 h. -/
  faultTimes : List Nat := []
  /-- R16: 32-bit cycle counter. -/
  cycles : Word := 0
  /-- R16: 64 KiB instruction scratch. -/
  imem : Mem := []
  /-- R16: 64 KiB data scratch. -/
  dmem : Mem := []
  deriving DecidableEq, Repr

/-- One fabric request outstanding (R18 to R23). -/
structure FabReq where
  /-- R18: name of the transaction. -/
  id : Nat := 0
  /-- R18: requesting unit. -/
  req : FabUnit := .switch
  /-- R18: target unit. -/
  tgt : FabUnit := .dram
  /-- R20: epoch of the requester at issue, 0x0000 for a unit that is no quad. -/
  reqEpoch : BitVec 16 := 0
  /-- R20: epoch of the target at issue. -/
  tgtEpoch : BitVec 16 := 0
  /-- R21: the words of a write in one beat, none for a read. -/
  write : Option (List Word) := none
  /-- R18: words of a read in one beat. -/
  count : Nat := 1
  /-- R18: byte address in the target. -/
  addr : Nat := 0
  /-- R21: the first beat has entered the target's port. -/
  accepted : Bool := false
  /-- R71: its beat was delivered marked poisoned. -/
  poison : Bool := false
  /-- R22: already completed ABSENT; a reply still in the fabric will be discarded. -/
  done : Bool := false
  deriving DecidableEq, Repr

/-- A completion delivered to its requester (R18). -/
structure FabDone where
  /-- R18: name of the transaction. -/
  id : Nat := 0
  /-- R18, R21: ABSENT, not a reply. -/
  absent : Bool := false
  /-- R18, R70: the words of a read reply, a C-pair's two beside each other, each with its poisoned mark. -/
  data : List (Word × Bool) := []
  deriving DecidableEq, Repr

/-- A beat that a port asks for again (R71). -/
structure ParityTry where
  /-- R71: the port that receives it. -/
  port : FabUnit := .dram
  /-- R71: the unit that sends it. -/
  from_ : FabUnit := .dram
  /-- R71: its address over sixteen. -/
  beat : Nat := 0
  /-- R71: consecutive failed attempts. -/
  tries : Nat := 0
  deriving DecidableEq, Repr

/-- The node fabric (R18 to R24, R47, R71). -/
structure Fabric where
  /-- R18: requests without a completion yet. -/
  out : List FabReq := []
  /-- R18: name of the next transaction. -/
  nextId : Nat := 0
  /-- R18: the last 16 completions delivered, newest first. -/
  done : List FabDone := []
  /-- R47: ABSENT_COUNT. -/
  absentCount : Word := 0
  /-- R47: STALE_DISCARD_COUNT. -/
  staleCount : Word := 0
  /-- R71: the beat that each port is asking for again. -/
  parity : List ParityTry := []
  deriving DecidableEq, Repr

/-- One GAUZE_SLOT entry, one of its two copies (R28, R72). -/
structure SlotEntry where
  /-- R28: QUAD_MASK. -/
  mask : BitVec 4 := 0
  /-- R28: CLASS. -/
  cls : BitVec 2 := 0
  /-- R28: OFFSET. -/
  offset : BitVec 20 := 0
  /-- R72: the copy fails its parity check. -/
  parityBad : Bool := false
  deriving DecidableEq, Repr

/-- The always-on low-power domain (R26 to R31, R72). -/
structure Gauze where
  /-- R578: running from its internal oscillator, not the crystal lock. -/
  internalOsc : Bool := true
  /-- R27, R28, R72: first copy of the slot table. -/
  slotsA : Vector SlotEntry 256 := Vector.replicate 256 {}
  /-- R72: second copy of the slot table. -/
  slotsB : Vector SlotEntry 256 := Vector.replicate 256 {}
  /-- R29, R48: LOW_BOUND of UAIn. -/
  low : Vector Pair 16 := Vector.replicate 16 ⟨0x80000000, 0x7FFFFFFF⟩
  /-- R29, R48: HIGH_BOUND of UAIn. -/
  high : Vector Pair 16 := Vector.replicate 16 ⟨0x7FFFFFFF, 0x80000000⟩
  /-- R49: the Canvas power-level decision held in Gauze. -/
  powerLevel : Pair := Pair.mk0 0
  /-- R27, R30: pending wakes of the quads. -/
  wakes : BitVec 4 := 0
  /-- R27, R30: tasks that fell due and have not begun. -/
  due : List Nat := []
  deriving DecidableEq, Repr

/-- POWER_LEVEL and the levels behind it (R34 to R38, R46). -/
structure Power where
  /-- R46: STATION_LEVEL. -/
  station : BitVec 2 := 0
  /-- R34: level given by the power-level point, 0 without one. -/
  point : BitVec 2 := 0
  /-- R46: EFFECTIVE. -/
  eff : BitVec 2 := 0
  /-- R37, R46: CAP_EXCEEDED. -/
  capExceeded : Bool := false
  deriving DecidableEq, Repr

/-- DRAM, 4 GiB (R41, R70). -/
structure Dram where
  /-- R75: the DRAM stack has failed as a whole. -/
  failed : Bool := false
  /-- R41: the bytes of DRAM. -/
  bytes : Mem := []
  /-- R70: byte addresses, multiples of 8, of the 64-bit words marked poisoned, rising. -/
  poisoned : List Nat := []
  /-- R69: model time of the last full scrub pass. -/
  scrubbedAt : Nat := 0
  deriving DecidableEq, Repr

/-- READY state of one (FUNCTION, INDEX) (R83 to R85). -/
structure FnState where
  /-- R83: in service. -/
  ready : Bool := false
  /-- R85: READY or LOST has been announced this start. -/
  announced : Bool := false
  /-- R85: READY has been announced this start. -/
  everReady : Bool := false
  /-- R99: READY_AT of the function, milliseconds since t0. -/
  readyAt : Word := 0xFFFFFFFF
  /-- R84: SUSPECT of its READY. -/
  suspect : Bool := false
  /-- R84: PARTIAL of its READY. -/
  partial_ : Bool := false
  /-- R84: LATE of its READY. -/
  late : Bool := false
  /-- R84: CLAMP_COUNT. -/
  clamps : Nat := 0
  /-- R84: NOT_STARTED. -/
  notStarted : Nat := 0
  deriving DecidableEq, Repr

/-- START_PHASE of NODE_STATUS (R101). -/
inductive Phase where
  | nor | firmware | sections | part | complete | completeLate
  deriving DecidableEq, Repr

/-- The node domain's start state and status (R77 to R102). -/
structure Sys where
  /-- R77, R78: level of PORn. -/
  porn : Bool := false
  /-- R78: logic side held in reset. -/
  held : Bool := true
  /-- R102: START_CAUSE, set at t0. -/
  cause : BitVec 2 := 0
  /-- R102: cause of the reset now asserted. -/
  nextCause : BitVec 2 := 0
  /-- R99: MS_SINCE_START. -/
  msSince : Word := 0
  /-- R101: START_PHASE. -/
  phase : Phase := .nor
  /-- R101: DEADLINE_PASSED. -/
  deadlinePassed : Bool := false
  /-- R99: NOT_STARTED_COUNT. -/
  notStarted : Word := 0
  /-- R101: SLOT, 0 A and 1 B. -/
  slot : Bool := false
  /-- R101: SUSPECT_ANY. -/
  suspectAny : Bool := false
  /-- R83, R85, R102: READY state by FUNCTION * 256 + INDEX. -/
  fns : Tab FnState := []
  /-- R100: STEPPING. -/
  stepping : BitVec 8 := 0
  /-- R2, R100: variant code 0x42, else 0x41. -/
  variantB : Bool := false
  /-- R93: peers whose snapshot is awaited. -/
  snapAwait : List Nat := []
  /-- R93: peers asked once more. -/
  snapAgain : List Nat := []
  /-- R93: peers given up, so PARTIAL. -/
  snapMissing : List Nat := []
  deriving DecidableEq, Repr

/-- Pins of the package that the logic side or the backup domain drives (R79, R538, R569). -/
structure Pins where
  /-- R79: LA transmit pair in electrical idle. -/
  laIdle : Bool := true
  /-- R79: LB transmit pair in electrical idle. -/
  lbIdle : Bool := true
  /-- R79: LS transmit pair in electrical idle. -/
  lsIdle : Bool := true
  /-- R79: CA_TXD, recessive high. -/
  caTxd : Bool := true
  /-- R79: CB_TXD, recessive high. -/
  cbTxd : Bool := true
  /-- R79: CA_STB, high in standby. -/
  caStb : Bool := true
  /-- R79: CB_STB, high in standby. -/
  cbStb : Bool := true
  /-- R79: NF_CE0n. -/
  nfCe0n : Bool := true
  /-- R79: NF_CE1n. -/
  nfCe1n : Bool := true
  /-- R79: CF_CSn. -/
  cfCsn : Bool := true
  /-- R79: NF_WPn, low protects. -/
  nfWpn : Bool := false
  /-- R79, R81: FLTn, low asserts. -/
  fltn : Bool := false
  /-- R579: the test access port has taken the logic balls. -/
  tapTaken : Bool := false
  deriving DecidableEq, Repr

/-- One field of the working copy: its value words, and their complements where the field is critical (R117). -/
structure FieldVal where
  /-- R117: the value words. -/
  ws : List Word := []
  /-- R117: the complement words of a critical field, else empty. -/
  cs : List Word := []
  /-- R126: the first value word as read, none for an absent field. -/
  found : Option Word := none
  deriving DecidableEq, Repr

/-- One entity of a section of the working copy (R111, R122). -/
structure Ent where
  /-- R110, R111: its fields by FIELD_ID. -/
  fields : Tab FieldVal := []
  /-- R122: the entity is suspect. -/
  suspect : Bool := false
  /-- R84: clamped fields of the entity. -/
  clamps : Nat := 0
  deriving DecidableEq, Repr

/-- One section of the working copy (R113, R118, R122). -/
structure Sect where
  /-- R111: the section fields. -/
  top : Ent := {}
  /-- R111, R113: the entities by key. -/
  ents : Tab Ent := []
  /-- R118: listed but without a usable copy. -/
  noCopy : Bool := false
  /-- R118: taken from the other slot. -/
  fellBack : Bool := false
  deriving DecidableEq, Repr

/-- One CONFIG_REPORT entry (R126). -/
structure RepEntry where
  /-- R126: SECTION. -/
  sec : BitVec 8 := 0
  /-- R126: REASON. -/
  reason : BitVec 8 := 0
  /-- R126: FIELD_ID. -/
  fld : BitVec 16 := 0
  /-- R126: entity key. -/
  key : Word := 0xFFFFFFFF
  /-- R126: FOUND. -/
  found : Word := 0xFFFFFFFF
  /-- R126: APPLIED. -/
  applied : Word := 0xFFFFFFFF
  deriving DecidableEq, Repr

/-- The configuration read at start and its status (R103 to R142). -/
structure Cfg where
  /-- R117: values in effect, by section type. -/
  run : Tab Sect := []
  /-- R117, R129, R132: working copy that a commit serialises. -/
  work : Tab Sect := []
  /-- R403, R410: configuration of the points taken by peer alarm duty, by their owner. -/
  duty : Tab (Tab Sect) := []
  /-- R141: CONFIG_ABSENT. -/
  absent : Bool := true
  /-- R141: FALLBACK. -/
  fallback : Bool := false
  /-- R141: COMMIT_INTERRUPTED. -/
  interrupted : Bool := false
  /-- R141: SLOT, 0 A and 1 B. -/
  slot : Bool := false
  /-- R141: OTHER_VALID. -/
  otherValid : Bool := false
  /-- R141: FW_COPY. -/
  fwCopy : Bool := false
  /-- R105: a firmware copy has been loaded. -/
  fwLoaded : Bool := false
  /-- R105: FW_SEQ of the copy loaded. -/
  fwSeq : Word := 0
  /-- R105: firmware version of the copy loaded. -/
  fwVersion : Word := 0
  /-- R82: phases of the start read completed, 0 to 3. -/
  phasesDone : Nat := 0
  /-- R127, R140: entries of the start report, the first 4 096 readable in the REPORT window. -/
  report : List RepEntry := []
  /-- R141: entries in the start report. -/
  reportTotal : Nat := 0
  /-- R127: the start report has left. -/
  reportSent : Bool := false
  /-- R142: SEQ_IN_USE. -/
  seqInUse : Pair := Pair.mk0 0
  /-- R142: SEQ_HIGHEST. -/
  seqHighest : Pair := Pair.mk0 0
  deriving DecidableEq, Repr

/-- AMEND_STATE with its codes 0 to 6 (R131, R143). -/
inductive AmendState where
  | idle | open_ | checking | committing | committed | rejected | failed
  deriving DecidableEq, Repr

/-- IMAGE_STATE with its codes 0 to 5 (R137, R143). -/
inductive ImageState where
  | idle | erasing | receiving | verifying | pending | rejected
  deriving DecidableEq, Repr

/-- What a slot commit is made for (R131, R136, R197). -/
inductive CommitFor where
  | amendment | repair | trim
  deriving DecidableEq, Repr

/-- The slot commit in progress, its steps being those of R133. -/
structure NorJob where
  /-- R135: what the commit is for. -/
  why : CommitFor := .amendment
  /-- R133: step of R133 now running, 1 to 7; 8 in step 7 once the pair is complete (R134). -/
  step : Nat := 1
  /-- R133: sections serialised in step 1: type, offset and words. -/
  parts : List (Nat × Nat × List Word) := []
  /-- R133: header and section table with their CRCs, formed in step 1. -/
  head : List Word := []
  /-- R132: target slot, 0 A and 1 B. -/
  target : Bool := false
  /-- R132: new SLOT_SEQ. -/
  seq : Word := 0
  /-- R131: successive whole attempts whose read-back differed. -/
  failures : Nat := 0
  deriving DecidableEq, Repr

/-- The NOR device and its write state (R103, R104, R131 to R143). -/
structure Nor where
  /-- R103: bytes of the NOR, an unlisted byte reading erased (0xFF). -/
  bytes : Mem := []
  /-- R103: density in MiB that the JESD216 table declares, none when it cannot be read. -/
  declared : Option Nat := none
  /-- R141: NOR_MIB, density used. -/
  mib : Nat := 0
  /-- R131, R143: AMEND_STATE. -/
  amend : AmendState := .idle
  /-- R128: MAC address of the amendment's owner. -/
  ownerMac : BitVec 48 := 0
  /-- R128: SESSION of the amendment's owner. -/
  ownerSess : BitVec 16 := 0
  /-- R131: model time of the owner's last write. -/
  amendAt : Nat := 0
  /-- R140: AMEND_BUFFER, words past the list's end zero. -/
  buffer : List Word := []
  /-- R140: AMEND_LENGTH. -/
  amendLen : Word := 0
  /-- R143: PENDING_RESTART. -/
  pendingRestart : Bool := false
  /-- R137, R143: IMAGE_STATE. -/
  image : ImageState := .idle
  /-- R137: target slot of the image load. -/
  imageTarget : Bool := false
  /-- R140: IMAGE_NEXT_WORD. -/
  imageNext : BitVec 23 := 0
  /-- R137: model time of the last window write. -/
  imageAt : Nat := 0
  /-- R140: COMMIT_PROGRESS. -/
  progress : Word := 0
  /-- R135: the commit now writing NOR. -/
  job : Option NorJob := none
  /-- R128, R135: commits that wait for the NOR. -/
  waiting : List CommitFor := []
  deriving DecidableEq, Repr

/-- A moment as a publication names it: recorder time and wall-time label (R291). -/
structure Stamp where
  /-- R291: POWER_CYCLE. -/
  cycle : BitVec 24 := 0
  /-- R291: OP_MS. -/
  ms : BitVec 48 := 0
  /-- R291: wall-time label. -/
  wall : BitVec 64 := 0
  /-- R291: quality of the label. -/
  q : BitVec 2 := 0
  deriving DecidableEq, Repr

/-- PORT_STATE of an energy-limited port with its codes 0 to 6 (R160, R162). -/
inductive PortState where
  | off | passive | slProbing | slOn | slTripped | lockedPassive | foldback
  deriving DecidableEq, Repr

/-- One energy-limited port, entity 0 to 15 a UAI and 16 to 19 an AO (R155 to R165). -/
structure Port where
  /-- R160, R162: PORT_STATE. -/
  st : PortState := .off
  /-- R162: TRIP_COUNT. -/
  tripCount : BitVec 8 := 0
  /-- R162: SELFTEST_FAIL. -/
  selfTestFail : Bool := false
  /-- R162: CABLE_C_EXCEEDED. -/
  cableC : Bool := false
  /-- R162: LAST_CAUSE. -/
  cause : TripCause := .none_
  /-- R155, R163: LOOP_HEADROOM_MV loaded into the field die. -/
  headMv : Nat := 1000
  /-- R159: model time of the collapse or of the end of the failed probe that led to SL_TRIPPED. -/
  tripAt : Nat := 0
  /-- R160: model times of the trips from SL_ON within 10 s. -/
  trips : List Nat := []
  /-- R159: probes failed since the trip. -/
  probesFailed : Nat := 0
  /-- R159: a probe is driving the port. -/
  probing : Bool := false
  /-- R159: the power ramp after a passing probe runs. -/
  ramping : Bool := false
  /-- R187: SL_PROBING was entered after a trip. -/
  afterTrip : Bool := false
  /-- R83, R160: the first probe's outcome is known. -/
  firstProbeDone : Bool := false
  /-- R160: state FOLDBACK was entered from. -/
  from_ : PortState := .passive
  /-- R165: the 10 ms retry of FOLDBACK runs. -/
  retrying : Bool := false
  /-- R163: voltage behind the limiter, in mV. -/
  supplyMv : Nat := 0
  /-- R97, R148: ENERGY_MODE loaded into the field die. -/
  mode : BitVec 2 := 0
  /-- R97, R159: CABLE_C_NF loaded into the field die. -/
  capC : Nat := 0
  /-- R97, R159: GAS_GROUP loaded into the field die. -/
  gasGroup : BitVec 2 := 0
  /-- R97, R164: SL_POWER_MW loaded into the field die. -/
  slPower : Nat := 0
  /-- R160: the channel's settings are loaded. -/
  loaded : Bool := false
  deriving DecidableEq, Repr

/-- The bands of VFLD that R167 tells apart. -/
inductive VfldBand where
  | below10 | off10to12 | low12to16 | normal | above36
  deriving DecidableEq, Repr

/-- Felt's hold on one loop output (0 to 3) or digital output (4 to 11) (R62, R63, R96, R97). -/
structure FeltCmd where
  /-- R62: last checking command. -/
  cmd : Option Pair := none
  /-- R63: safe-state setting held; none after a field die start. -/
  safe : Option Pair := none
  /-- R62: command age in ms. -/
  ageMs : Nat := 0
  /-- R62: the Felt timeout has expired for the output. -/
  timedOut : Bool := false
  /-- R62: a checking setting and a checking command have been held together since the field die started. -/
  started : Bool := false
  /-- R62: a run of failing copies stands. -/
  failRun : Bool := false
  /-- R97: output mode loaded into the field die. -/
  mode : Word := 0
  deriving DecidableEq, Repr

/-- The field die as a whole (R95 to R98, R167, R168). -/
structure FieldDie where
  /-- R96, R101: the field die runs (VFLD_OK). -/
  running : Bool := false
  /-- R167: VFLD in mV. -/
  vfldMv : Nat := 0
  /-- R167: band of VFLD in force. -/
  band : VfldBand := .below10
  /-- R160, R167: loop supplies and outputs enabled. -/
  suppliesOn : Bool := false
  /-- R168: the supplies went off above 36 V, not below 12.0 V. -/
  offHigh : Bool := false
  /-- R96: Felt timeout in ms, 50 at a field die start. -/
  feltTimeout : Nat := 50
  /-- R62, R96: Felt's hold on AO0 to AO3 and DO0 to DO7. -/
  felt : Vector FeltCmd 12 := Vector.replicate 12 {}
  /-- R160: the energy-limited ports. -/
  ports : Vector Port 20 := Vector.replicate 20 {}
  /-- R83: isolation link synchronised. -/
  linkSynced : Bool := false
  deriving DecidableEq, Repr

/-- The running phase of a trim capture (R194). -/
inductive TrimKind where
  | zero | span
  deriving DecidableEq, Repr

/-- STATE of HART_STATUS with its codes 0 to 3 (R208). -/
inductive HartState where
  | off | identifying | polling | suspended
  deriving DecidableEq, Repr

/-- The HART master's side of one channel c, 0 to 15 a UAI and 16 to 19 an AO (R199 to R208). -/
structure HartDev where
  /-- R208: STATE. -/
  st : HartState := .off
  /-- R208: DEVICE_STATUS. -/
  devStatus : BitVec 8 := 0
  /-- R208: RESPONSE_CODE. -/
  respCode : BitVec 8 := 0
  /-- R208: UNITS_MISMATCH. -/
  unitsMis : Bool := false
  /-- R208: LOOP_MISMATCH. -/
  loopMis : Bool := false
  /-- R208: ID_MISMATCH. -/
  idMis : Bool := false
  /-- R208: OTHER_MASTER. -/
  otherMaster : Bool := false
  /-- R208: model time another master was last heard. -/
  otherAt : Nat := 0
  /-- R208: COMM_FAIL. -/
  commFail : Bool := false
  /-- R208: EXPANDED_DEVICE_TYPE. -/
  devType : BitVec 16 := 0
  /-- R208: DEVICE_ID. -/
  devId : BitVec 24 := 0
  /-- R208: TRANSACTIONS. -/
  transactions : BitVec 16 := 0
  /-- R208: FAILURES. -/
  failures : BitVec 16 := 0
  /-- R200: retries made of the present transaction. -/
  retries : Nat := 0
  /-- R200: successive failed transactions. -/
  failRun : Nat := 0
  /-- R200: model time of the last command 0. -/
  idAt : Nat := 0
  /-- R200: command 48 follows directly. -/
  want48 : Bool := false
  /-- R200: newest command other than command 48. -/
  turn : BitVec 8 := 0
  /-- R200: command of the transaction in progress. -/
  cmd : BitVec 8 := 0
  /-- R199, R202: newest value of mapped variables 1 to 8, formed into a pair by the field die. -/
  vars : Vector Pair 8 := Vector.replicate 8 (Pair.mk0 0x7FC00000)
  /-- R202: device variable status of mapped variables 1 to 8. -/
  varStat : Vector (BitVec 8) 8 := Vector.replicate 8 0xC0
  /-- R291: end of the response that brought each variable. -/
  varAt : Vector Stamp 8 := Vector.replicate 8 {}
  /-- R202: the variable's units code differs. -/
  varUnits : Vector Bool 8 := Vector.replicate 8 false
  /-- R291: end of the last response. -/
  at_ : Stamp := {}
  /-- R202: loop current of the last command 3 reply, binary32 mA. -/
  loopMa : Word := 0x7FC00000
  deriving DecidableEq, Repr

/-- One HART modem (R199, R209). -/
structure Modem where
  /-- R209: MODEM_FAIL. -/
  fail : Bool := false
  /-- R199: channel it served last. -/
  last : Option (Fin 20) := none
  /-- R209: ACTIVE_CHANNEL, none reading 0x1F. -/
  active : Option (Fin 20) := none
  deriving DecidableEq, Repr

/-- The settings of a universal analogue input that its diagnostics and its edge counter use, as the field die holds them (R97, R186, R187). -/
structure UaiSet where
  /-- R198: NE43_LOW. -/
  low : Word := 0x40600000
  /-- R198: NE43_HIGH. -/
  high : Word := 0x41AC0000
  /-- R198: FREQ_THRESHOLD. -/
  thr : Word := 0x3DCCCCCD
  /-- R198: FREQ_TIMEOUT. -/
  timeoutMs : Nat := 2000
  deriving DecidableEq, Repr

/-- One universal analogue input: its field-die half and its logic-side half (R174 to R207). -/
structure Uai where
  /-- R205: SAMPLE. -/
  sample : Pair := Pair.mk0 0
  /-- R205, R206: DIAG. -/
  diag : Pair := ⟨0x00010000, 0xFFFEFFFF⟩
  /-- R205: INPUT_VALUE. -/
  inputValue : Pair := Pair.mk0 0x7FC00000
  /-- R205: TRIM_REFERENCE. -/
  trimRef : Pair := Pair.mk0 0x7FC00000
  /-- R205: CJC_TEMPERATURE. -/
  cjc : Pair := Pair.mk0 0x7FC00000
  /-- R204: LEAD_RESISTANCE. -/
  leadOhms : Word := 0
  /-- R204: LOOP_HEADROOM. -/
  headroom : Word := 0
  /-- R207: TRIM_BUSY, with the capture that runs. -/
  trimBusy : Option TrimKind := none
  /-- R207: TRIM_RESULT. -/
  trimResult : BitVec 2 := 0
  /-- R194: the reference r of the running capture. -/
  trimRefUsed : Word := 0
  /-- R194: model time the running capture began. -/
  trimAt : Nat := 0
  /-- R194: samples averaged so far. -/
  trimCount : Nat := 0
  /-- R194: sum of y over them, path A and path B. -/
  trimSum : Pair := Pair.mk0 0
  /-- R195: least input value of the window. -/
  trimLow : Word := 0x7FC00000
  /-- R195: greatest input value of the window. -/
  trimHigh : Word := 0x7FC00000
  /-- R195: a BAD or UNCERTAIN flag stood during the window. -/
  trimFlagged : Bool := false
  /-- R179, R187: settling has ended. -/
  settlingDone : Bool := false
  /-- R187: flags of DIAG as last formed on the field die. -/
  outFlags : Word := 0x00010000
  /-- R187: consecutive samples for which each flag's condition has been absent. -/
  absentRun : Vector (BitVec 2) 32 := Vector.replicate 32 0
  /-- R182: consecutive samples with headroom below half its setting at the cap. -/
  headLow : BitVec 2 := 0
  /-- R176: newest sample pair formed on the field die. -/
  dieSample : Pair := Pair.mk0 0
  /-- R187: newest DIAG pair formed on the field die. -/
  dieDiag : Pair := ⟨0x00010000, 0xFFFEFFFF⟩
  /-- R187: last thermocouple open test found more than 20 kΩ. -/
  openTc : Bool := false
  /-- R190: the channel's converter has failed without replacement. -/
  convFail : Bool := false
  /-- R97, R174: MODE loaded into the field die. -/
  mode : Word := 0
  /-- R83: a first sample after settling has arrived. -/
  readySample : Bool := false
  /-- R83, R179: the channel's settings have been sent since the logic side or the field die started. -/
  sent : Bool := false
  /-- R177: a sample waits for the next link frame. -/
  dieNew : Bool := false
  /-- R184: the field die's temperature with the newest sample. -/
  dieTemp : Word := 0x7FC00000
  /-- R97, R186, R187: settings the field die holds for it. -/
  set : UaiSet := {}
  /-- R186: the switched state of a FREQUENCY input. -/
  freqOn : Bool := false
  /-- R186: last peak of a magnetic sensor, binary32 volts. -/
  freqPeak : Word := 0
  /-- R186: ACQ_TICK of the edge from which the present interval's periods count. -/
  freqFrom : Option (BitVec 64) := none
  /-- R186: ACQ_TICK of the last edge. -/
  freqLast : Option (BitVec 64) := none
  /-- R186: whole periods completed in the present interval. -/
  freqCount : Nat := 0
  /-- R183: V(XA − HI) / I with the newest sample. -/
  dieLead : Word := 0
  /-- R204: headroom measured with the newest sample. -/
  dieHead : Word := 0
  /-- R291: end of the output period of the newest sample on the field die. -/
  dieAt : Stamp := {}
  /-- R291: end of the output period of SAMPLE. -/
  at_ : Stamp := {}
  deriving DecidableEq, Repr

/-- The spare converter and the two references (R189 to R191, R209). -/
structure Spare where
  /-- R209: SPARE_AT, the UAI being visited. -/
  at_ : Option (Fin 16) := none
  /-- R189: phase of the visit, 1 to 3. -/
  phase : BitVec 2 := 0
  /-- R209: SPARE_FAIL; the spare is retired. -/
  fail : Bool := false
  /-- R209: SPARED_CHANNEL. -/
  spared : Option (Fin 16) := none
  /-- R190: consecutive failures of phase 2 on the visited channel. -/
  failed2 : Nat := 0
  /-- R190: consecutive failures of phase 3 on the visited channel. -/
  failed3 : Nat := 0
  /-- R190: phase 2 failed in the present visit. -/
  visitFail2 : Bool := false
  /-- R189: next channel in ascending order. -/
  next : Fin 16 := 0
  /-- R209: REF_FAIL. -/
  refFail : Bool := false
  /-- R209: REF_DRIFT. -/
  refDrift : Bool := false
  /-- R191: REF_AGEING stands. -/
  refAgeing : Bool := false
  /-- R204: REF_DEVIATION, binary32 ppm. -/
  refDeviation : Word := 0
  /-- R204: REF_SLOPE, binary32 ppm per year. -/
  refSlope : Word := 0
  /-- R191: the last 365 records of REF_DEVIATION, newest first: operating day and value. -/
  history : List (Nat × Word) := []
  /-- R191: OP_MS at which the REF_DRIFT cause last stood. -/
  driftAt : Nat := 0
  /-- R191: OP_MS at which the REF_FAIL cause last stood. -/
  failAt : Nat := 0
  /-- R191: OP_MS at which the REF_AGEING cause last stood. -/
  ageAt : Nat := 0
  deriving DecidableEq, Repr

/-- One capture of an IEPE channel (R214 to R216). -/
structure Capture where
  /-- R215: CAPTURE_ID. -/
  id : Word := 0
  /-- R214: kind code. -/
  kind : BitVec 8 := 0
  /-- R214: index of the trigger sample. -/
  trigger : BitVec 64 := 0
  /-- R214: index of the first sample. -/
  first : BitVec 64 := 0
  /-- R214: CAPTURE_LENGTH it was taken with. -/
  length : Nat := 0
  /-- R216: samples of it already sent or lost. -/
  sent : Nat := 0
  /-- R216: its first message has been sent. -/
  started : Bool := false
  /-- R216: TRUNCATED. -/
  truncated : Bool := false
  /-- R217: sent again under RESEND_ID. -/
  resend : Bool := false
  deriving DecidableEq, Repr

/-- STATE of FEATURE_STATUS with its codes 0 to 5 (R229). -/
inductive FeatSt where
  | notConfigured | running | heldShed | heldUnplaced | heldNoSpeed | heldStale
  deriving DecidableEq, Repr

/-- One feature of a channel (R221 to R229). -/
structure Feat where
  /-- R229: STATE. -/
  st : FeatSt := .notConfigured
  /-- R229: FEATURE_VALUE. -/
  value : Pair := Pair.mk0 0x7FC00000
  /-- R229: PUBLICATIONS. -/
  pubs : BitVec 16 := 0
  /-- R223: model time of the last publication, or of its resumption. -/
  pubAt : Nat := 0
  /-- R221: model time of the last publication. -/
  lastAt : Option Nat := none
  /-- R291: end of the span. -/
  at_ : Stamp := {}
  /-- R222: the span held a MISSING code. -/
  missing : Bool := false
  /-- R222: a type 5 feature could not be computed. -/
  noSpeed : Bool := false
  /-- R222: quality code from the span's bias samples. -/
  quality : BitVec 8 := 0
  /-- R222: FLT cause from the span's bias samples. -/
  cause : BitVec 8 := 0
  /-- R223, R225: first sample index that a fresh span may hold. -/
  since : BitVec 64 := 0
  deriving DecidableEq, Repr

/-- The vibration side of one UAI (R210 to R229). -/
structure VibCh where
  /-- R228: WRITE_INDEX. -/
  writeIndex : BitVec 64 := 0
  /-- R212: index of the oldest sample ever written since the writer began. -/
  firstIndex : Option (BitVec 64) := none
  /-- R228: LAST_CAPTURE_ID. -/
  lastCapture : Word := 0
  /-- R228: captures made. -/
  made : BitVec 16 := 0
  /-- R228: captures truncated. -/
  truncs : BitVec 16 := 0
  /-- R229: STREAMING. -/
  streaming : Bool := false
  /-- R229: STREAM_PAUSED. -/
  paused : Bool := false
  /-- R218: next index the stream sends. -/
  streamAt : BitVec 64 := 0
  /-- R211: the channel's next WAVEFORM message carries DISCONTINUITY. -/
  discont : Bool := false
  /-- R218: its stream's next message carries DISCONTINUITY. -/
  streamDisc : Bool := false
  /-- R291: time of the newest sample. -/
  newestAt : Stamp := {}
  /-- R222: index of the newest sample and DIAG of each bias sample, newest first. -/
  bias : List (Nat × Word) := []
  /-- R229: WINDOW_OPEN. -/
  windowOpen : Bool := false
  /-- R215, R216: the capture whose window is open. -/
  openCap : Capture := {}
  /-- R215: index of the sample that closes the window. -/
  windowEnd : Nat := 0
  /-- R214: TRIGGER_POINT has entered ACT_UNACK. -/
  trigDue : Bool := false
  /-- R214: OP_MS of the last SCHEDULED capture's instant, at first of VIBRATION READY. -/
  schedAt : Nat := 0
  /-- R216: captures pending, oldest first, at most 8. -/
  pending : List Capture := []
  /-- R217: captures being sent again. -/
  resends : List Capture := []
  /-- R217: captures that RESEND_ID may name, newest first. -/
  past : List Capture := []
  /-- R213, R220: ACQ_TICK of the newest edge. -/
  lastTick : BitVec 64 := 0
  /-- R216, R490: triggers merged into the last capture. -/
  merged : BitVec 8 := 0
  /-- R228: features 1 to 64. -/
  feats : Tab Feat := []
  deriving DecidableEq, Repr

/-- Vibration beside the channels (R211, R215, R228, R229). -/
structure Vib where
  /-- R228: the channels UAI0 to UAI15. -/
  ch : Vector VibCh 16 := Vector.replicate 16 {}
  /-- R215: CAPTURE_ID of the next capture. -/
  nextId : Word := 1
  /-- R228: MISSING_SAMPLES. -/
  missing : Word := 0
  /-- R228: TRIGGERS_MERGED. -/
  merged : BitVec 16 := 0
  /-- R228: CAPTURES_REFUSED. -/
  refused : BitVec 16 := 0
  /-- R229: GRANT_KBPS. -/
  grantKbps : BitVec 16 := 0
  /-- R214: OP_MS at VIBRATION READY. -/
  readyAt : Nat := 0
  deriving DecidableEq, Repr

/-- DRIVE of a loop output's OUTPUT_STATUS with its codes 0 to 0xB (R253). -/
inductive AoDrive where
  | off | foldback | noSetting | safen | feltTimeout | notReady | manual | value | hold | failLow | failHigh | failSafe
  deriving DecidableEq, Repr

/-- One loop output (R230 to R253). -/
structure Ao where
  /-- R251: COMMAND. -/
  command : Pair := Pair.mk0 0
  /-- R83: a first checking command has been formed. -/
  haveCmd : Bool := false
  /-- R236, R253: whether COMMAND is a value, a hold or a failure current. -/
  by_ : AoDrive := .value
  /-- R251: READBACK. -/
  readback : Pair := Pair.mk0 0
  /-- R251, R252: AO_DIAG. -/
  diag : Pair := Pair.mk0 0
  /-- R251: MANUAL_MA. -/
  manualMa : Pair := Pair.mk0 0x7FC00000
  /-- R253: MANUAL. -/
  manual : Bool := false
  /-- R242: model time of the last write that keeps manual. -/
  manualAt : Nat := 0
  /-- R250: TERMINAL_VOLTAGE. -/
  termV : Word := 0
  /-- R250: LOOP_HEADROOM. -/
  headroom : Word := 0
  /-- R253: INTEGRITY_RUN. -/
  integrityRun : BitVec 8 := 0
  /-- R237: the node has stopped sending commands for it. -/
  stopped : Bool := false
  /-- R243: applied current on the field die, binary32 mA. -/
  applied : Word := 0
  /-- R248: terminal current at the last change of the applied current, binary32 mA. -/
  from_ : Word := 0
  /-- R243: flags of AO_DIAG as the field die holds them. -/
  dieDiag : Word := 0
  /-- R97, R243: READBACK_TOLERANCE loaded into the field die. -/
  tol : Word := 0x3DCCCCCD
  /-- R97, R244: OPEN_TEST loaded into the field die. -/
  openTest : Bool := true
  /-- R97, R248: the output has a HART device entity, as loaded into the field die. -/
  hartFilter : Bool := false
  /-- R243: model time of the last change of the applied current. -/
  changedAt : Nat := 0
  /-- R243: consecutive samples for which each flag's condition has held. -/
  runs : Vector Nat 16 := Vector.replicate 16 0
  /-- R243: consecutive samples for which each flag's condition has been absent. -/
  gone : Vector Nat 16 := Vector.replicate 16 0
  /-- R246: model time since which COMPLIANCE stands. -/
  complAt : Nat := 0
  /-- R83, R97: the output's settings have been sent since the logic side or the field die started. -/
  sent : Bool := false
  /-- R291: end of the newest readback sample. -/
  at_ : Stamp := {}
  /-- R241: last command before the assertion of SAFEn. -/
  safeBefore : Option Pair := none
  deriving DecidableEq, Repr

/-- One unevaluated transition of a digital input (R257). -/
structure DiEdge where
  /-- R49, R257: the filtered state after it, 1 for ON. -/
  on : Pair := Pair.mk0 0
  /-- R257: its ACQ_TICK. -/
  tick : BitVec 64 := 0
  /-- R291: the recorder time of its ACQ_TICK. -/
  at_ : Stamp := {}
  deriving DecidableEq, Repr

/-- One digital input (R254 to R265, R280, R281). -/
structure Di where
  /-- R255, R281: FILTERED. -/
  filtered : Bool := false
  /-- R255, R281: COUNTER. -/
  counter : BitVec 8 := 0
  /-- R281: RAW. -/
  raw : Bool := false
  /-- R258, R281: OPEN. -/
  openFlag : Bool := false
  /-- R281: TRANSITIONS. -/
  transitions : BitVec 8 := 0
  /-- R281: DI_STATE as last carried by the link. -/
  state : Pair := Pair.mk0 0
  /-- R257: transitions held for evaluation, oldest first, at most 16. -/
  held : List DiEdge := []
  /-- R257, R281: MERGED. -/
  merged : BitVec 8 := 0
  /-- R49, R260: total on the field die. -/
  dieTotal : Pair := Pair.mk0 0
  /-- R261: WRAPPED on the field die. -/
  dieWrapped : Bool := false
  /-- R281: TOTAL as last carried by the link. -/
  total : Pair := Pair.mk0 0
  /-- R262, R281: DI_STATUS as last carried by the link. -/
  status : Word := 2
  /-- R281: TOTAL_GAP. -/
  totalGap : Bool := false
  /-- R281: TOTAL_RESTARTED. -/
  restarted : Bool := false
  /-- R281: SETTLING. -/
  settling : Bool := true
  /-- R263: presets waiting for a sample boundary, in order of arrival. -/
  presets : List Pair := []
  /-- R196: ACQ_TICK at which the press under way began. -/
  pressAt : Option (BitVec 64) := none
  /-- R196: ACQ_TICKs of the last press and of its release. -/
  press : Option (BitVec 64 × BitVec 64) := none
  /-- R196: that press has been acted on. -/
  pressDone : Bool := true
  /-- R280: LAST_EDGE_TICK. -/
  lastEdge : BitVec 64 := 0
  /-- R280: INPUT_CURRENT. -/
  current : Word := 0
  /-- R265: ACQ_TICKs of the counted edges since the previous evaluation, newest first. -/
  edgeTicks : List (BitVec 64) := []
  /-- R265: last rate, binary32. -/
  lastRate : Word := 0
  /-- R265: ACQ_TICK of the last counted edge. -/
  lastCounted : Option (BitVec 64) := none
  /-- R255: settings the field die holds for the input. -/
  settings : List Word := []
  /-- R291: the newest status sample carried by the link. -/
  at_ : Stamp := {}
  /-- R83: settings have been loaded since the last start or field die restart. -/
  loaded : Bool := false
  deriving DecidableEq, Repr

/-- One digital output (R266 to R277, R280, R282). -/
structure Do where
  /-- R282: COMMAND. -/
  command : Pair := Pair.mk0 0
  /-- R83: a first checking command has been formed. -/
  haveCmd : Bool := false
  /-- R282: DRIVE code of the command formed: 6 VALUE, 7 HOLD, 8 FAIL_OFF, 9 FAIL_SAFE. -/
  by_ : Nat := 6
  /-- R282: DO_DIAG as last carried by the link. -/
  diag : Pair := Pair.mk0 0
  /-- R282: MANUAL_PATTERN. -/
  manualPat : Pair := ⟨0xFFFFFFFF, 0⟩
  /-- R282: MANUAL. -/
  manual : Bool := false
  /-- R242: model time of the last write that keeps manual. -/
  manualAt : Nat := 0
  /-- R282: INTEGRITY_RUN. -/
  integrityRun : BitVec 8 := 0
  /-- R267: the node has stopped sending commands for it. -/
  stopped : Bool := false
  /-- R282: ENERGISED. -/
  energised : Bool := false
  /-- R280: LOAD_CURRENT. -/
  current : Word := 0
  /-- R280: TERMINAL_VOLTAGE. -/
  termV : Word := 0
  /-- R97, R274: OPEN_LOAD_TEST loaded into the field die. -/
  openTest : BitVec 2 := 1
  /-- R272: OVERLOAD. -/
  overload : Bool := false
  /-- R272: THERMAL. -/
  thermal : Bool := false
  /-- R272: LATCHED. -/
  latched : Bool := false
  /-- R273: GROUP_SHED. -/
  shed : Bool := false
  /-- R274, R275: EXT_DRIVE. -/
  extDrive : Bool := false
  /-- R274: OPEN_LOAD. -/
  openLoad : Bool := false
  /-- R275: switched off to block reverse current. -/
  reverse : Bool := false
  /-- R276: off until its turn to restart after VFLD. -/
  waitRestart : Bool := false
  /-- R272: model times of the cut-offs of the last 60 s. -/
  cutoffs : List Nat := []
  /-- R272: model time of the last cut-off. -/
  cutAt : Nat := 0
  /-- R273: model time of the last shedding. -/
  shedAt : Nat := 0
  /-- R277: energised or tested-off milliseconds without each BAD cause. -/
  causeGone : Vector Nat 5 := Vector.replicate 5 0
  /-- R277: BAD causes standing: SUPPLY, SHORT, OVERLOAD, EXT_DRIVE, OPEN. -/
  causeHold : BitVec 5 := 0
  /-- R277: model time at which the link last carried its status. -/
  causeAt : Nat := 0
  /-- R274: energised milliseconds without the OPEN_LOAD condition. -/
  openGone : Nat := 0
  /-- R274: milliseconds without the EXT_DRIVE condition. -/
  extGone : Nat := 0
  /-- R274: consecutive tests without the EXT_DRIVE condition. -/
  extClear : Nat := 0
  /-- R83, R97: the output's settings have been sent since the logic side or the field die started. -/
  sent : Bool := false
  /-- R291: the newest status sample carried by the link. -/
  at_ : Stamp := {}
  /-- R274: consecutive tests without the condition. -/
  testsClear : Nat := 0
  /-- R271: command received before the assertion of SAFEn. -/
  safeBefore : Option Pair := none
  deriving DecidableEq, Repr

/-- Discrete inputs and outputs as a whole (R268 to R276, R282). -/
structure Disc where
  /-- R280: DI0 to DI15. -/
  di : Vector Di 16 := Vector.replicate 16 {}
  /-- R280: DO0 to DO7. -/
  do_ : Vector Do 8 := Vector.replicate 8 {}
  /-- R211: ACQ_TICK of the field die at acqAt. -/
  acqTick : BitVec 64 := 0
  /-- R211: model time at which acqTick was read. -/
  acqAt : Nat := 0
  /-- R273: shedding has begun and the sum has not come down to 3.0 A since. -/
  shedding : Bool := false
  /-- R271: a frame has carried the qualified state since the link became READY. -/
  safenSent : Bool := false
  /-- R242: outputs that a start took out of manual, with their values, whose records are still to be made. -/
  manualWas : List (Fin 12 × Pair) := []
  /-- R282: SAFEN_PIN. -/
  safenPin : Bool := false
  /-- R271, R282: SAFEN_QUALIFIED on the logic side. -/
  safen : Bool := false
  /-- R271: last qualified state the field die received. -/
  dieSafen : Bool := false
  /-- R276, R282: RESTART_SLOWED. -/
  slowed : Bool := false
  /-- R276: model times of the falls of VFLD below 12.0 V in the last 60 s. -/
  dips : List Nat := []
  /-- R282: GROUP_MA. -/
  groupMa : BitVec 16 := 0
  deriving DecidableEq, Repr

/-- One condition of a point: its raw state, its active state and its delay timer (R312, R317). -/
structure CondTimer where
  /-- R312, R323: RAW. -/
  raw : Bool := false
  /-- R317, R323: ACTIVE. -/
  active : Bool := false
  /-- R323: UNACK. -/
  unack : Bool := false
  /-- R317: a delay timer runs. -/
  running : Bool := false
  /-- R317: Gauze ticks the raw state has stood, counted between evaluations neither of which held it. -/
  run : Nat := 0
  /-- R317: the last evaluation held the condition. -/
  held : Bool := true
  /-- R323, R338: FOLDED, with the subject of the root. -/
  folded : Option Word := none
  deriving DecidableEq, Repr

/-- A held or arriving alarm action of a point (R325, R326, R347). -/
inductive AlarmAct where
  | ack (seq : BitVec 16) | shelve (minutes : BitVec 12) | unshelve | oosOn | oosOff | adaptRestart
  deriving DecidableEq, Repr

/-- An alarm action waiting for an evaluation that is no integrity failure (R325). -/
structure HeldAct where
  /-- R325: the action. -/
  act : AlarmAct := .unshelve
  /-- R325: operating time of its arrival. -/
  at_ : Nat := 0
  deriving DecidableEq, Repr

/-- An onset of a candidate root whose observation is still owed (R336). -/
structure RootOnset where
  /-- R336: recorder time of the root's onset, or of the arrival of its ALARM. -/
  at_ : Nat := 0
  /-- R335: wall-time label of that onset where SYNCED. -/
  wall : Option (BitVec 64) := none
  /-- R336: the consequence had an onset within the 5 s that follow. -/
  hit : Bool := false
  deriving DecidableEq, Repr

/-- One candidate root of a point's Damask table (R336, R347). -/
structure RootLink where
  /-- R347: ROOT_POINT. -/
  root : BitVec 16 := 0xFFFF
  /-- R336, R347: OBSERVATIONS, 0 to 64. -/
  obs : Nat := 0
  /-- R336, R490: hits, newest in bit 0. -/
  history : BitVec 64 := 0
  /-- R336: order of entry. -/
  entered : Nat := 0
  /-- R336: the root's onsets not yet observed, oldest first; the one it entered by is not among them. -/
  waits : List RootOnset := []
  deriving DecidableEq, Repr

/-- One suppression source of a point or group as last read (R321, R322). -/
structure Supp where
  /-- R321: the source's last suppressing state. -/
  supp : Bool := false
  /-- R322: operating time at which the source stopped being usable. -/
  heldAt : Option Nat := none
  /-- R321: operating time at which the release delay ends. -/
  relEnd : Option Nat := none
  deriving DecidableEq, Repr

/-- The alarm engine's hold on one point that this node evaluates (R312 to R347). -/
structure AlarmSt where
  /-- R312, R323: the seven conditions. -/
  conds : Vector CondTimer 7 := Vector.replicate 7 {}
  /-- R323: OOS. -/
  oos : Bool := false
  /-- R323: SHELVED. -/
  shelved : Bool := false
  /-- R323: SUPPRESSED. -/
  suppressed : Bool := false
  /-- R324, R326: operating time at which shelving runs out. -/
  shelveEnd : Nat := 0
  /-- R327, R347: TRANSITION_SEQ. -/
  seq : BitVec 16 := 0
  /-- R347: DEV_BLOCKED. -/
  devBlocked : Bool := false
  /-- R321: the point's own suppression source. -/
  own : Supp := {}
  /-- R321: the group's suppression source as this point saw it. -/
  grp : Supp := {}
  /-- R325: actions held through integrity failures. -/
  held : List HeldAct := []
  /-- R317: start instant of the last evaluation, in Gauze ticks. -/
  lastTick : Nat := 0
  /-- R314: the last 65 due instants: time, value and whether usable. -/
  kept : List (Nat × Word × Bool) := []
  /-- R319: the estimator window, newest first, with whether usable. -/
  estim : List (Word × Bool) := []
  /-- R319: last usable value for the estimator. -/
  estUsed : Word := 0
  /-- R346: ADAPT_PERIOD. -/
  period : Word := 0x7FC00000
  /-- R347: ADAPT_VALID. -/
  adaptValid : Bool := false
  /-- R346: EFFECTIVE_ON_DELAY. -/
  effOn : Word := 0
  /-- R323, R347: ALARM_STATE. -/
  stateWord : Pair := Pair.mk0 0
  /-- R335: operating time of the point's latest onset instant. -/
  onset : Option Nat := none
  /-- R335: wall-time label of that onset where SYNCED. -/
  onsetWall : Option (BitVec 64) := none
  /-- R336: candidate roots, at most 16. -/
  roots : List RootLink := []
  /-- R346: FOLD_ROOT. -/
  foldRoot : Word := 0xFFFFFFFF
  deriving DecidableEq, Repr

/-- The four states of a SYSTEM condition (R333). -/
inductive SysSt where
  | norm | actUnack | actAck | rtnUnack
  deriving DecidableEq, Repr

/-- One of this node's SYSTEM conditions (R332, R333). -/
structure SysCond where
  /-- R333, R349: its state. -/
  st : SysSt := .norm
  /-- R349: TRANSITION_SEQ. -/
  seq : BitVec 16 := 0
  /-- R332: operating time of the last event, for the 60 s clear. -/
  lastEvent : Nat := 0
  deriving DecidableEq, Repr

/-- One alarm group as this node sees it (R330, R331, R348). -/
structure GroupSt where
  /-- R49, R331, R348: FIRST_OUT subject as its pair and FIRST_OUT_CONDITION. -/
  first : Option (Pair × BitVec 8) := none
  /-- R331: order of the first-out: label (or its absence) and node. -/
  firstKey : Nat × Nat := (0, 0)
  /-- R331: this node has had its local first-out since the group was quiet. -/
  localTaken : Bool := false
  /-- R321, R348: the group's suppression source. -/
  supp : Supp := {}
  deriving DecidableEq, Repr

/-- The alarm engine beside the points (R330 to R349). -/
structure Alarms where
  /-- R332: this node's SYSTEM conditions by code. -/
  sysc : Vector SysCond 64 := Vector.replicate 64 {}
  /-- R349: SYS_STATE pairs of other nodes, by node * 64 + code. -/
  peerSys : Tab Pair := []
  /-- R330, R348: the groups by number. -/
  groups : Tab GroupSt := []
  /-- R86: ALARMs of local points kept until their group is READY, with the group, oldest first. -/
  waiting : List (BitVec 8 × List Word) := []
  /-- R333: subject of the last point that failed. -/
  integritySubject : Word := 0xFFFFFFFF
  /-- R336, R490: number of the next Damask checkpoint. -/
  checkpointNo : BitVec 16 := 0
  deriving DecidableEq, Repr

/-- A publication of a point as the replica holds it (R294, R310, R401). -/
structure Pub where
  /-- R311: VALUE. -/
  value : Pair := Pair.mk0 0x7FC00000
  /-- R311: QUALITY; 0x0001_0003 for a point this node evaluates. -/
  quality : Pair := ⟨0x00000002, 0xFFFFFFFD⟩
  /-- R311: TIME_PC POWER_CYCLE. -/
  cycle : BitVec 24 := 0
  /-- R310: TIME_MS. -/
  opMs : BitVec 48 := 0
  /-- R310: WALL_TIME. -/
  wall : BitVec 64 := 0
  /-- R311: WALL_QUALITY. -/
  wallQ : BitVec 2 := 0
  /-- R323: ALARM_STATE pair. -/
  alarm : Pair := Pair.mk0 0
  deriving DecidableEq, Repr

/-- Task state of one CALC list (R301). -/
structure CalcSt where
  /-- R301: S0 to S3. -/
  slots : Vector Pair 4 := Vector.replicate 4 (Pair.mk0 0)
  /-- R299: start of the list's previous evaluation, in Gauze ticks. -/
  lastTick : Option Nat := none
  deriving DecidableEq, Repr

/-- A point this node evaluates (R283 to R295). -/
structure LocalPt where
  /-- R283: evaluated by duty for an absent peer. -/
  byDuty : Bool := false
  /-- R87, R89: it has had its first evaluation. -/
  evaluated : Bool := false
  /-- R90: marked NOT_READY at the deadline. -/
  marked : Bool := false
  /-- R310: EVAL_COUNT. -/
  evalCount : Word := 0
  /-- R293: the scan of its class in which its due evaluation was last made. -/
  scanNo : Option Nat := none
  /-- R293: the scan in which that evaluation was made ahead of its own command. -/
  early : Option Nat := none
  /-- R294, R311: its publication. -/
  pub : Pub := { quality := ⟨0x00010003, 0xFFFEFFFC⟩ }
  /-- R311: SETPOINT. -/
  setpoint : Pair := Pair.mk0 0x7FC00000
  /-- R295: a written value waiting for the next evaluation. -/
  setpointNew : Option Pair := none
  /-- R294: value pair last sent in a REPLICA_DELTA. -/
  lastSent : Pair := Pair.mk0 0x7FC00000
  /-- R294: quality pair last sent. -/
  sentQ : Pair := ⟨0x00010003, 0xFFFEFFFC⟩
  /-- R294: alarm state pair last sent. -/
  sentAlarm : Pair := Pair.mk0 0
  /-- R402: operating time of the last REPLICA_DELTA record. -/
  sentAt : Nat := 0
  /-- R312: the alarm engine's hold on the point. -/
  alarm : AlarmSt := {}
  /-- R301: state of the CALC list that computes it. -/
  calcSt : CalcSt := {}
  /-- R49, R52, R390: its task record in Canvas task state, as C-pairs. -/
  record : List Pair := []
  /-- R70: its entry of the point replica in DRAM is poisoned. -/
  hit : Bool := false
  deriving DecidableEq, Repr

/-- CALL_STATE with its codes 0 to 4 (R372). -/
inductive CallSt where
  | idle | calling | backup | accepted | engineers
  deriving DecidableEq, Repr

/-- DEADMAN with its codes 0 to 3 (R372). -/
inductive DeadSt where
  | off | running | prewarn | expired
  deriving DecidableEq, Repr

/-- PENDING with its codes 0 to 2 (R372). -/
inductive PendSt where
  | none_ | toUms | duty
  deriving DecidableEq, Repr

/-- The request codes of R364. -/
inductive CallReq where
  | toManned | toUms | acceptUms | setDuty (eng : BitVec 8) | acceptDuty (eng : BitVec 8)
  | deadmanStart | deadmanReset | deadmanStop | engAlarm | engAlarmReset
  | accept (eng : BitVec 8) (callId : BitVec 16) | rotaOn (eng : BitVec 8) | rotaOff (eng : BitVec 8)
  deriving DecidableEq, Repr

/-- The ship's call state as this node holds or received it (R350 to R363, R372). -/
structure Call where
  /-- R360, R378: CALL_DUTY. -/
  holds : Bool := false
  /-- R360, R372: CALL_SEQ. -/
  seq : Word := 0
  /-- R350: a CALL STATE has been received or sent. -/
  haveState : Bool := false
  /-- R350, R372: MODE, UMS when set. -/
  ums : Bool := false
  /-- R372: PENDING. -/
  pend : PendSt := .none_
  /-- R372: PENDING_ENGINEER. -/
  pendEng : BitVec 8 := 0xFF
  /-- R372: HOLDER. -/
  holder : BitVec 8 := 0xFF
  /-- R372: DUTY_ENGINEER. -/
  duty : BitVec 8 := 0xFF
  /-- R372: BACKUP_ENGINEER. -/
  backup : BitVec 8 := 0xFF
  /-- R356, R372: CALL_ID. -/
  callId : BitVec 16 := 0
  /-- R356, R372: CALL_STATE. -/
  st : CallSt := .idle
  /-- R358: engineers' alarm cause CALL. -/
  causeCall : Bool := false
  /-- R358: cause DEADMAN. -/
  causeDead : Bool := false
  /-- R358: cause MANUAL. -/
  causeManual : Bool := false
  /-- R358: cause MANNED. -/
  causeManned : Bool := false
  /-- R359: DEADMAN. -/
  dead : DeadSt := .off
  /-- R356, R372: ACCEPTED mask. -/
  accepted : BitVec 16 := 0
  /-- R353, R372: ON_ROTA mask. -/
  onRota : BitVec 16 := 0
  /-- R356, R372: JOINED. -/
  joined : BitVec 16 := 0
  /-- R372: subject of the condition that opened the call. -/
  opener : Word := 0xFFFFFFFF
  /-- R356: model time at which the stage timer runs out. -/
  stageEnd : Option Nat := none
  /-- R359: model time at which the dead-man remaining time reaches 0. -/
  deadEnd : Option Nat := none
  /-- R352: model time at which HANDOVER_TIMEOUT runs out. -/
  pendEnd : Option Nat := none
  /-- R351: subject, condition and model time since which each callable condition stands in ACT_UNACK. -/
  mannedSince : List ((Word × Nat) × Nat) := []
  /-- R357: requests waiting for the holder's next step, in order of arrival. -/
  requests : List CallReq := []
  /-- R378: REFUSED. -/
  refused : Bool := false
  /-- R357: something has changed since the last CALL STATE. -/
  changed : Bool := false
  /-- R377: words 0 to 16 of the newest CALL STATE; the reset words of R377 while empty. -/
  words : List Word := []
  /-- R361: model time at which it arrived or left. -/
  wordsAt : Nat := 0
  /-- R362: last CALL STATE of another claimant of the call duty. -/
  other : List Word := []
  /-- R363: CRC-32 of the CALLING section as read at the start. -/
  crc : Word := 0
  deriving DecidableEq, Repr

/-- One panel on one controller (R364 to R371, R374, R378). -/
structure Panel where
  /-- R378: PATTERN. -/
  pattern : BitVec 4 := 0
  /-- R366: REASON last commanded. -/
  reason : BitVec 4 := 0
  /-- R378: model time of the last heartbeat on this controller. -/
  heardAt : Option Nat := none
  /-- R378: FAULT. -/
  fault : Bool := false
  /-- R378: SILENCED. -/
  silenced : Bool := false
  /-- R378: MISMATCH. -/
  mismatch : Bool := false
  /-- R378: LOST. -/
  lost : Bool := false
  /-- R366: subject and condition of each announced ONSET or UNFOLD that has arrived since the last SILENCE. -/
  unsilenced : List (Word × Nat) := []
  deriving DecidableEq, Repr

/-- A frame queued for the panels of a controller (R370, R371). -/
structure PanelFrame where
  /-- R370: identifier. -/
  id : BitVec 29 := 0
  /-- R371: payload words. -/
  words : List Word := []
  deriving DecidableEq, Repr

/-- The panels of both controllers (R364 to R378). -/
structure Panels where
  /-- R377: panels by controller * 65536 + panel. -/
  tab : Tab Panel := []
  /-- R377: UNKNOWN_PANELS of each controller. -/
  unknown : Vector (BitVec 48) 2 := Vector.replicate 2 0
  /-- R368: frames waiting for a transmit buffer: controller and frame. -/
  txq : List (Nat × PanelFrame) := []
  deriving DecidableEq, Repr

/-- One Bereb message, with its destination MAC where it is unicast (R443, R444). -/
structure Msg where
  /-- R444: CLASS. -/
  cls : BitVec 2 := 1
  /-- R444: TYPE. -/
  type : BitVec 6 := 0
  /-- R444: NO_REPLY. -/
  noReply : Bool := false
  /-- R444: NOTIFY. -/
  notify : Bool := false
  /-- R444: SOURCE_NODE. -/
  src : BitVec 8 := 0
  /-- R444: DEST_NODE. -/
  dest : BitVec 8 := 0xFF
  /-- R444: SESSION. -/
  session : BitVec 16 := 0
  /-- R444, R446: SEQUENCE. -/
  seq : Word := 0
  /-- R444: TAG. -/
  tag : Word := 0
  /-- R444: OBJECT_ADDRESS. -/
  addr : Word := 0
  /-- R444: WORD_COUNT. -/
  count : BitVec 16 := 0
  /-- R444: STATUS. -/
  status : BitVec 16 := 0
  /-- R443: payload words. -/
  payload : List Word := []
  /-- R447: destination MAC address; of a received message that is held, its source. -/
  mac : BitVec 48 := 0
  /-- R452: a reply whose request is held until it has left. -/
  holds : Bool := false
  deriving DecidableEq, Repr

/-- PORT_STATUS STATE with its codes 0 to 3 (R462). -/
inductive LinkSt where
  | down | negotiating | up | off
  deriving DecidableEq, Repr

/-- Link A, link B or link S (R426 to R431, R461, R462). -/
structure RingPort where
  /-- R462: MODE. -/
  mode : BitVec 4 := 0
  /-- R462: SPEED. -/
  speed : BitVec 2 := 0
  /-- R462: STATE. -/
  st : LinkSt := .down
  /-- R428, R462: PREEMPT_ACTIVE. -/
  preempt : Bool := false
  /-- R462: PAUSING. -/
  pausing : Bool := false
  /-- R462: LINK_CHANGES. -/
  changes : BitVec 16 := 0
  /-- R460: model time at which it last became UP. -/
  upAt : Nat := 0
  /-- R461: RX_FRAMES. -/
  rx : Word := 0
  /-- R461: TX_FRAMES. -/
  tx : Word := 0
  /-- R461: FCS_ERRORS. -/
  fcs : Word := 0
  /-- R461: HSR_DUPLICATES. -/
  dups : Word := 0
  /-- R461: HSR_OWN_REMOVED. -/
  own : Word := 0
  /-- R461: PAUSE_SENT. -/
  pauses : Word := 0
  /-- R461: PATH_DELAY. -/
  pathDelay : Word := 0
  /-- R462: bits of C0 to C2 received in the present second. -/
  bits012 : Nat := 0
  /-- R462: bits of C3 received in the present second. -/
  bits3 : Nat := 0
  deriving DecidableEq, Repr

/-- One switch class C0 to C3 (R434 to R438, R461, R462). -/
structure ClassSt where
  /-- R437: origination queue, oldest first. -/
  queue : List Msg := []
  /-- R437: bit times in the token bucket, full at the start. -/
  bucket : Nat := 0
  /-- R437: model time of the bucket's last filling. -/
  bucketAt : Nat := 0
  /-- R446: SEQUENCE counter. -/
  seq : Word := 0
  /-- R462: frame-buffer occupancy in bytes (OCCUPANCY_KIB). -/
  occupancy : Nat := 0
  /-- R462: highest occupancy in bytes (PEAK_KIB). -/
  peak : Nat := 0
  /-- R461: CLASS_DISCARDS. -/
  discards : Word := 0
  /-- R461: ORIGINATED. -/
  originated : Word := 0
  /-- R545: bytes originated since the last whole KiB. -/
  kibRem : Nat := 0
  /-- R439: bytes in the receive queue. -/
  rxBytes : Nat := 0
  deriving DecidableEq, Repr

/-- One entry of the HSR duplicate table (R429). -/
structure HsrDup where
  /-- R429: source MAC address. -/
  mac : BitVec 48 := 0
  /-- R429: HSR sequence number. -/
  seq : BitVec 16 := 0
  /-- R429: model time of the first copy. -/
  at_ : Nat := 0
  /-- R429: sent on link A already. -/
  sentA : Bool := false
  /-- R429: sent on link B already. -/
  sentB : Bool := false
  /-- R429: delivered to the node already. -/
  delivered : Bool := false
  deriving DecidableEq, Repr

/-- One proxy table entry (R430, R461). -/
structure Proxy where
  /-- R430, R461: PROXY_MAC. -/
  mac : BitVec 48 := 0
  /-- R430: model time of the last frame from it. -/
  at_ : Nat := 0
  deriving DecidableEq, Repr

/-- SEQUENCE bookkeeping for one source and class (R457). -/
structure Expect where
  /-- R457: expected SEQUENCE. -/
  next : Word := 0
  /-- R457: messages held for a missing SEQUENCE. -/
  heldMsgs : List Msg := []
  deriving DecidableEq, Repr

/-- A request kept with its reply for 10 s (R452). -/
structure Kept where
  /-- R452: requester's MAC address. -/
  mac : BitVec 48 := 0
  /-- R452: SESSION. -/
  sess : BitVec 16 := 0
  /-- R452: TAG. -/
  tag : Word := 0
  /-- R452: TYPE of the request. -/
  type : BitVec 6 := 0
  /-- R452: model time. -/
  at_ : Nat := 0
  /-- R452: the stored reply. -/
  reply : Option Msg := none
  deriving DecidableEq, Repr

/-- One subscription (R453). -/
structure Subs where
  /-- R453: requester's MAC address. -/
  mac : BitVec 48 := 0
  /-- R453: SESSION. -/
  sess : BitVec 16 := 0
  /-- R453: TAG. -/
  tag : Word := 0
  /-- R453: OBJECT_ADDRESS. -/
  addr : Word := 0
  /-- R453: WORD_COUNT. -/
  count : Nat := 0
  /-- R453: MIN_INTERVAL. -/
  minMs : Nat := 10
  /-- R453: MAX_INTERVAL, 0 none. -/
  maxMs : Nat := 0
  /-- R453: words of the last report. -/
  last : List Word := []
  /-- R453: model time of the last report. -/
  lastAt : Nat := 0
  /-- R455: records were skipped since the previous EVENT to this station. -/
  gap : Bool := false
  deriving DecidableEq, Repr

/-- A station session the node has seen (R445, R453, R462). -/
structure StationSess where
  /-- R453: station's MAC address. -/
  mac : BitVec 48 := 0
  /-- R445, R462: SESSION of its last request. -/
  sess : BitVec 16 := 0
  /-- R453, R462: model time of its last request. -/
  at_ : Nat := 0
  deriving DecidableEq, Repr

/-- PTP_STATUS STATE with its codes 0 to 4 (R462). -/
inductive PtpState where
  | disabled | listening | uncalibrated | slave | noMaster
  deriving DecidableEq, Repr

/-- The ordinary clock and transparent clock (R432, R433, R461, R462). -/
structure Ptp where
  /-- R462: STATE. -/
  st : PtpState := .disabled
  /-- R462: GM_CLASS. -/
  gmClass : BitVec 8 := 0xFF
  /-- R461: PTP_OFFSET. -/
  offset : Word := 0
  /-- R461: GRANDMASTER. -/
  gm : BitVec 64 := 0
  /-- R432: the grandmaster selected by the best master clock algorithm. -/
  best : Option GmData := none
  /-- R530: PTP seconds of the ordinary clock at the last Sync. -/
  seconds : Nat := 0
  /-- R530, R544: currentUtcOffset announced. -/
  utcOffset : BitVec 16 := 0
  /-- R530: currentUtcOffsetValid announced. -/
  utcValid : Bool := false
  /-- R433: model time of the last Announce. -/
  announceAt : Nat := 0
  /-- R433: model time of entry to NO_MASTER. -/
  noMasterAt : Option Nat := none
  deriving DecidableEq, Repr

/-- The ring, the switch and Bereb (R426 to R462). -/
structure Ring where
  /-- R426, R461: links A, B and S. -/
  ports : Vector RingPort 3 := Vector.replicate 3 {}
  /-- R434, R461: classes C0 to C3. -/
  classes : Vector ClassSt 4 := Vector.replicate 4 {}
  /-- R462: LOAD_C012. -/
  loadC012 : BitVec 8 := 0
  /-- R462: LOAD_C3. -/
  loadC3 : BitVec 8 := 0
  /-- R462: RING_OPEN. -/
  ringOpen : Bool := false
  /-- R431: model time an own frame sent on A last returned on B. -/
  returnedAB : Nat := 0
  /-- R431: model time an own frame sent on B last returned on A. -/
  returnedBA : Nat := 0
  /-- R431: model time since which frames return in both directions. -/
  bothSince : Option Nat := none
  /-- R429: HSR sequence number of the next own frame. -/
  hsrSeq : BitVec 16 := 0
  /-- R429: duplicate table, entries younger than 400 ms. -/
  dups : List HsrDup := []
  /-- R430: proxy table. -/
  proxy : Vector (Option Proxy) 8 := Vector.replicate 8 none
  /-- R441: lengths in bytes of the C3 frames from link S held in the frame buffer, oldest first. -/
  heldS : List Nat := []
  /-- R432: precision time. -/
  ptp : Ptp := {}
  /-- R445: SESSION. -/
  session : BitVec 16 := 0
  /-- R447: MAC address bound to each node number. -/
  bindings : Tab (BitVec 48) := []
  /-- R457: SEQUENCE expected, by node * 4 + class. -/
  expects : Tab Expect := []
  /-- R461: BEREB_DISCARDS for causes 0 to 7. -/
  causes : Vector Word 8 := Vector.replicate 8 0
  /-- R452: kept requests, newest first. -/
  kept : List Kept := []
  /-- R449: TAG and reply type of this node's own requests. -/
  outstanding : List (Word × BitVec 6) := []
  /-- R444: TAG of this node's next request. -/
  nextTag : Word := 1
  /-- R453: subscriptions. -/
  subs : List Subs := []
  /-- R445, R453: station sessions. -/
  stations : List StationSess := []
  /-- R461: REQUESTS counters of the hosts. -/
  hostReqs : Vector Word 16 := Vector.replicate 16 0
  /-- R438: ALARMs that wait outside the full C0 queue. -/
  c0Wait : List Msg := []
  /-- R437, R440: the last 16 messages that have left the node, newest first. -/
  sent : List Msg := []
  /-- R429: frames the last ring command put on the ports: egress port and class. -/
  wireOut : List (BitVec 2 × BitVec 2) := []
  deriving DecidableEq, Repr

/-- The five kinds of task with their codes (R379). -/
inductive TaskKind where
  | point | dutyPoint | feature | canDuty | callDuty
  deriving DecidableEq, Repr

/-- Why a third run of a task is owed (R65): the standby's results of a shadow execution that differed, or paths that
disagreed. -/
inductive Owed where
  | shadow (result : List Word) | paths
  deriving DecidableEq, Repr

/-- One task of Canvas (R379 to R392, R425). -/
structure Task where
  /-- R379, R425: KIND. -/
  kind : TaskKind := .point
  /-- R425: SUBJECT. -/
  subject : BitVec 16 := 0
  /-- R425: CLASS. -/
  cls : BitVec 2 := 3
  /-- R115, R425: engine the task is pinned to. -/
  pinned : Option (Fin 16) := none
  /-- R425: PRIMARY. -/
  primary : Option (Fin 16) := none
  /-- R425: STANDBY. -/
  standby : Option (Fin 16) := none
  /-- R392, R425: MOVING: the engine it moves to. -/
  moving : Option (Fin 16) := none
  /-- R380: cycle counts of the last evaluations, newest first, at most 1 000. -/
  hist : List Word := []
  /-- R390: index of the due instant its record names. -/
  lastDue : Nat := 0
  /-- R64: scans since the last shadow execution. -/
  scan : Nat := 0
  /-- R64, R65: result words of its newest scan: a pair's two, then the transform output of a FEATURE. -/
  result : List Word := []
  /-- R65: a third run is owed. -/
  owed : Option Owed := none
  /-- R70: its task record in DRAM is poisoned. -/
  recordHit : Bool := false
  /-- R380: model times of the extra instants of the last 10 s. -/
  extras : List Nat := []
  deriving DecidableEq, Repr

/-- What the effective decision says of one engine (R386, R423). -/
structure EngPl where
  /-- R381, R423: SPARE of its quad. -/
  spare : Bool := false
  /-- R399, R423: WORN. -/
  worn : Bool := false
  /-- R391, R423: TAKEN_OVER. -/
  taken : Bool := false
  /-- R422: ENGINE_WEAR. -/
  wearPpm : Word := 0
  /-- R422: INTEGRITY_FAULTS since the start. -/
  faults : Word := 0
  /-- R423: LOAD_PERMILLE. -/
  loadPm : BitVec 16 := 0
  /-- R423: FAILOVER_PERMILLE. -/
  failPm : BitVec 16 := 0
  deriving DecidableEq, Repr

/-- What Canvas keeps of one quad (R388, R423). -/
structure QuadPl where
  /-- R388, R423: operating times of its controller's charges in the last 24 h. -/
  charges : List Nat := []
  /-- R423: CANVAS_REVISION. -/
  revision : BitVec 8 := 0
  /-- R422: QUAD_FIRMWARE. -/
  fwVersion : Word := 0
  /-- R423: UPDATED. -/
  updated : Bool := false
  /-- R398: its retry reloads the previous firmware. -/
  reload : Bool := false
  deriving DecidableEq, Repr

/-- STATE of NODE_DUTY with its codes 0 to 4 (R425). -/
inductive PeerSt where
  | unknown | present | counted | absent | self
  deriving DecidableEq, Repr

/-- One other node as this node sees it (R408 to R411, R425). -/
structure Peer where
  /-- R409, R425: STATE. -/
  st : PeerSt := .unknown
  /-- R409, R425: model time of its last heartbeat. -/
  heardAt : Option Nat := none
  /-- R409: consecutive heartbeats arrived. -/
  beats : Nat := 0
  /-- R408: its last heartbeat count. -/
  beatNo : BitVec 16 := 0
  /-- R445: SESSION of its last message. -/
  session : Option (BitVec 16) := none
  /-- R410, R421: counted since this node's start. -/
  everCounted : Bool := false
  /-- R409: absent since it was last counted, so its snapshot is requested when counted. -/
  back : Bool := false
  /-- R421, R425: FORGET_NODE has taken it out of the set of R421 until it is next counted. -/
  forgotten : Bool := false
  /-- R408: REPLICA_READY of its last heartbeat. -/
  replicaReady : Bool := false
  /-- R408: PLACEMENT_READY. -/
  placementReady : Bool := false
  /-- R408: CONFIG_ABSENT. -/
  configAbsent : Bool := false
  /-- R408: OWN_FIRST. -/
  ownFirst : BitVec 16 := 0
  /-- R408: OWN_LAST. -/
  ownLast : BitVec 16 := 0
  /-- R408: SEGMENTS. -/
  segments : Word := 0
  /-- R408: C3 request, kbit/s. -/
  c3Need : Word := 0
  /-- R408: C3 budget, Mbit/s. -/
  c3Budget : BitVec 16 := 0
  /-- R425: CONFLICT. -/
  conflict : Bool := false
  /-- R403, R425: duty image held, its records as words. -/
  image : Option (List Word) := none
  /-- R403: parts of an image still arriving. -/
  imageParts : Tab (List Word) := []
  /-- R403: BASE_SEQUENCE of those parts. -/
  imageBase : Word := 0
  /-- R93: parts of the snapshot that have arrived. -/
  snapParts : List Nat := []
  /-- R92: BASE_SEQUENCE of that snapshot. -/
  snapBase : Word := 0
  /-- R93: its snapshot has been applied. -/
  snapped : Bool := false
  /-- R404: model time its snapshot was last requested for a gap. -/
  snapReqAt : Option Nat := none
  /-- R92: REPLICA_DELTAs stored before its snapshot. -/
  deltas : List Msg := []
  deriving DecidableEq, Repr

/-- A peer's point in the replica (R401 to R406). -/
structure RepPt where
  /-- R402: holder node of the record held. -/
  holder : BitVec 8 := 0xFF
  /-- R402: DUTY flag of the record held. -/
  byDuty : Bool := false
  /-- R402: TRANSITION_SEQ. -/
  seq : BitVec 16 := 0
  /-- R402: value, quality, time and alarm state. -/
  pub : Pub := {}
  /-- R405: model time the last record was taken. -/
  at_ : Nat := 0
  /-- R405: the point is STALE. -/
  stale : Bool := true
  /-- R70: its entry in DRAM is poisoned. -/
  hit : Bool := false
  /-- R310: EVAL_COUNT: evaluations that this node has made of it. -/
  evals : Word := 0
  /-- R49, R341: limit of each condition as the point's ALARMs give it. -/
  limits : Tab Pair := []
  /-- R330: group as the point's ALARMs give it. -/
  group : BitVec 8 := 0
  /-- R355: priority of each condition as the point's ALARMs give it. -/
  prios : Tab (BitVec 4) := []
  /-- R355: conditions folded, as the point's ALARMs give it. -/
  folded : BitVec 7 := 0
  /-- R335: operating time of arrival of the ALARM of its latest onset instant. -/
  onset : Option Nat := none
  /-- R335: wall-time label of that onset where SYNCED. -/
  onsetWall : Option (BitVec 64) := none
  /-- R406: already merged since the return or healing. -/
  merged : Bool := false
  /-- R406: alarm state and TRANSITION_SEQ of a record to merge at the next evaluation. -/
  pendingMerge : Option (Pair × BitVec 16) := none
  deriving DecidableEq, Repr

/-- The duty table (R410, R411, R413, R424). -/
structure DutyTab where
  /-- R425: peer alarm duty holder of each node. -/
  peer : Vector (BitVec 8) 64 := Vector.replicate 64 0xFF
  /-- R425: segment duty holders. -/
  seg : Vector (BitVec 8) 32 := Vector.replicate 32 0xFF
  /-- R424: CALL_HOLDER. -/
  call : BitVec 8 := 0xFF
  /-- R411, R424: DUTY_EPOCH. -/
  epoch : Pair := Pair.mk0 0
  /-- R49, R50, R413: the peer and segment duties as the C-pairs formed when the table took effect. -/
  words : Vector Pair 24 := Vector.replicate 24 (Pair.mk0 0xFFFFFFFF)
  deriving DecidableEq, Repr

/-- FW_STATE with its codes 0 to 8 (R395, R425). -/
inductive FwState where
  | idle | erasing | receiving | verifying | staged | applying | applied | rejected | failed
  deriving DecidableEq, Repr

/-- A firmware load and update (R395 to R398, R420, R425). -/
structure Fw where
  /-- R425: FW_STATE. -/
  st : FwState := .idle
  /-- R425: QUADS_DONE. -/
  done : BitVec 4 := 0
  /-- R425: QUAD_AT. -/
  at_ : Option (Fin 4) := none
  /-- R425: TARGET. -/
  target : Bool := true
  /-- R424: FW_NEXT_WORD. -/
  next : BitVec 21 := 0
  /-- R395: model time of the last window write. -/
  writtenAt : Nat := 0
  /-- R420: FW_SEQ of the target copy, 0 before VERIFYING. -/
  seq : Word := 0
  /-- R420: firmware version of the target copy. -/
  version : Word := 0
  /-- R398: FW_SEQ and version of the firmware in DRAM that an APPLIED update put there, none: that of the start. -/
  held : Option (Word × Word) := none
  deriving DecidableEq, Repr

/-- Placement and replication on this node (R379 to R425). -/
structure Canvas where
  /-- R379, R424: tasks by number. -/
  tasks : Tab Task := []
  /-- R422: engines. -/
  eng : Vector EngPl 16 := Vector.replicate 16 {}
  /-- R422: quads. -/
  quad : Vector QuadPl 4 := Vector.replicate 4 {}
  /-- R49, R50, R419: the effective decision as the C-pairs formed when it took effect. -/
  decision : List Pair := []
  /-- R387, R425: AGREEMENT. -/
  agreement : BitVec 4 := 3
  /-- R425: COUNTED. -/
  counted : BitVec 4 := 0
  /-- R425: DISSENT. -/
  dissent : BitVec 4 := 0
  /-- R425: UNPLACED. -/
  unplaced : BitVec 16 := 0
  /-- R424: ROUNDS. -/
  rounds : Word := 0
  /-- R387, R424: PLACEMENT_EPOCH. -/
  epoch : Pair := Pair.mk0 0
  /-- R382: an immediate round has been triggered. -/
  roundDue : Bool := false
  /-- R382: the round triggered is a rebalance round. -/
  rebalance : Bool := false
  /-- R387: the round has failed to reach its count once. -/
  failedOnce : Bool := false
  /-- R400: OP_MS up to which the multiples of ROTATION_DAYS have had their rotation. -/
  rotatedAt : Nat := 0
  /-- R382: operating time of the previous round. -/
  lastRound : Nat := 0
  /-- R409: the other nodes by number. -/
  peers : Tab Peer := []
  /-- R409, R424: VIEW, bit n for node n. -/
  view : BitVec 64 := 0
  /-- R411: the duty table. -/
  duty : DutyTab := {}
  /-- R412: model time at which this node took each segment duty. -/
  segTaken : Vector (Option Nat) 32 := Vector.replicate 32 none
  /-- R424: C3_GRANT. -/
  grant : Word := 0
  /-- R424: C3_BUDGET. -/
  budget : Word := 0
  /-- R424: C3_NEED. -/
  need : Word := 0
  /-- R417: grants of the counted nodes. -/
  grants : Tab Word := []
  /-- R408: heartbeat count of this node. -/
  beat : BitVec 16 := 0
  /-- R401: peers' points by number. -/
  replica : Tab RepPt := []
  /-- R402: REPLICA_DELTA records queued, oldest first. -/
  deltaq : List (List Word) := []
  /-- R390: ring of the last 16 samples and DIAG words of each channel, newest first. -/
  rings : Vector (List (Pair × Pair)) 16 := Vector.replicate 16 []
  /-- R395: firmware load and update. -/
  fw : Fw := {}
  /-- R419: model time PLACEMENT last left. -/
  placementSentAt : Nat := 0
  /-- R419: a decision's PLACEMENT waits for the 100 ms to run out. -/
  placementDue : Bool := false
  /-- R391: quads whose slot entries name every quad until Canvas rewrites the table. -/
  absorb : BitVec 4 := 0
  deriving DecidableEq, Repr

/-- Controller modes with their codes 0 to 4 (R468, R487). -/
inductive CanMode where
  | off | listening | restricted | normal | busOff
  deriving DecidableEq, Repr

/-- One message buffer (R471 to R474). -/
structure CanBuf where
  /-- R472: FULL. -/
  full : Bool := false
  /-- R472: LOCKED. -/
  locked : Bool := false
  /-- R473: model time of the lock. -/
  lockedAt : Nat := 0
  /-- R472: LOST. -/
  lost : Bool := false
  /-- R472: TX_RESULT. -/
  txResult : BitVec 4 := 0
  /-- R472: FILTER. -/
  filter : BitVec 8 := 0
  /-- R472: IDENTIFIER. -/
  id : BitVec 29 := 0
  /-- R472: DLC. -/
  dlc : BitVec 4 := 0
  /-- R472: IDE. -/
  ide : Bool := false
  /-- R472: FDF. -/
  fdf : Bool := false
  /-- R472: BRS. -/
  brs : Bool := false
  /-- R472: ESI. -/
  esi : Bool := false
  /-- R472: TIMESTAMP. -/
  stamp : BitVec 16 := 0
  /-- R483: the frame's TIMESTAMP extended to recorder time. -/
  at_ : Stamp := {}
  /-- R472: DATA words, words past the list's end zero. -/
  data : List Word := []
  /-- R487: a cancel is requested and its result not yet shown. -/
  cancel : Bool := false
  /-- R480: consecutive errors of R480 on the buffer. -/
  errors : Nat := 0
  /-- R478: the controller has sampled its last arbitration bit as won. -/
  won : Bool := false
  /-- R469: the frame on offer at the entry to RESTRICTED, which a frame already being sent completes. -/
  sending : Bool := false
  deriving DecidableEq, Repr

/-- One acceptance filter (R475, R487). -/
structure CanFilter where
  /-- R487: ENABLED. -/
  enabled : Bool := false
  /-- R487: IDE. -/
  ide : Bool := false
  /-- R487: IDENTIFIER. -/
  id : BitVec 29 := 0
  /-- R487: MASK. -/
  mask : BitVec 29 := 0
  deriving DecidableEq, Repr

/-- One mapped-receive entry (R482, R483, R487). -/
structure MapSt where
  /-- R487: ACCEPTED. -/
  accepted : BitVec 16 := 0
  /-- R487: SHORT. -/
  short : BitVec 8 := 0
  /-- R487: TIMED_OUT. -/
  timedOut : Bool := false
  /-- R296: model time of the last accepted frame. -/
  lastAt : Option Nat := none
  /-- R291: reception of the frame. -/
  at_ : Stamp := {}
  /-- R296: newest value pair. -/
  value : Pair := Pair.mk0 0x7FC00000
  /-- R483: the value is NaN or infinite. -/
  valueBad : Bool := false
  deriving DecidableEq, Repr

/-- One CAN controller (R463 to R487). -/
structure CanCtl where
  /-- R487: MODE. -/
  mode : CanMode := .off
  /-- R487: ERROR_STATE PASSIVE. -/
  passive : Bool := false
  /-- R470: model time at which a hold that runs ends. -/
  holdEnd : Option Nat := none
  /-- R468: 11 recessive bits seen since the segment duty was taken. -/
  idleSeen : Bool := false
  /-- R487: TEC. -/
  tec : Nat := 0
  /-- R487: REC. -/
  rec_ : Nat := 0
  /-- R487: LEC. -/
  lec : BitVec 3 := 0
  /-- R487: DLEC. -/
  dlec : BitVec 3 := 0
  /-- R487: TDCV. -/
  tdcv : BitVec 7 := 0
  /-- R470: operating times of the entries to BUS_OFF in the last 60 s. -/
  entries : List Nat := []
  /-- R471: the buffers. -/
  bufs : Vector CanBuf 64 := Vector.replicate 64 {}
  /-- R474: shadow slots of buffers 0 to 7. -/
  shadows : Vector (Option CanBuf) 8 := Vector.replicate 8 none
  /-- R474: the shadow frame replaced another. -/
  shadowLost : Vector Bool 8 := Vector.replicate 8 false
  /-- R471: FULL FIFO buffers, oldest first. -/
  fifo : List Nat := []
  /-- R474: next buffer in FIFO order. -/
  fifoNext : Nat := 8
  /-- R475: standard filters. -/
  filters : Vector CanFilter 128 := Vector.replicate 128 {}
  /-- R475: high-priority filters. -/
  hp : Vector CanFilter 8 := Vector.replicate 8 {}
  /-- R486: mapped-receive entries by number. -/
  maps : Tab MapSt := []
  /-- R486: RX_FRAMES. -/
  rxFrames : Word := 0
  /-- R486: TX_FRAMES. -/
  txFrames : Word := 0
  /-- R486: RX_OVERRUN. -/
  rxOverrun : Word := 0
  /-- R486: SHADOW_LOST. -/
  shadowLosts : Word := 0
  /-- R486: TX_CANCELLED. -/
  txCancelled : Word := 0
  /-- R486: ID_COLLISIONS. -/
  collisions : Word := 0
  /-- R486: LOCK_LAPSES. -/
  lapses : Word := 0
  /-- R486: FOREIGN_TALKER. -/
  foreign : Word := 0
  /-- R481: model time since which another node's frames continue. -/
  foreignSince : Option Nat := none
  /-- R481: model time of the last of them. -/
  foreignLast : Nat := 0
  /-- R476: interrupts raised: bits 0 to 7 the high-priority filters, bit 8 the FIFO. -/
  irqs : BitVec 9 := 0
  deriving DecidableEq, Repr

/-- The four record classes with their codes (R489). -/
inductive RecClass where
  | p | a | e | d
  deriving DecidableEq, Repr

/-- One Linen record, RECORD_SEQ held beside it (R488 to R490). -/
structure Rec where
  /-- R488: POWER_CYCLE. -/
  cycle : BitVec 24 := 0
  /-- R488, R490: TYPE. -/
  type : BitVec 8 := 0
  /-- R488: OP_MS. -/
  opMs : BitVec 48 := 0
  /-- R489: CLASS. -/
  cls : RecClass := .d
  /-- R489: INTEGRITY. -/
  integrity : Bool := false
  /-- R489: WALL_QUALITY. -/
  wallQ : BitVec 2 := 0
  /-- R489: RESTAMPED. -/
  restamped : Bool := false
  /-- R489: RESUMED. -/
  resumed : Bool := false
  /-- R489: ANNOUNCE. -/
  announce : Bool := false
  /-- R489: FOLDED. -/
  folded : Bool := false
  /-- R489: CONTINUED. -/
  cont : Bool := false
  /-- R488: WALL_TIME. -/
  wall : BitVec 64 := 0
  /-- R489: SUBJECT. -/
  subject : Word := 0xFFFFFFFF
  /-- R490: DETAIL. -/
  detail : Word := 0
  /-- R488: words P0 to P5, words past the list's end zero. -/
  payload : List Word := []
  deriving DecidableEq, Repr

/-- A staged record not yet committed (R497, R498). -/
structure Staged where
  /-- R498: RECORD_SEQ; none before HISTORY READY. -/
  seq : Option Word := none
  /-- R499: model time of staging. -/
  at_ : Nat := 0
  /-- R70: its first copy is damaged. -/
  hitA : Bool := false
  /-- R70: its second copy is damaged. -/
  hitB : Bool := false
  /-- R497: the record. -/
  r : Rec := {}
  deriving DecidableEq, Repr

/-- One of the eight Linen cursors (R510, R511, R518, R519). -/
structure Cursor where
  /-- R519: OWNED. -/
  owned : Bool := false
  /-- R510: owner's MAC address. -/
  mac : BitVec 48 := 0
  /-- R510: owner's SESSION. -/
  sess : BitVec 16 := 0
  /-- R510: model time of the owner's last access. -/
  at_ : Nat := 0
  /-- R519: TIER. -/
  tier : BitVec 2 := 0
  /-- R519: CLASS_MASK. -/
  mask : BitVec 4 := 0xF
  /-- R519: FOLLOW. -/
  follow : Bool := false
  /-- R518: POSITION_HIGH. -/
  posHigh : Word := 0
  /-- R518: POSITION_LOW. -/
  posLow : Word := 0
  /-- R518: SUBJECT_FILTER. -/
  filter : Word := 0xFFFFFFFF
  /-- R519: BUSY through a fill. -/
  busy : Bool := false
  /-- R519: AT_HEAD. -/
  atHead : Bool := false
  /-- R519: RECYCLED_SKIP. -/
  recycled : Bool := false
  /-- R519: STAGED_PRESENT. -/
  stagedPresent : Bool := false
  /-- R519: ENTRIES. -/
  entries : BitVec 8 := 0
  /-- R518: SKIPPED, recycled. -/
  skipRecycled : BitVec 16 := 0
  /-- R518: SKIPPED, unreadable. -/
  skipUnread : BitVec 16 := 0
  /-- R511: one past the last record examined. -/
  nextPos : Nat := 0
  /-- R518: WINDOW, words past the list's end zero. -/
  window : List Word := []
  /-- R512: model time of the last fill. -/
  filledAt : Option Nat := none
  deriving DecidableEq, Repr

/-- One NAND block as the tiers use it (R502 to R507). -/
structure NandBlock where
  /-- R490: target * 2^24 + block. -/
  id : Nat := 0
  /-- R503: BLOCK_WRITE_SEQ. -/
  writeSeq : Word := 0
  /-- R503: records committed into it with their RECORD_SEQ, oldest first. -/
  recs : List (Word × Rec) := []
  /-- R503: pages programmed. -/
  pages : Nat := 0
  /-- R511: first and last RECORD_SEQ of each unreadable page. -/
  badPages : List (Word × Word) := []
  /-- R507: erase count. -/
  erases : Nat := 0
  /-- R506: operating time of its programming. -/
  at_ : Nat := 0
  /-- R506: its write label where the time was SYNCED. -/
  wall : Option (BitVec 64) := none
  deriving DecidableEq, Repr

/-- One block of the permanent or the trend tier (R502, R503, R505 to R507). -/
structure TierBlock where
  /-- R490: block of target 0. -/
  id : Nat := 0
  /-- R503: BLOCK_WRITE_SEQ of the tier. -/
  writeSeq : Word := 0
  /-- R503: pages programmed. -/
  pages : Nat := 0
  /-- R507: erase count. -/
  erases : Nat := 0
  /-- R506: operating time of its programming. -/
  at_ : Nat := 0
  /-- R506: its write label where the time was SYNCED. -/
  wall : Option (BitVec 64) := none
  deriving DecidableEq, Repr

/-- One archived trend period of a point (R514, R515). -/
structure TrendEntry where
  /-- R515: start of the period. -/
  opMs : Nat := 0
  /-- R515: worst quality code. -/
  worst : BitVec 8 := 0
  /-- R515: usable samples. -/
  count : Nat := 0
  /-- R515: MEAN. -/
  mean : Word := 0x7FC00000
  /-- R515: MIN. -/
  lo : Word := 0x7FC00000
  /-- R515: MAX. -/
  hi : Word := 0x7FC00000
  deriving DecidableEq, Repr

/-- Trend store of one point (R514). -/
structure Trend where
  /-- R514: trend cache, newest first: OP_MS, value and quality code. -/
  cache : List (Nat × Word × BitVec 8) := []
  /-- R514: trend tier entries, newest first. -/
  archive : List TrendEntry := []
  deriving DecidableEq, Repr

/-- STATE of HISTORY_STATUS with its codes 0 to 4 (R519). -/
inductive HistState where
  | scanning | indexing | inService | noNand | fault
  deriving DecidableEq, Repr

/-- The NAND itself, kept through any reset (R501 to R507). -/
structure Nand where
  /-- R502: main tier, newest block first. -/
  main : List NandBlock := []
  /-- R502, R511: permanent tier, the first class P record ever committed first. -/
  perm : List (Word × Rec) := []
  /-- R519: TARGETS. -/
  targets : BitVec 2 := 0
  /-- R519: PAGE. -/
  page : BitVec 2 := 0
  /-- R519: TARGET0_GIB. -/
  gib0 : BitVec 8 := 0
  /-- R519: TARGET1_GIB. -/
  gib1 : BitVec 8 := 0
  /-- R507, R518: blocks of the bad-block table. -/
  badTable : List Nat := []
  /-- R575: NV-DDR2 timing mode in use, 0 to 7. -/
  timing : Nat := 0
  /-- R575: on-die termination of the targets in writes and of the node in reads. -/
  odt : Bool := false
  /-- R503: block openings of the main tier. -/
  openings : Word := 0
  /-- R518: erases of the main tier in all. -/
  eraseSum : Nat := 0
  /-- R504: a page program was under way at the last reset. -/
  interrupted : Bool := false
  /-- R504: records of the interrupted page that check, until they are copied at HISTORY READY. -/
  kept : List (Word × Rec) := []
  /-- R502, R503: blocks of the permanent tier, newest first. -/
  permLog : List TierBlock := []
  /-- R502, R503, R505: blocks of the trend tier, newest first. -/
  trendLog : List TierBlock := []
  /-- R514: trend entries in the trend buffer, waiting for a page of the trend tier. -/
  trendBuf : Nat := 0
  /-- R514: trend store by point. -/
  trends : Tab Trend := []
  /-- R507: operating day and erases of the main tier then, the last 31 days, newest first. -/
  wearLog : List (Nat × Nat) := []
  /-- R494, R518: RESUME_MS of the newest committed checkpoint and its POWER_CYCLE. -/
  resume : Option (Nat × BitVec 24) := none
  deriving DecidableEq, Repr

/-- The history store's logic side (R488 to R519). -/
structure Linen where
  /-- R519: STATE. -/
  st : HistState := .scanning
  /-- R508: the NAND scan is done. -/
  scanned : Bool := false
  /-- R508: the RECORD_SEQ index is built. -/
  indexed : Bool := false
  /-- R518: NEXT_SEQ. -/
  nextSeq : Word := 0
  /-- R455: class E records waiting for an EVENT, oldest first, with their RECORD_SEQ. -/
  events : List (Word × Rec) := []
  /-- R497: records staged and not committed, oldest first (both copies). -/
  staged : List Staged := []
  /-- R518: DROPPED. -/
  dropped : Word := 0
  /-- R519: DROPPING. -/
  dropping : Bool := false
  /-- R490, R500: class D records dropped since the last report. -/
  dropD : Word := 0
  /-- R490, R500: class E records dropped since the last report. -/
  dropE : Word := 0
  /-- R490, R500: class A records replaced since the last report. -/
  dropA : Word := 0
  /-- R490, R500: class P records replaced since the last report. -/
  dropP : Word := 0
  /-- R490, R500: RECORD_SEQ values lost since the last report. -/
  lostSeq : Word := 0
  /-- R519: RESUMED. -/
  resumed : Bool := false
  /-- R518: the eight cursors. -/
  cursors : Vector Cursor 8 := Vector.replicate 8 {}
  /-- R519: PERMANENT_FULL. -/
  permFull : Bool := false
  /-- R512: bits in the 64 KiB history-read bucket. -/
  readBucket : Nat := 524288
  /-- R512: model time of the bucket's last filling. -/
  readBucketAt : Nat := 0
  deriving DecidableEq, Repr

/-- The time qualities with their codes 0 to 2 (R524, R534). -/
inductive TimeQ where
  | unset | held | synced
  deriving DecidableEq, Repr

/-- The backup domain, kept through any logic-side reset (R520 to R544). -/
structure Bkup where
  /-- R520, R544: SUPPLY, VBAT when set. -/
  onVbat : Bool := true
  /-- R544: VBAT_MV. -/
  vbatMv : BitVec 12 := 0
  /-- R544: VBAT_ABSENT. -/
  vbatAbsent : Bool := false
  /-- R544: VBAT_LOW. -/
  vbatLow : Bool := false
  /-- R539, R544: WAKE_SEEN. -/
  wakeSeen : Bool := false
  /-- R521: brownout latch, powering up set. -/
  latch : Bool := true
  /-- R544: BACKUP_VALID. -/
  valid : Bool := false
  /-- R524: RTC SECONDS. -/
  seconds : Word := 0
  /-- R524: prescaler, SUBSECOND. -/
  sub : BitVec 15 := 0
  /-- R524, R544: QUALITY. -/
  quality : TimeQ := .unset
  /-- R524: POWER_CYCLE in [31:8]. -/
  cycle : Pair := Pair.mk0 0
  /-- R524: OP_MS [47:32]. -/
  opHi : Pair := Pair.mk0 0
  /-- R524: OP_MS [31:0]. -/
  opLo : Pair := Pair.mk0 0
  /-- R524: signature. -/
  signature : Pair := Pair.mk0 0
  /-- R524, R543: backup RAM. -/
  ram : Vector Word 256 := Vector.replicate 256 0
  /-- R528, R544: STAGED. -/
  staged : Bool := false
  /-- R544: STAGE_SECONDS. -/
  stageSec : Word := 0
  /-- R544: STAGE_SUBSECOND. -/
  stageSub : Word := 0
  /-- R528: model time of staging. -/
  stagedAt : Nat := 0
  /-- R532: crystal cycles for which the prescaler is still held. -/
  shiftLeft : Nat := 0
  /-- R544: SHIFT, the last applied. -/
  lastShift : BitVec 16 := 0
  /-- R533, R544: TRIM. -/
  trim : BitVec 5 := 16
  /-- R533: code waiting for the next roll-over. -/
  trimNew : Option (BitVec 5) := none
  /-- R543: RTC_OFFSET. -/
  rtcOffset : Word := 0x80000000
  /-- R530, R544: currentUtcOffset kept. -/
  utcOffset : BitVec 16 := 0
  /-- R544: UTC_OFFSET_VALID. -/
  utcValid : Bool := false
  /-- R534: consecutive comparisons within 100 µs. -/
  goodRun : Nat := 0
  /-- R534: consecutive comparisons above 100 µs. -/
  badRun : Nat := 0
  /-- R534: model time of the last comparison. -/
  comparedAt : Nat := 0
  /-- R533: sum of the shifts of this 600 s of SYNCED. -/
  shiftSum : Int := 0
  /-- R533: model time at which this 600 s of SYNCED began, in ms. -/
  trimAt : Nat := 0
  /-- R538: PWRON. -/
  pwron : Bool := true
  /-- R538: SHUTDOWN has driven PWRON low. -/
  shutdown : Bool := false
  /-- R538: a SHUTDOWN write waits for BACKLOG or 2 s. -/
  shutWait : Option Nat := none
  /-- R543: WAKE_AT. -/
  wakeAt : Word := 0
  /-- R537: PPS high after a roll-over. -/
  pps : Bool := false
  /-- R496: recorder time OP_MS at t0. -/
  recT0 : Nat := 0
  /-- R83: recorder time established for this power cycle. -/
  timeKnown : Bool := false
  deriving DecidableEq, Repr

/-- One always-running counter (R547). -/
structure Ctr where
  /-- R547: count. -/
  n : BitVec 48 := 0
  /-- R547: WRAPPED. -/
  wrapped : Bool := false
  deriving DecidableEq, Repr

/-- One sampling counter Sk (R549 to R553, R563). -/
structure Sampler where
  /-- R563: ENABLE. -/
  enable : Bool := false
  /-- R563: CHAIN. -/
  chain : Bool := false
  /-- R563: SAMPLE. -/
  sample : Bool := false
  /-- R563: EVENT. -/
  event : BitVec 16 := 0
  /-- R551, R561: PRELOAD. -/
  preload : Word := 0
  /-- R562: COUNT. -/
  count : Word := 0
  /-- R563: WRAPPED. -/
  wrapped : Bool := false
  /-- R554: model second of the samples counted. -/
  second : Nat := 0
  /-- R554: samples taken in that second. -/
  inSecond : Nat := 0
  deriving DecidableEq, Repr

/-- One dump of the dump ring (R556). -/
structure Dump where
  /-- R556: DUMP_SEQ. -/
  seq : Word := 0
  /-- R555: CAUSE. -/
  cause : BitVec 8 := 0
  /-- R557: POWER_CYCLE. -/
  cycle : BitVec 24 := 0
  /-- R557: OP_MS of the capture. -/
  opMs : BitVec 48 := 0
  /-- R557: Gauze ticks within the millisecond. -/
  ticks : BitVec 10 := 0
  /-- R556: the always-running counters that are not zero. -/
  ctrs : Tab Ctr := []
  /-- R556: COUNT and WRAPPED of S0 to S15. -/
  samplers : Vector (Word × Bool) 16 := Vector.replicate 16 (0, false)
  deriving DecidableEq, Repr

/-- The performance counter unit (R545 to R563). -/
structure Perf where
  /-- R547, R562: always-running counters by event number, one not listed being 0. -/
  ctrs : Tab Ctr := []
  /-- R549: S0 to S15. -/
  samplers : Vector Sampler 16 := Vector.replicate 16 {}
  /-- R553: SAMPLE_SEQ of the next sample. -/
  sampleSeq : Word := 0
  /-- R554: sample ring, newest first, at most 262 144 records. -/
  sampleRing : List (List Word) := []
  /-- R557: samples not yet sent to DUMP_FEED. -/
  waiting : Nat := 0
  /-- R562: SAMPLES_LOST. -/
  samplesLost : Word := 0
  /-- R562: LAST_DUMP_SEQ. -/
  dumpSeq : Word := 0
  /-- R555: OP_MS at the newest periodic dump, or at TIME READY. -/
  dumpAt : Nat := 0
  /-- R557: newest dumps of the ring not yet sent to DUMP_FEED. -/
  unsent : Nat := 0
  /-- R556: dump ring, newest first, at most 12 288 dumps. -/
  dumps : List Dump := []
  deriving DecidableEq, Repr

/-- The whole block, and the queue of commands that wait. -/
structure State where
  /-- R1: commands waiting, first in, first out (the model's own queue). -/
  pending : List Instr := []
  /-- R525: the model's clock and free-value counter. -/
  clk : Clk := {}
  /-- R99: node start state. -/
  sys : Sys := {}
  /-- R79: pins. -/
  pins : Pins := {}
  /-- R140: configuration read at start. -/
  cfg : Cfg := {}
  /-- R103: NOR. -/
  nor : Nor := {}
  /-- R15: Q0 to Q3. -/
  quads : Vector Quad 4 := Vector.replicate 4 {}
  /-- R15: E0 to E15. -/
  engines : Vector Engine 16 := Vector.replicate 16 {}
  /-- R18: fabric. -/
  fabric : Fabric := {}
  /-- R26: Gauze. -/
  gauze : Gauze := {}
  /-- R34: power level. -/
  power : Power := {}
  /-- R41: DRAM. -/
  dram : Dram := {}
  /-- R95: field die. -/
  field : FieldDie := {}
  /-- R174: UAI0 to UAI15. -/
  uai : Vector Uai 16 := Vector.replicate 16 {}
  /-- R199: HART channels 0 to 19. -/
  hart : Vector HartDev 20 := Vector.replicate 20 {}
  /-- R199: the four modems. -/
  modems : Vector Modem 4 := Vector.replicate 4 {}
  /-- R189: spare converter and references. -/
  spare : Spare := {}
  /-- R210: vibration. -/
  vib : Vib := {}
  /-- R230: AO0 to AO3. -/
  ao : Vector Ao 4 := Vector.replicate 4 {}
  /-- R254: discrete inputs and outputs. -/
  disc : Disc := {}
  /-- R283: points this node evaluates, by number. -/
  points : Tab LocalPt := []
  /-- R312: alarm engine beside the points. -/
  alarms : Alarms := {}
  /-- R350: calling. -/
  call : Call := {}
  /-- R364: panels. -/
  panels : Panels := {}
  /-- R379: placement and replication. -/
  canvas : Canvas := {}
  /-- R426: ring, switch and Bereb. -/
  ring : Ring := {}
  /-- R463: CAN-A and CAN-B. -/
  can : Vector CanCtl 2 := Vector.replicate 2 {}
  /-- R501: NAND. -/
  nand : Nand := {}
  /-- R488: history store. -/
  linen : Linen := {}
  /-- R520: backup domain. -/
  bkup : Bkup := {}
  /-- R545: performance counters. -/
  perf : Perf := {}
  deriving DecidableEq, Repr

/-- The reasons a command stops the block with a fault. -/
inductive Fault where
  /-- Raised by no command: every rule that calls an access wrong gives the node an effect for it, and the commands take
  that effect. Safe: a claim that excludes it excludes nothing. -/
  | noSuchAddress (addr : Nat)
  deriving DecidableEq, Repr

/-- The reasons a command is refused. -/
inductive Refusal where
  /-- Raised by the arm of a command that has no meaning yet. Safe: nothing is claimed of it. -/
  | notModelled (mnemonic : String)
  deriving DecidableEq, Repr


/-- The node before anything has happened to it: the logic side held in reset, the field die stopped, the NOR erased
and the backup domain just powered (R77, R78, R79, R96, R521); no command waits. -/
def State.reset : State := {}

end Sys2Proof.Machine
end

