-- ==== Sys2Proof/Machine/Ops.lean ====
section
/-! DEFINITION. The named operations over tables, memories, words and pairs, and the accessors of State that every
meaning goes through. -/

namespace Sys2Proof.Machine
open Sys2Proof

/-! Vectors. -/

/-- The vector with its i-th entry passed through f. -/
def vmod {α : Type} {n : Nat} (v : Vector α n) (i : Fin n) (f : α → α) : Vector α n :=
  v.set i.val (f (v[i.val]'i.isLt)) i.isLt

/-- The i-th entry. -/
def vat {α : Type} {n : Nat} (v : Vector α n) (i : Fin n) : α := v[i.val]'i.isLt

/-! Sparse tables. -/

/-- The entry with number i. -/
def tget {α : Type} : Tab α → Nat → Option α
  | [], _ => none
  | (k, a) :: t, i => if k = i then some a else tget t i

/-- The entry with number i, or d. -/
def tgetD {α : Type} (t : Tab α) (i : Nat) (d : α) : α := (tget t i).getD d

/-- The table with entry i set to a, its numbers rising. -/
def tset {α : Type} : Tab α → Nat → α → Tab α
  | [], i, a => [(i, a)]
  | (k, b) :: t, i, a =>
    if k = i then (i, a) :: t else if i < k then (i, a) :: (k, b) :: t else (k, b) :: tset t i a

/-- The table without entry i. -/
def terase {α : Type} : Tab α → Nat → Tab α
  | [], _ => []
  | (k, a) :: t, i => if k = i then terase t i else (k, a) :: terase t i

/-- The table with its entry i passed through f where it has one. -/
def tmod {α : Type} (t : Tab α) (i : Nat) (f : α → α) : Tab α :=
  t.map fun e => if e.1 = i then (e.1, f e.2) else e

/-- Every entry passed through f. -/
def tmap {α : Type} (t : Tab α) (f : Nat → α → α) : Tab α := t.map fun e => (e.1, f e.1 e.2)

/-! Memories (canonical form: addresses strictly rising, no entry equal to what an unlisted address reads as). -/

/-- The byte at a, d where none is listed. -/
def memGet (d : BitVec 8) : Mem → Nat → BitVec 8
  | [], _ => d
  | (k, b) :: t, a => if k = a then b else memGet d t a

/-- The memory with byte b at a. -/
def memSet (d : BitVec 8) : Mem → Nat → BitVec 8 → Mem
  | [], a, b => if b = d then [] else [(a, b)]
  | (k, c) :: t, a, b =>
    if k = a then (if b = d then t else (a, b) :: t)
    else if a < k then (if b = d then (k, c) :: t else (a, b) :: (k, c) :: t)
    else (k, c) :: memSet d t a b

/-- Every listed address lies above lo and differs from what an unlisted one reads as, the addresses rising. -/
def memWfFrom (d : BitVec 8) : Nat → Mem → Bool
  | _, [] => true
  | lo, (k, b) :: t => decide (lo ≤ k) && decide (b ≠ d) && memWfFrom d (k + 1) t

/-- The canonical form of a memory whose unlisted bytes read as d. -/
def Mem.wf (d : BitVec 8) (m : Mem) : Bool := memWfFrom d 0 m

/-- What an unlisted byte of the NOR reads as: erased (R103, log entry 6). -/
def norByte : BitVec 8 := 0xFF

/-- What an unlisted byte of every other memory reads as (log entry 6). -/
def ramByte : BitVec 8 := 0

/-- The big-endian word at byte address a (R6; log entry 7). -/
def memWord (d : BitVec 8) (m : Mem) (a : Nat) : Word :=
  memGet d m a ++ memGet d m (a + 1) ++ memGet d m (a + 2) ++ memGet d m (a + 3)

/-- The memory with word w at byte address a, big-endian. -/
def memSetWord (d : BitVec 8) (m : Mem) (a : Nat) (w : Word) : Mem :=
  memSet d (memSet d (memSet d (memSet d m a (w.extractLsb' 24 8)) (a + 1) (w.extractLsb' 16 8)) (a + 2)
    (w.extractLsb' 8 8)) (a + 3) (w.extractLsb' 0 8)

/-- n words from byte address a upwards. -/
def memWords (d : BitVec 8) (m : Mem) (a : Nat) : Nat → List Word
  | 0 => []
  | n + 1 => memWord d m a :: memWords d m (a + 4) n

/-- The memory with the words ws from byte address a upwards. -/
def memSetWords (d : BitVec 8) (m : Mem) (a : Nat) : List Word → Mem
  | [] => m
  | w :: ws => memSetWords d (memSetWord d m a w) (a + 4) ws

/-- n bytes from a upwards. -/
def memBytes (d : BitVec 8) (m : Mem) (a : Nat) : Nat → List (BitVec 8)
  | 0 => []
  | n + 1 => memGet d m a :: memBytes d m (a + 1) n

/-- The memory with n bytes from a upwards erased. -/
def memErase (m : Mem) (a n : Nat) : Mem := m.filter fun e => decide (e.1 < a ∨ a + n ≤ e.1)

/-! Words. -/

/-- The number in bits [hi:lo]. -/
def bits (w : Word) (hi lo : Nat) : Nat := (w.toNat >>> lo) % 2 ^ (hi + 1 - lo)

/-- Bit i. -/
def bit (w : Word) (i : Nat) : Bool := w.getLsbD i

/-- The word of a number, modulo 2^32. -/
def w32 (n : Nat) : Word := BitVec.ofNat 32 n

/-- n placed at bit lo. -/
def at' (lo n : Nat) : Word := BitVec.ofNat 32 (n <<< lo)

/-- 1 at bit i where b holds. -/
def flag (i : Nat) (b : Bool) : Word := if b then BitVec.ofNat 32 (1 <<< i) else 0

/-- One where b holds, else zero. -/
def b2n (b : Bool) : Nat := if b then 1 else 0

/-- A counter that stops at its greatest value. -/
def satInc {n : Nat} (w : BitVec n) : BitVec n := if w = BitVec.allOnes n then w else w + 1

/-- The low 16 bits of a number as a word's high half over another's low half. -/
def hiLo (hi lo : Nat) : Word := at' 16 (hi % 65536) ||| w32 (lo % 65536)

/-- The mask of the members that p holds for. -/
def maskOf (n : Nat) (p : Nat → Bool) : Nat :=
  (List.range n).foldl (fun m i => if p i then m + 2 ^ i else m) 0

/-- A signed 32-bit reading of a word. -/
def sInt (w : Word) : Int := w.toInt

/-- The word of an integer, modulo 2^32. -/
def wInt (i : Int) : Word := BitVec.ofInt 32 i

/-- The NaN pair 0x7FC0_0000 (R54). -/
def nanPair : Pair := Pair.mk0 0x7FC00000

/-- A pair whose complement path was hit by an upset (R52): the second word is formed from a value with bits flipped. -/
def pairUpset (w upset : Word) : Pair := ⟨w, ~~~(w ^^^ upset)⟩

/-- The words of a pair in order. -/
def pws (p : Pair) : List Word := [p.v, p.c]

/-! Check sums. -/

/-- One step of a reflected CRC-32 with polynomial q (reflected) over a byte. -/
def crcByte (q : Word) (c : Word) (b : BitVec 8) : Word :=
  (List.range 8).foldl (fun c _ => if c.getLsbD 0 then (c >>> 1) ^^^ q else c >>> 1) (c ^^^ b.setWidth 32)

/-- A reflected CRC-32 over bytes, initial value and final XOR 0xFFFF_FFFF. -/
def crcBytes (q : Word) (bs : List (BitVec 8)) : Word := ~~~(bs.foldl (crcByte q) 0xFFFFFFFF)

/-- The bytes of words, big-endian (R6). -/
def wordBytes (ws : List Word) : List (BitVec 8) :=
  ws.flatMap fun w => [w.extractLsb' 24 8, w.extractLsb' 16 8, w.extractLsb' 8 8, w.extractLsb' 0 8]

/-- CRC-32C (R443) over bytes. -/
def crc32c (bs : List (BitVec 8)) : Word := crcBytes 0x82F63B78 bs

/-- CRC-32 of the configuration image (R112) over bytes. -/
def crc32 (bs : List (BitVec 8)) : Word := crcBytes 0xEDB88320 bs

/-! The clock, free values and recorder time. -/

/-- The next free value, and the state with the counter advanced (log entry 8). -/
def draw (s : State) : Word × State :=
  (Config.freeWord s.clk.free, { s with clk := { s.clk with free := s.clk.free + 1 } })

/-- Model time in milliseconds (log entry 3). -/
def now (s : State) : Nat := s.clk.now

/-- OP_MS as the backup domain holds it (R524). -/
def opMs (s : State) : Nat := (bits s.bkup.opHi.v 15 0) * 2 ^ 32 + s.bkup.opLo.v.toNat

/-- POWER_CYCLE as the backup domain holds it (R524). -/
def powerCycle (s : State) : Nat := bits s.bkup.cycle.v 31 8

/-- POWER_CYCLE of records and messages: 0 until TIME is READY (R445, R496). -/
def recCycle (s : State) : BitVec 24 := if s.bkup.timeKnown then BitVec.ofNat 24 (powerCycle s) else 0

/-- How many members of a list p holds for. -/
def countIf {α : Type} (l : List α) (p : α → Bool) : Nat := (l.filter p).length

/-- OP_MS of records and messages: milliseconds since t0 until TIME is READY (R445, R496). -/
def recMs (s : State) : BitVec 48 :=
  if s.bkup.timeKnown then BitVec.ofNat 48 (opMs s) else s.sys.msSince.setWidth 48

/-- The three words POWER_CYCLE, OP_MS high and OP_MS low of a message (R84, R341, R536). -/
def timeWords (s : State) : List Word :=
  [at' 8 (recCycle s).toNat, w32 ((recMs s).toNat / 2 ^ 32), w32 (recMs s).toNat]

/-- The code of a time quality (R544). -/
def TimeQ.code : TimeQ → Nat
  | .unset => 0
  | .held => 1
  | .synced => 2

/-- The quality code of a label made now: UNSET until TIME is READY (R496). -/
def wallQ (s : State) : BitVec 2 := if s.bkup.timeKnown then BitVec.ofNat 2 s.bkup.quality.code else 0

/-- The wall-time label of now (R526). -/
def wallNow (s : State) : BitVec 64 := s.bkup.seconds ++ (0 : BitVec 17) ++ s.bkup.sub

/-- The logic side is out of reset (R78). -/
def up (s : State) : Bool := !s.sys.held

/-- The moment of now. -/
def stampNow (s : State) : Stamp := { cycle := recCycle s, ms := recMs s, wall := wallNow s, q := wallQ s }

/-- The moment of a publication. -/
def stampOf (u : Pub) : Stamp := { cycle := u.cycle, ms := u.opMs, wall := u.wall, q := u.wallQ }

/-! Updates of one member of State. -/

/-- The state with quad q passed through f. -/
def State.modQuad (s : State) (q : Fin 4) (f : Quad → Quad) : State := { s with quads := vmod s.quads q f }

/-- The state with engine e passed through f. -/
def State.modEngine (s : State) (e : Fin 16) (f : Engine → Engine) : State := { s with engines := vmod s.engines e f }

/-- The state with UAI n passed through f. -/
def State.modUai (s : State) (n : Fin 16) (f : Uai → Uai) : State := { s with uai := vmod s.uai n f }

/-- The state with HART channel c passed through f. -/
def State.modHart (s : State) (c : Fin 20) (f : HartDev → HartDev) : State := { s with hart := vmod s.hart c f }

/-- The state with energy-limited port p passed through f. -/
def State.modPort (s : State) (p : Fin 20) (f : Port → Port) : State :=
  { s with field := { s.field with ports := vmod s.field.ports p f } }

/-- The state with Felt's hold on output o passed through f. -/
def State.modFelt (s : State) (o : Fin 12) (f : FeltCmd → FeltCmd) : State :=
  { s with field := { s.field with felt := vmod s.field.felt o f } }

/-- The state with loop output n passed through f. -/
def State.modAo (s : State) (n : Fin 4) (f : Ao → Ao) : State := { s with ao := vmod s.ao n f }

/-- The state with digital input n passed through f. -/
def State.modDi (s : State) (n : Fin 16) (f : Di → Di) : State := { s with disc := { s.disc with di := vmod s.disc.di n f } }

/-- The state with digital output n passed through f. -/
def State.modDo (s : State) (n : Fin 8) (f : Do → Do) : State := { s with disc := { s.disc with do_ := vmod s.disc.do_ n f } }

/-- The state with the vibration side of channel n passed through f. -/
def State.modVib (s : State) (n : Fin 16) (f : VibCh → VibCh) : State := { s with vib := { s.vib with ch := vmod s.vib.ch n f } }

/-- The state with local point p passed through f. -/
def State.modPoint (s : State) (p : Nat) (f : LocalPt → LocalPt) : State := { s with points := tmod s.points p f }

/-- The state with ring port p passed through f. -/
def State.modRingPort (s : State) (p : Fin 3) (f : RingPort → RingPort) : State :=
  { s with ring := { s.ring with ports := vmod s.ring.ports p f } }

/-- The state with class c passed through f. -/
def State.modClass (s : State) (c : Fin 4) (f : ClassSt → ClassSt) : State :=
  { s with ring := { s.ring with classes := vmod s.ring.classes c f } }

/-- The state with CAN controller c passed through f. -/
def State.modCan (s : State) (c : Fin 2) (f : CanCtl → CanCtl) : State := { s with can := vmod s.can c f }

/-- The state with cursor c passed through f. -/
def State.modCursor (s : State) (c : Fin 8) (f : Cursor → Cursor) : State :=
  { s with linen := { s.linen with cursors := vmod s.linen.cursors c f } }

/-- The state with SYSTEM condition k passed through f. -/
def State.modSys (s : State) (k : Fin 64) (f : SysCond → SysCond) : State :=
  { s with alarms := { s.alarms with sysc := vmod s.alarms.sysc k f } }

/-- The state with every task passed through f. -/
def State.mapTasks (s : State) (f : Task → Task) : State := { s with canvas := { s.canvas with tasks := tmap s.canvas.tasks fun _ t => f t } }

/-- A pair read as marked poisoned: one that fails its check (R70). -/
def unread (p : Pair) : Pair := ⟨p.v, p.v⟩

/-- The outcome of a command: its effect where the guard holds, else no effect. -/
def doIf (b : Bool) (s t : State) : Host.Outcome State Fault Refusal := if b then .next t else .next s

/-- The state that a meaning's outcome leaves. -/
def after (o : Host.Outcome State Fault Refusal) (s : State) : State := match o with
  | .next t => t
  | _ => s

end Sys2Proof.Machine
end

