-- ==== Sys2Proof/Machine/Float.lean ====
section
/-! DEFINITION. Binary32 arithmetic as R54 gives it: correctly rounded to nearest even, subnormals kept, every NaN result
0x7FC0_0000. Finite values are computed exactly as ratios of natural numbers and rounded once. -/

namespace Sys2Proof.Machine
open Sys2Proof

/-- The quiet NaN that replaces every NaN result (R54). -/
def fNan : Word := 0x7FC00000

/-- A binary32 is a NaN. -/
def fIsNan (w : Word) : Bool := decide (bits w 30 23 = 255) && decide (bits w 22 0 ≠ 0)

/-- A binary32 is an infinity. -/
def fIsInf (w : Word) : Bool := decide (bits w 30 0 = 0x7F800000)

/-- A binary32 is finite. -/
def fIsFin (w : Word) : Bool := decide (bits w 30 23 ≠ 255)

/-- A binary32 is a zero. -/
def fIsZero (w : Word) : Bool := decide (bits w 30 0 = 0)

/-- The sign bit. -/
def fNegative (w : Word) : Bool := bit w 31

/-- The significand of a finite binary32. -/
def fMant (w : Word) : Nat := if bits w 30 23 = 0 then bits w 22 0 else bits w 22 0 + 0x800000

/-- The exponent of a finite binary32 raised by 149, so that its value is fMant * 2^(fExp - 149). -/
def fExp (w : Word) : Nat := bits w 30 23 - 1

/-- The signed value of a finite binary32 in units of 2^-149. -/
def fUnits (w : Word) : Int :=
  let m : Int := ((fMant w * 2 ^ fExp w : Nat) : Int)
  if fNegative w then -m else m

/-- The bits of a rounded significand q, at most 2^24, and exponent e above -149. -/
def fPack (neg : Bool) (q e : Nat) : Word :=
  let sgn := at' 31 (b2n neg)
  let (q, e) := if q = 0x1000000 then (0x800000, e + 1) else (q, e)
  if q < 0x800000 then sgn ||| w32 q
  else if e + 1 ≥ 255 then sgn ||| 0x7F800000
  else sgn ||| at' 23 (e + 1) ||| w32 (q - 0x800000)

/-- n / (d * 2^149) rounded to nearest even, with its sign. -/
def fRoundUnits (neg : Bool) (n d : Nat) : Word :=
  if n = 0 then at' 31 (b2n neg)
  else
    -- exponent that brings the quotient to 24 bits, never below 0
    let e0 := (Nat.log2 n) - (Nat.log2 d) - 23
    let e := if e0 ≥ 1 ∧ n / (d * 2 ^ (e0 - 1)) < 0x1000000 then e0 - 1 else e0
    let e := if n / (d * 2 ^ e) ≥ 0x1000000 then e + 1 else e
    let dd := d * 2 ^ e
    let q := n / dd
    let r := n % dd
    let q := if 2 * r > dd ∨ (2 * r = dd ∧ q % 2 = 1) then q + 1 else q
    fPack neg q e

/-- An integer count of units of 2^-149, over d, rounded; +0 for 0. -/
def fOfUnits (i : Int) (d : Nat) : Word := fRoundUnits (decide (i < 0)) i.natAbs d

/-- The rational num / den as a binary32. -/
def fRat (num : Int) (den : Nat) : Word := fOfUnits (num * 2 ^ 149) den

/-- An integer as a binary32. -/
def fOfInt (i : Int) : Word := fRat i 1

/-- A natural number as a binary32. -/
def fOfNat (n : Nat) : Word := fRat n 1

/-- NaN results take the one NaN (R54). -/
def fCanon (w : Word) : Word := if fIsNan w then fNan else w

/-- Negation. -/
def fNeg (w : Word) : Word := w ^^^ 0x80000000

/-- Absolute value. -/
def fAbs (w : Word) : Word := w &&& 0x7FFFFFFF

/-- Addition. -/
def fAdd (a b : Word) : Word :=
  if fIsNan a || fIsNan b then fNan
  else if fIsInf a then (if fIsInf b && fNegative a != fNegative b then fNan else a)
  else if fIsInf b then b
  else
    let i := fUnits a + fUnits b
    if i = 0 then (if fNegative a && fNegative b then 0x80000000 else 0) else fOfUnits i 1

/-- Subtraction, as addition of the negated operand (R53). -/
def fSub (a b : Word) : Word := if fIsNan b then fNan else fAdd a (fNeg b)

/-- Multiplication. -/
def fMul (a b : Word) : Word :=
  let neg := fNegative a != fNegative b
  if fIsNan a || fIsNan b then fNan
  else if fIsInf a || fIsInf b then (if fIsZero a || fIsZero b then fNan else at' 31 (b2n neg) ||| 0x7F800000)
  else fRoundUnits neg ((fUnits a).natAbs * (fUnits b).natAbs) (2 ^ 149)

/-- Division. -/
def fDiv (a b : Word) : Word :=
  let neg := fNegative a != fNegative b
  if fIsNan a || fIsNan b then fNan
  else if fIsInf a then (if fIsInf b then fNan else at' 31 (b2n neg) ||| 0x7F800000)
  else if fIsInf b then at' 31 (b2n neg)
  else if fIsZero b then (if fIsZero a then fNan else at' 31 (b2n neg) ||| 0x7F800000)
  else fRoundUnits neg ((fUnits a).natAbs * 2 ^ 149) (fUnits b).natAbs

/-- The integer square root by k bits, from the top. -/
def isqrtGo (n : Nat) : Nat → Nat → Nat
  | 0, r => r
  | k + 1, r => if (r + 2 ^ k) * (r + 2 ^ k) ≤ n then isqrtGo n k (r + 2 ^ k) else isqrtGo n k r

/-- The integer square root. -/
def isqrt (n : Nat) : Nat := isqrtGo n (Nat.log2 n / 2 + 1) 0

/-- Square root. -/
def fSqrt (a : Word) : Word :=
  if fIsNan a then fNan
  else if fIsZero a then a
  else if fNegative a then fNan
  else if fIsInf a then a
  else
    -- sqrt(u * 2^-149) = sqrt(u * 2^149) units; 64 further bits and a sticky bit decide the rounding
    let n := (fUnits a).natAbs * 2 ^ 149 * 2 ^ 128
    let r := isqrt n
    let st := if r * r = n then 0 else 1
    fRoundUnits false (2 * r + st) (2 * 2 ^ 64)

/-- The rational that a finite binary32 is. -/
def fToRat (w : Word) : Rat := mkRat (fUnits w) (2 ^ 149)

/-- A rational rounded once. -/
def fOfRat (q : Rat) : Word := fRat q.num q.den

/-- The root of a rational that is not negative, rounded once: 64 bits past the units and a sticky bit. -/
def fRoot (q : Rat) : Word :=
  let n := q.num.natAbs * 2 ^ 426
  let r := isqrt (n / q.den)
  let st := if r * r * q.den = n then 0 else 1
  fRoundUnits false (2 * r + st) (2 * 2 ^ 64)

/-- a = b, false with a NaN; the zeros are equal. -/
def fEq (a b : Word) : Bool :=
  !fIsNan a && !fIsNan b && (decide (a = b) || (fIsZero a && fIsZero b))

/-- A key in the order of the non-NaN values. -/
def fKey (w : Word) : Int :=
  let m : Int := ((bits w 30 0 : Nat) : Int)
  if fNegative w then -m else m

/-- a < b, false with a NaN. -/
def fLt (a b : Word) : Bool := !fIsNan a && !fIsNan b && decide (fKey a < fKey b)

/-- a ≤ b, false with a NaN. -/
def fLe (a b : Word) : Bool := !fIsNan a && !fIsNan b && decide (fKey a ≤ fKey b)

/-- Minimum, NaN with a NaN operand, the negative zero the lesser. -/
def fMin (a b : Word) : Word :=
  if fIsNan a || fIsNan b then fNan
  else if fIsZero a && fIsZero b then (if fNegative a then a else b)
  else if fLt b a then b else a

/-- Maximum, NaN with a NaN operand, the positive zero the greater. -/
def fMax (a b : Word) : Word :=
  if fIsNan a || fIsNan b then fNan
  else if fIsZero a && fIsZero b then (if fNegative a then b else a)
  else if fLt a b then b else a

/-- Clamped to lo to hi. -/
def fClamp (lo hi a : Word) : Word := if fLt a lo then lo else if fLt hi a then hi else a

/-- The integer nearest a finite binary32, ties to even. -/
def fToInt (w : Word) : Int :=
  let u := (fUnits w).natAbs
  let q : Nat := u / 2 ^ 149
  let r : Nat := u % 2 ^ 149
  let q : Nat := if 2 * r > 2 ^ 149 ∨ (2 * r = 2 ^ 149 ∧ q % 2 = 1) then q + 1 else q
  if fNegative w then -(Int.ofNat q) else Int.ofNat q

/-- 0.0. -/
def f0 : Word := 0
/-- 1.0. -/
def f1 : Word := 0x3F800000

end Sys2Proof.Machine
end

