-- ==== Sys2Proof/Machine/Cfg.lean ====
section
/-! DEFINITION. The configuration in effect, read by field: one accessor for each field of the sections' field tables,
with the default the table gives where the configuration holds no value. -/

namespace Sys2Proof.Machine
open Sys2Proof

/-- The entity of a duty image in effect: a point by its number, a list or table of owner X by 65536 * (X + 1) and its
own number (R403, R410). -/
def dutyEnt (s : State) (sec k : Nat) : Option Ent :=
  let ent (t : Tab Sect) (i : Nat) : Option Ent := (tget t sec).bind fun c => tget c.ents i
  if sec = 7 ∨ sec = 8 then s.cfg.duty.findSome? fun d => ent d.2 k
  else if (sec = 6 ∨ sec = 10) ∧ 65536 ≤ k then (tget s.cfg.duty (k / 65536 - 1)).bind fun t => ent t (k % 65536)
  else none

/-- The entity of this node's own configuration; the section's own fields for no key (R111). -/
def ownEnt (s : State) (sec : Nat) (key : Option Nat) : Option Ent :=
  match tget s.cfg.run sec, key with
  | none, _ => none
  | some c, none => some c.top
  | some c, some k => tget c.ents k

/-- The entity of a section in effect, of this node's own configuration or of a duty image in effect. -/
def cfgEnt (s : State) (sec : Nat) (key : Option Nat) : Option Ent :=
  match ownEnt s sec key, key with
  | some e, _ => some e
  | none, some k => dutyEnt s sec k
  | none, none => none

/-- The value words of a field, none where the configuration holds no value. -/
def cfgWs? (s : State) (sec : Nat) (key : Option Nat) (fld : Nat) : Option (List Word) :=
  ((cfgEnt s sec key).bind fun e => tget e.fields fld).map FieldVal.ws

/-- The value words of a field, d where the configuration holds none. -/
def cfgL (s : State) (sec : Nat) (key : Option Nat) (fld : Nat) (d : List Word) : List Word := (cfgWs? s sec key fld).getD d

/-- The first value word of a field, d where the configuration holds none. -/
def cfgW (s : State) (sec : Nat) (key : Option Nat) (fld : Nat) (d : Word) : Word := (cfgL s sec key fld [d]).headD d

/-- A critical field's pair as it is held, or the pair of its value in use (R117, R346). -/
def cfgPairOf (s : State) (sec key fld : Nat) (v : Word) : Pair :=
  match (cfgEnt s sec (some key)).bind fun e => tget e.fields fld with
  | some f => ⟨f.ws.headD v, f.cs.headD (~~~(f.ws.headD v))⟩
  | none => Pair.mk0 v

/-- The section lists an entity with this key. -/
def cfgHas (s : State) (sec key : Nat) : Bool := (cfgEnt s sec (some key)).isSome

/-- The keys of a section's entities, rising. -/
def cfgKeys (s : State) (sec : Nat) : List Nat :=
  match tget s.cfg.run sec with
  | none => []
  | some c => c.ents.map Prod.fst

/-- Every critical field of the entity is a pair that checks (R49, R52). -/
def cfgPairsOk (s : State) (sec : Nat) (key : Option Nat) : Bool :=
  match cfgEnt s sec key with
  | none => true
  | some e => e.fields.all fun f => f.2.cs.isEmpty || decide (f.2.cs = f.2.ws.map (fun w => ~~~w))

/-- R114 NODE_NUMBER: Node number on the ring, 0 to 63, and SOURCE_NODE of every Bereb message. -/
def cfgIdNodeNumber (s : State) : Word := cfgW s 1 none 0x1 0

/-- R114 OWN_FIRST: First ship point owned. -/
def cfgIdOwnFirst (s : State) : Word := cfgW s 1 none 0x2 0

/-- R114 OWN_LAST: Last ship point owned. -/
def cfgIdOwnLast (s : State) : Word := cfgW s 1 none 0x3 0

/-- R114 READY_DEADLINE: READY deadline of R90, in ms. -/
def cfgIdReadyDeadline (s : State) : Word := cfgW s 1 none 0x4 0x7530

/-- R114 NODE_LABEL: 32 bytes of ASCII, zero-padded, for stations. -/
def cfgIdNodeLabel (s : State) : List Word := cfgL s 1 none 0x5 [0, 0, 0, 0, 0, 0, 0, 0]

/-- R115 POWER_POINT: Ship point giving the power level of R34: below 0.5 NORMAL, 0.5 to below 1.5 REDUCED, 1.5 or above EMERGENCY. While the point's quality is neither GOOD nor UNCERTAIN, the last level taken from it stands, and that level is NORMAL before its first such value. 0xFFFF_FFFF: none. -/
def cfgPlcPowerPoint (s : State) : Word := cfgW s 16 none 0x1 0xFFFFFFFF

/-- R115 ROTATION_DAYS: Period of spare-role rotation in days of operating time, as used in Placement and replication. -/
def cfgPlcRotationDays (s : State) : Word := cfgW s 16 none 0x2 0x5A

/-- R115 PIN_ENGINE: Engine to which the task of the entity's point is pinned (R67). -/
def cfgPinPinEngine (s : State) (p : Nat) : Word := cfgW s 16 (some p) 0x10 0

/-- R147 FELT_TIMEOUT: Section field; Felt timeout of R62, in ms. -/
def cfgFldFeltTimeout (s : State) : Word := cfgW s 5 none 0x1 0x32

/-- R147 SL_BUDGET_MW: Section field; total SL_POWER_MW allowed across all spark-limited ports, in mW. -/
def cfgFldSlBudgetMw (s : State) : Word := cfgW s 5 none 0x2 0x3E80

/-- R147 ENERGY_MODE: 0 passive-limited; 1 spark-limited. -/
def cfgPrtEnergyMode (s : State) (n : Nat) : Word := cfgW s 5 (some n) 0x10 0x0

/-- R147 GAS_GROUP: Group of the wiring's area: 0 IIC, 1 IIB, 2 IIA. -/
def cfgPrtGasGroup (s : State) (n : Nat) : Word := cfgW s 5 (some n) 0x11 0x0

/-- R147 CABLE_C_NF: Declared total capacitance of cable and field device, in nF. -/
def cfgPrtCableCNf (s : State) (n : Nat) : Word := cfgW s 5 (some n) 0x12 0x2710

/-- R147 CABLE_L_UH: Declared total inductance of cable and field device, in µH. -/
def cfgPrtCableLUh (s : State) (n : Nat) : Word := cfgW s 5 (some n) 0x13 0x186A0

/-- R147 SL_POWER_MW: Power limit of a spark-limited port, in mW. -/
def cfgPrtSlPowerMw (s : State) (n : Nat) : Word := cfgW s 5 (some n) 0x14 0x960

/-- R147 LOOP_HEADROOM_MV: Headroom of the adaptive loop supply, in mV. -/
def cfgPrtLoopHeadroomMv (s : State) (n : Nat) : Word := cfgW s 5 (some n) 0x15 0x3E8

/-- R198 MODE: Mode code of R174. -/
def cfgUaiMode (s : State) (n : Nat) : Word := cfgW s 5 (some n) 0x20 0x0

/-- R198 RANGE: R176; 0 to 2 for VOLTAGE and RESISTANCE, 0 otherwise. -/
def cfgUaiRange (s : State) (n : Nat) : Word := cfgW s 5 (some n) 0x21 0x0

/-- R198 WIRING: 2, 3 or 4 wires; used in LOOP_NODE, RTD and RESISTANCE. -/
def cfgUaiWiring (s : State) (n : Nat) : Word := cfgW s 5 (some n) 0x22 0x2

/-- R198 SENSOR_TYPE: R176. -/
def cfgUaiSensorType (s : State) (n : Nat) : Word := cfgW s 5 (some n) 0x23 0x0

/-- R198 RATE: R177. -/
def cfgUaiRate (s : State) (n : Nat) : Word := cfgW s 5 (some n) 0x24 0x0

/-- R198 CHARACTERISTIC: 0 LINEAR, 1 SQRT, 2 TABLE. -/
def cfgUaiCharacteristic (s : State) (n : Nat) : Word := cfgW s 5 (some n) 0x27 0x0

/-- R198 TABLE: TABLES entity; 0xFFFF_FFFF none. -/
def cfgUaiTable (s : State) (n : Nat) : Word := cfgW s 5 (some n) 0x28 0xFFFFFFFF

/-- R198 EU_LOW: binary32; engineering value at x = 0. -/
def cfgUaiEuLow (s : State) (n : Nat) : Word := cfgW s 5 (some n) 0x29 0x0

/-- R198 EU_HIGH: binary32; engineering value at x = 1. -/
def cfgUaiEuHigh (s : State) (n : Nat) : Word := cfgW s 5 (some n) 0x2A 0x42C80000

/-- R198 SQRT_CUTOFF: binary32; low-flow cut-off in x. -/
def cfgUaiSqrtCutoff (s : State) (n : Nat) : Word := cfgW s 5 (some n) 0x2B 0x3C23D70A

/-- R198 ZERO_TRIM: binary32, signed, in engineering units. -/
def cfgUaiZeroTrim (s : State) (n : Nat) : Word := cfgW s 5 (some n) 0x2C 0x0

/-- R198 SPAN_TRIM: binary32. -/
def cfgUaiSpanTrim (s : State) (n : Nat) : Word := cfgW s 5 (some n) 0x2D 0x3F800000

/-- R198 NE43_LOW: binary32, mA. -/
def cfgUaiNe43Low (s : State) (n : Nat) : Word := cfgW s 5 (some n) 0x2E 0x40600000

/-- R198 NE43_HIGH: binary32, mA. -/
def cfgUaiNe43High (s : State) (n : Nat) : Word := cfgW s 5 (some n) 0x2F 0x41AC0000

/-- R198 CJC_SOURCE: 0 fixed, 1 channel, 2 internal (R184). -/
def cfgUaiCjcSource (s : State) (n : Nat) : Word := cfgW s 5 (some n) 0x30 0x2

/-- R198 CJC_CHANNEL: UAI number 0 to 15; 0xFFFF_FFFF none. -/
def cfgUaiCjcChannel (s : State) (n : Nat) : Word := cfgW s 5 (some n) 0x31 0xFFFFFFFF

/-- R198 CJC_FIXED: binary32, °C. -/
def cfgUaiCjcFixed (s : State) (n : Nat) : Word := cfgW s 5 (some n) 0x32 0x41C80000

/-- R198 LEAD_OHMS: binary32, Ω; total of both leads in 2-wire. -/
def cfgUaiLeadOhms (s : State) (n : Nat) : Word := cfgW s 5 (some n) 0x33 0x0

/-- R198 TRIM_ZERO_DI: DI number 0 to 15; 255 none. -/
def cfgUaiTrimZeroDi (s : State) (n : Nat) : Word := cfgW s 5 (some n) 0x34 0xFF

/-- R198 TRIM_SPAN_DI: DI number 0 to 15; 255 none. -/
def cfgUaiTrimSpanDi (s : State) (n : Nat) : Word := cfgW s 5 (some n) 0x35 0xFF

/-- R198 FREQ_THRESHOLD: binary32, V; magnetic sensors. -/
def cfgUaiFreqThreshold (s : State) (n : Nat) : Word := cfgW s 5 (some n) 0x36 0x3DCCCCCD

/-- R198 FREQ_TIMEOUT: ms. -/
def cfgUaiFreqTimeout (s : State) (n : Nat) : Word := cfgW s 5 (some n) 0x37 0x7D0

/-- R203 ROLE: 0 primary master, 1 secondary master. -/
def cfgHartRole (s : State) (c : Nat) : Word := cfgW s 18 (some (c * 65536)) 0x1 0x0

/-- R203 POLL_ADDRESS: Device polling address. -/
def cfgHartPollAddress (s : State) (c : Nat) : Word := cfgW s 18 (some (c * 65536)) 0x2 0x0

/-- R203 EXPECTED_ID: Word 0 [15:0] expanded device type; word 1 [23:0] device ID; all zero accepts any device. -/
def cfgHartExpectedId (s : State) (c : Nat) : List Word := cfgL s 18 (some (c * 65536)) 0x3 [0, 0]

/-- R203 LOOP_TOLERANCE: binary32, mA (R202). -/
def cfgHartLoopTolerance (s : State) (c : Nat) : Word := cfgW s 18 (some (c * 65536)) 0x4 0x3E4CCCCD

/-- R203 SOURCE: 0 to 249 device variable code, read by command 9; 0x100 PV, 0x101 SV, 0x102 TV, 0x103 QV, read by command 3. -/
def cfgHvarSource (s : State) (c k : Nat) : Word := cfgW s 18 (some (c * 65536 + k)) 0x10 0

/-- R203 TARGET_POINT: Ship point of a POINTS entity of this node. -/
def cfgHvarTargetPoint (s : State) (c k : Nat) : Word := cfgW s 18 (some (c * 65536 + k)) 0x11 0

/-- R203 UNITS_CODE: Expected HART unit code; 0 accepts any. -/
def cfgHvarUnitsCode (s : State) (c k : Nat) : Word := cfgW s 18 (some (c * 65536 + k)) 0x12 0x0

/-- R226 CAPTURE_RATE: R210. -/
def cfgCapCaptureRate (s : State) (n : Nat) : Word := cfgW s 17 (some (n * 65536)) 0x1 0x0

/-- R226 SENSITIVITY: binary32, mV per m/s². -/
def cfgCapSensitivity (s : State) (n : Nat) : Word := cfgW s 17 (some (n * 65536)) 0x2 0x41200000

/-- R226 HIGHPASS: 0 0.5 Hz, 1 2 Hz, 2 10 Hz. -/
def cfgCapHighpass (s : State) (n : Nat) : Word := cfgW s 17 (some (n * 65536)) 0x3 0x1

/-- R226 SPEED_CHANNEL: UAI number 0 to 15; 0xFFFF_FFFF none. -/
def cfgCapSpeedChannel (s : State) (n : Nat) : Word := cfgW s 17 (some (n * 65536)) 0x4 0xFFFFFFFF

/-- R226 PULSES_PER_REV: Edges per revolution. -/
def cfgCapPulsesPerRev (s : State) (n : Nat) : Word := cfgW s 17 (some (n * 65536)) 0x5 0x1

/-- R226 PRE_SAMPLES: R214. -/
def cfgCapPreSamples (s : State) (n : Nat) : Word := cfgW s 17 (some (n * 65536)) 0x6 0x6400

/-- R226 CAPTURE_LENGTH: R214. -/
def cfgCapCaptureLength (s : State) (n : Nat) : Word := cfgW s 17 (some (n * 65536)) 0x7 0x19000

/-- R226 TRIGGER_POINT: Ship point; 0xFFFF_FFFF none. -/
def cfgCapTriggerPoint (s : State) (n : Nat) : Word := cfgW s 17 (some (n * 65536)) 0x8 0xFFFFFFFF

/-- R226 SCHEDULE_MIN: Minutes; 0 none. -/
def cfgCapScheduleMin (s : State) (n : Nat) : Word := cfgW s 17 (some (n * 65536)) 0x9 0x0

/-- R226 STREAM_ALLOWED: 0 no, 1 yes. -/
def cfgCapStreamAllowed (s : State) (n : Nat) : Word := cfgW s 17 (some (n * 65536)) 0xA 0x0

/-- R226 EDGE_LOG: 0 off, 1 on; FREQUENCY only. -/
def cfgCapEdgeLog (s : State) (n : Nat) : Word := cfgW s 17 (some (n * 65536)) 0xB 0x0

/-- R227 FEATURE_TYPE: R221. -/
def cfgFeatFeatureType (s : State) (n k : Nat) : Word := cfgW s 17 (some (n * 65536 + k)) 0x20 0

/-- R227 TARGET_POINT: Ship point of a POINTS entity of this node. -/
def cfgFeatTargetPoint (s : State) (n k : Nat) : Word := cfgW s 17 (some (n * 65536 + k)) 0x21 0

/-- R227 BAND_LOW: binary32, Hz; for type 5, the order band is set by ORDER. -/
def cfgFeatBandLow (s : State) (n k : Nat) : Word := cfgW s 17 (some (n * 65536 + k)) 0x22 0x41200000

/-- R227 BAND_HIGH: binary32, Hz. -/
def cfgFeatBandHigh (s : State) (n k : Nat) : Word := cfgW s 17 (some (n * 65536 + k)) 0x23 0x447A0000

/-- R227 LINES: 512, 1 024, 2 048, 4 096, 8 192, 16 384 or 32 768. -/
def cfgFeatLines (s : State) (n k : Nat) : Word := cfgW s 17 (some (n * 65536 + k)) 0x24 0x400

/-- R227 AVERAGES: Blocks per span. -/
def cfgFeatAverages (s : State) (n k : Nat) : Word := cfgW s 17 (some (n * 65536 + k)) 0x25 0x4

/-- R227 UPDATE_MS: Publication interval, ms. -/
def cfgFeatUpdateMs (s : State) (n k : Nat) : Word := cfgW s 17 (some (n * 65536 + k)) 0x26 0x3E8

/-- R227 ORDER: binary32; type 5. -/
def cfgFeatOrder (s : State) (n k : Nat) : Word := cfgW s 17 (some (n * 65536 + k)) 0x27 0x3F800000

/-- R227 ENV_FILTER: 0 500 Hz to 5 kHz, 1 2 kHz to 20 kHz, 2 5 kHz to 40 kHz; type 4. -/
def cfgFeatEnvFilter (s : State) (n k : Nat) : Word := cfgW s 17 (some (n * 65536 + k)) 0x28 0x0

/-- R227 KEEP: 0, 1 or 2 (R225). -/
def cfgFeatKeep (s : State) (n k : Nat) : Word := cfgW s 17 (some (n * 65536 + k)) 0x29 0x1

/-- R249 ROLE: R230. -/
def cfgAoRole (s : State) (n : Nat) : Word := cfgW s 5 (some (16 + n)) 0x40 0x0

/-- R249 COMMAND_POINT: Ship point; 0xFFFF_FFFF none. -/
def cfgAoCommandPoint (s : State) (n : Nat) : Word := cfgW s 5 (some (16 + n)) 0x41 0xFFFFFFFF

/-- R249 EU_LOW: binary32; point value mapped to OUT_LOW_MA. -/
def cfgAoEuLow (s : State) (n : Nat) : Word := cfgW s 5 (some (16 + n)) 0x42 0x0

/-- R249 EU_HIGH: binary32; point value mapped to OUT_HIGH_MA. -/
def cfgAoEuHigh (s : State) (n : Nat) : Word := cfgW s 5 (some (16 + n)) 0x43 0x42C80000

/-- R249 OUT_LOW_MA: binary32, mA. -/
def cfgAoOutLowMa (s : State) (n : Nat) : Word := cfgW s 5 (some (16 + n)) 0x44 0x40800000

/-- R249 OUT_HIGH_MA: binary32, mA. -/
def cfgAoOutHighMa (s : State) (n : Nat) : Word := cfgW s 5 (some (16 + n)) 0x45 0x41A00000

/-- R249 CLAMP_LOW_MA: binary32, mA. -/
def cfgAoClampLowMa (s : State) (n : Nat) : Word := cfgW s 5 (some (16 + n)) 0x46 0x40733333

/-- R249 CLAMP_HIGH_MA: binary32, mA. -/
def cfgAoClampHighMa (s : State) (n : Nat) : Word := cfgW s 5 (some (16 + n)) 0x47 0x41A40000

/-- R249 FAIL_ACTION: R236. -/
def cfgAoFailAction (s : State) (n : Nat) : Word := cfgW s 5 (some (16 + n)) 0x48 0x1

/-- R249 FAIL_LOW_MA: binary32, mA. -/
def cfgAoFailLowMa (s : State) (n : Nat) : Word := cfgW s 5 (some (16 + n)) 0x49 0x40600000

/-- R249 FAIL_HIGH_MA: binary32, mA. -/
def cfgAoFailHighMa (s : State) (n : Nat) : Word := cfgW s 5 (some (16 + n)) 0x4A 0x41AC0000

/-- R249 SAFE_STATE: R240. -/
def cfgAoSafeState (s : State) (n : Nat) : Word := cfgW s 5 (some (16 + n)) 0x4B 0x0

/-- R249 SAFE_MA: binary32, mA. -/
def cfgAoSafeMa (s : State) (n : Nat) : Word := cfgW s 5 (some (16 + n)) 0x4C 0x0

/-- R249 SAFEN_ACTION: 0 ignore; 1 safe state (R241). -/
def cfgAoSafenAction (s : State) (n : Nat) : Word := cfgW s 5 (some (16 + n)) 0x4D 0x1

/-- R249 READBACK_POINT: Ship point; 0xFFFF_FFFF none. -/
def cfgAoReadbackPoint (s : State) (n : Nat) : Word := cfgW s 5 (some (16 + n)) 0x4E 0xFFFFFFFF

/-- R249 READBACK_TOLERANCE: binary32, mA. -/
def cfgAoReadbackTolerance (s : State) (n : Nat) : Word := cfgW s 5 (some (16 + n)) 0x4F 0x3DCCCCCD

/-- R249 OPEN_TEST: 0 off; 1 on (R244). -/
def cfgAoOpenTest (s : State) (n : Nat) : Word := cfgW s 5 (some (16 + n)) 0x50 0x1

/-- R278 DI_MODE: 0 OFF, 1 STATE, 2 PULSE. -/
def cfgDiDiMode (s : State) (n : Nat) : Word := cfgW s 5 (some (20 + n)) 0x60 0x0

/-- R278 SAMPLE_PERIOD: 0 50 µs, 1 250 µs, 2 1 ms, 3 5 ms. -/
def cfgDiSamplePeriod (s : State) (n : Nat) : Word := cfgW s 5 (some (20 + n)) 0x61 0x2

/-- R278 COUNT_LIMIT: R255. -/
def cfgDiCountLimit (s : State) (n : Nat) : Word := cfgW s 5 (some (20 + n)) 0x62 0x3

/-- R278 INVERT: 0 no, 1 yes (R259). -/
def cfgDiInvert (s : State) (n : Nat) : Word := cfgW s 5 (some (20 + n)) 0x63 0x0

/-- R278 LINE_MONITOR: 0 off, 1 on (R258). -/
def cfgDiLineMonitor (s : State) (n : Nat) : Word := cfgW s 5 (some (20 + n)) 0x64 0x0

/-- R278 STATE_POINT: Ship point; 0xFFFF_FFFF none. -/
def cfgDiStatePoint (s : State) (n : Nat) : Word := cfgW s 5 (some (20 + n)) 0x65 0xFFFFFFFF

/-- R278 PULSE_EDGE: 0 rising, 1 falling, 2 both. -/
def cfgDiPulseEdge (s : State) (n : Nat) : Word := cfgW s 5 (some (20 + n)) 0x66 0x0

/-- R278 PULSE_SCALE: binary32; engineering units per edge. -/
def cfgDiPulseScale (s : State) (n : Nat) : Word := cfgW s 5 (some (20 + n)) 0x67 0x3F800000

/-- R278 TOTAL_POINT: Ship point; 0xFFFF_FFFF none. -/
def cfgDiTotalPoint (s : State) (n : Nat) : Word := cfgW s 5 (some (20 + n)) 0x68 0xFFFFFFFF

/-- R278 RATE_POINT: Ship point; 0xFFFF_FFFF none. -/
def cfgDiRatePoint (s : State) (n : Nat) : Word := cfgW s 5 (some (20 + n)) 0x69 0xFFFFFFFF

/-- R278 RATE_TIMEOUT: ms (R265). -/
def cfgDiRateTimeout (s : State) (n : Nat) : Word := cfgW s 5 (some (20 + n)) 0x6A 0x2710

/-- R279 ROLE: 0 OFF, 1 ON; an OFF output is not configured for R83. -/
def cfgDoRole (s : State) (n : Nat) : Word := cfgW s 5 (some (36 + n)) 0x80 0x0

/-- R279 COMMAND_POINT: Ship point; 0xFFFF_FFFF none. -/
def cfgDoCommandPoint (s : State) (n : Nat) : Word := cfgW s 5 (some (36 + n)) 0x81 0xFFFFFFFF

/-- R279 FAIL_ACTION: 0 HOLD, 1 OFF, 2 SAFE. -/
def cfgDoFailAction (s : State) (n : Nat) : Word := cfgW s 5 (some (36 + n)) 0x82 0x1

/-- R279 SAFE_STATE: R270. -/
def cfgDoSafeState (s : State) (n : Nat) : Word := cfgW s 5 (some (36 + n)) 0x83 0x0

/-- R279 SAFE_PATTERN: R268. -/
def cfgDoSafePattern (s : State) (n : Nat) : Word := cfgW s 5 (some (36 + n)) 0x84 0x0

/-- R279 SAFEN_ACTION: 0 ignore; 1 safe state. -/
def cfgDoSafenAction (s : State) (n : Nat) : Word := cfgW s 5 (some (36 + n)) 0x85 0x1

/-- R279 STATUS_POINT: Ship point; 0xFFFF_FFFF none. -/
def cfgDoStatusPoint (s : State) (n : Nat) : Word := cfgW s 5 (some (36 + n)) 0x86 0xFFFFFFFF

/-- R279 OPEN_LOAD_TEST: 0 off, 1 energised only, 2 energised and off (R274). -/
def cfgDoOpenLoadTest (s : State) (n : Nat) : Word := cfgW s 5 (some (36 + n)) 0x87 0x1

/-- R297 TARGET_POINT: Ship point of a POINTS entity of this node with SOURCE CALC. -/
def cfgCalcTargetPoint (s : State) (l : Nat) : Word := cfgW s 10 (some l) 0x1 0

/-- R297 OPERANDS: Word k is P[k]: [31] IGNORE_QUALITY; [30:16] zero; [15:0] ship point. -/
def cfgCalcOperands (s : State) (l : Nat) : List Word := cfgL s 10 (some l) 0x2 []

/-- R297 CONSTANTS: Word k is C[k], binary32. -/
def cfgCalcConstants (s : State) (l : Nat) : List Word := cfgL s 10 (some l) 0x3 []

/-- R297 STEPS_A: Path A sequence, one step per word. -/
def cfgCalcStepsA (s : State) (l : Nat) : List Word := cfgL s 10 (some l) 0x4 []

/-- R297 STEPS_B: Path B sequence. -/
def cfgCalcStepsB (s : State) (l : Nat) : List Word := cfgL s 10 (some l) 0x5 []

/-- R305 X: Breakpoint inputs, binary32. -/
def cfgTabX (s : State) (t : Nat) : List Word := cfgL s 6 (some t) 0x1 []

/-- R305 Y: Breakpoint outputs, binary32. -/
def cfgTabY (s : State) (t : Nat) : List Word := cfgL s 6 (some t) 0x2 []

/-- R305 EXTEND: Outside X[0] to X[n−1]: 0 hold the end value; 1 extend the end segment. -/
def cfgTabExtend (s : State) (t : Nat) : Word := cfgW s 6 (some t) 0x3 0x0

/-- R309 TYPE: R285. -/
def cfgPtType (s : State) (p : Nat) : Word := cfgW s 7 (some p) 0x1 0x0

/-- R309 CLASS: 0 FAST, 1 STANDARD, 2 SLOW. -/
def cfgPtClass (s : State) (p : Nat) : Word := cfgW s 7 (some p) 0x2 0x1

/-- R309 SOURCE: R286. -/
def cfgPtSource (s : State) (p : Nat) : Word := cfgW s 7 (some p) 0x3 0

/-- R309 CHANNEL: UAI 0 to 15; 0xFFFF_FFFF none. -/
def cfgPtChannel (s : State) (p : Nat) : Word := cfgW s 7 (some p) 0x4 0xFFFFFFFF

/-- R309 GROUP: Alarm group 0 to 255. -/
def cfgPtGroup (s : State) (p : Nat) : Word := cfgW s 7 (some p) 0x5 0

/-- R309 STATE_COUNT: R285. -/
def cfgPtStateCount (s : State) (p : Nat) : Word := cfgW s 7 (some p) 0x6 0x2

/-- R309 INITIAL_VALUE: binary32 (R295). -/
def cfgPtInitialValue (s : State) (p : Nat) : Word := cfgW s 7 (some p) 0x7 0x0

/-- R309 DELTA_BAND: binary32, engineering units (R294). -/
def cfgPtDeltaBand (s : State) (p : Nat) : Word := cfgW s 7 (some p) 0x8 0x0

/-- R309 UNITS_TEXT: 8 bytes of ASCII, zero-padded. -/
def cfgPtUnitsText (s : State) (p : Nat) : List Word := cfgL s 7 (some p) 0x9 [0, 0]

/-- R309 TAG: 32 bytes of ASCII, zero-padded. -/
def cfgPtTag (s : State) (p : Nat) : List Word := cfgL s 7 (some p) 0xA [0, 0, 0, 0, 0, 0, 0, 0]

/-- R309 DECIMALS: Digits after the decimal point for display. -/
def cfgPtDecimals (s : State) (p : Nat) : Word := cfgW s 7 (some p) 0xB 0x1

/-- R344 LIMIT_ENABLE: Bit n enables condition n. -/
def cfgLimLimitEnable (s : State) (p : Nat) : Word := cfgW s 8 (some p) 0x1 0x40

/-- R344 LL: binary32, engineering units. -/
def cfgLimLl (s : State) (p : Nat) : Word := cfgW s 8 (some p) 0x2 0x0

/-- R344 L: binary32. -/
def cfgLimL (s : State) (p : Nat) : Word := cfgW s 8 (some p) 0x3 0x0

/-- R344 H: binary32. -/
def cfgLimH (s : State) (p : Nat) : Word := cfgW s 8 (some p) 0x4 0x0

/-- R344 HH: binary32. -/
def cfgLimHh (s : State) (p : Nat) : Word := cfgW s 8 (some p) 0x5 0x0

/-- R344 DEADBAND: binary32. -/
def cfgLimDeadband (s : State) (p : Nat) : Word := cfgW s 8 (some p) 0x6 0x0

/-- R344 ON_DELAY: ms. -/
def cfgLimOnDelay (s : State) (p : Nat) : Word := cfgW s 8 (some p) 0x7 0x0

/-- R344 OFF_DELAY: ms. -/
def cfgLimOffDelay (s : State) (p : Nat) : Word := cfgW s 8 (some p) 0x8 0x0

/-- R344 FLT_ON_DELAY: ms. -/
def cfgLimFltOnDelay (s : State) (p : Nat) : Word := cfgW s 8 (some p) 0x9 0x0

/-- R344 FLT_OFF_DELAY: ms. -/
def cfgLimFltOffDelay (s : State) (p : Nat) : Word := cfgW s 8 (some p) 0xA 0x0

/-- R344 ROC_LIMIT: binary32, units per s. -/
def cfgLimRocLimit (s : State) (p : Nat) : Word := cfgW s 8 (some p) 0xB 0x3F800000

/-- R344 ROC_DEADBAND: binary32, units per s. -/
def cfgLimRocDeadband (s : State) (p : Nat) : Word := cfgW s 8 (some p) 0xC 0x0

/-- R344 ROC_WINDOW: ms (R314). -/
def cfgLimRocWindow (s : State) (p : Nat) : Word := cfgW s 8 (some p) 0xD 0x3E8

/-- R344 ROC_DIRECTION: 0 both, 1 rising, 2 falling. -/
def cfgLimRocDirection (s : State) (p : Nat) : Word := cfgW s 8 (some p) 0xE 0x0

/-- R344 DEV_POINTS: Word k: [15:0] ship point; [31:16] zero. -/
def cfgLimDevPoints (s : State) (p : Nat) : List Word := cfgL s 8 (some p) 0xF []

/-- R344 DEV_LIMIT: binary32. -/
def cfgLimDevLimit (s : State) (p : Nat) : Word := cfgW s 8 (some p) 0x10 0x3F800000

/-- R344 DEV_MIN_COUNT: R315. -/
def cfgLimDevMinCount (s : State) (p : Nat) : Word := cfgW s 8 (some p) 0x11 0x2

/-- R344 PRIORITIES: [4n+3:4n] priority of condition n, each 0 to 3; [31:28] zero. -/
def cfgLimPriorities (s : State) (p : Nat) : Word := cfgW s 8 (some p) 0x12 0x2223223

/-- R344 ADAPTIVE: 0 off, 1 on. -/
def cfgLimAdaptive (s : State) (p : Nat) : Word := cfgW s 8 (some p) 0x13 0x0

/-- R344 ADAPT_MIN: ms. -/
def cfgLimAdaptMin (s : State) (p : Nat) : Word := cfgW s 8 (some p) 0x14 0x7D0

/-- R344 ADAPT_MAX: ms. -/
def cfgLimAdaptMax (s : State) (p : Nat) : Word := cfgW s 8 (some p) 0x15 0xEA60

/-- R344 ADAPT_FACTOR: binary32. -/
def cfgLimAdaptFactor (s : State) (p : Nat) : Word := cfgW s 8 (some p) 0x16 0x3F800000

/-- R344 SUPPRESS_POINT: Ship point; 0xFFFF_FFFF none. -/
def cfgLimSuppressPoint (s : State) (p : Nat) : Word := cfgW s 8 (some p) 0x17 0xFFFFFFFF

/-- R344 SUPPRESS_SENSE: R321. -/
def cfgLimSuppressSense (s : State) (p : Nat) : Word := cfgW s 8 (some p) 0x18 0x0

/-- R344 RELEASE_DELAY: ms. -/
def cfgLimReleaseDelay (s : State) (p : Nat) : Word := cfgW s 8 (some p) 0x19 0x0

/-- R344 LIMITS_ON_BAD: R313. -/
def cfgLimLimitsOnBad (s : State) (p : Nat) : Word := cfgW s 8 (some p) 0x1A 0x0

/-- R344 SHELVE_MAX_MIN: Minutes; 0 not shelvable. -/
def cfgLimShelveMaxMin (s : State) (p : Nat) : Word := cfgW s 8 (some p) 0x1B 0x1E0

/-- R344 FOLD_UNDER: Word k: [15:0] ship point of a configured root. -/
def cfgLimFoldUnder (s : State) (p : Nat) : List Word := cfgL s 8 (some p) 0x1C []

/-- R344 NEVER_FOLD: 0 may fold, 1 never. -/
def cfgLimNeverFold (s : State) (p : Nat) : Word := cfgW s 8 (some p) 0x1D 0x0

/-- R344 FOLD_WINDOW: ms; configured links. -/
def cfgLimFoldWindow (s : State) (p : Nat) : Word := cfgW s 8 (some p) 0x1E 0x1388

/-- R345 GROUP_NAME: 32 bytes of ASCII, zero-padded. -/
def cfgGrpGroupName (s : State) (g : Nat) : List Word := cfgL s 9 (some g) 0x1 [0, 0, 0, 0, 0, 0, 0, 0]

/-- R345 FIRST_OUT: 0 off, 1 on (R331). -/
def cfgGrpFirstOut (s : State) (g : Nat) : Word := cfgW s 9 (some g) 0x2 0x0

/-- R345 DAMASK_MODE: R337. -/
def cfgGrpDamaskMode (s : State) (g : Nat) : Word := cfgW s 9 (some g) 0x3 0x0

/-- R345 ROOT_GROUPS: Word k: [7:0] group 1 to 255. -/
def cfgGrpRootGroups (s : State) (g : Nat) : List Word := cfgL s 9 (some g) 0x4 []

/-- R345 SUPPRESS_POINT: Ship point; 0xFFFF_FFFF none. -/
def cfgGrpSuppressPoint (s : State) (g : Nat) : Word := cfgW s 9 (some g) 0x5 0xFFFFFFFF

/-- R345 SUPPRESS_SENSE: R321. -/
def cfgGrpSuppressSense (s : State) (g : Nat) : Word := cfgW s 9 (some g) 0x6 0x0

/-- R345 RELEASE_DELAY: ms. -/
def cfgGrpReleaseDelay (s : State) (g : Nat) : Word := cfgW s 9 (some g) 0x7 0x0

/-- R373 MODE_AT_START: 0 MANNED, 1 UMS, 2 MANNED unless a CALL STATE is held (R350). -/
def cfgCallModeAtStart (s : State) : Word := cfgW s 11 none 0x1 0x2

/-- R373 ACCEPT_TIME: s. -/
def cfgCallAcceptTime (s : State) : Word := cfgW s 11 none 0x2 0xB4

/-- R373 BACKUP_TIME: s. -/
def cfgCallBackupTime (s : State) : Word := cfgW s 11 none 0x3 0x78

/-- R373 ATTEND_TIME: s. -/
def cfgCallAttendTime (s : State) : Word := cfgW s 11 none 0x4 0x12C

/-- R373 HANDOVER_TIMEOUT: s. -/
def cfgCallHandoverTimeout (s : State) : Word := cfgW s 11 none 0x5 0x3C

/-- R373 DEADMAN_PERIOD: s. -/
def cfgCallDeadmanPeriod (s : State) : Word := cfgW s 11 none 0x6 0x708

/-- R373 DEADMAN_PREWARN: s. -/
def cfgCallDeadmanPrewarn (s : State) : Word := cfgW s 11 none 0x7 0xB4

/-- R373 MANNED_ESCALATE: s; 0 off. -/
def cfgCallMannedEscalate (s : State) : Word := cfgW s 11 none 0x8 0x0

/-- R373 BACKUP_STAGE: 0 none, 1 used. -/
def cfgCallBackupStage (s : State) : Word := cfgW s 11 none 0x9 0x1

/-- R373 ENG_NAME: 32 bytes of ASCII, zero-padded. -/
def cfgEngEngName (s : State) (k : Nat) : List Word := cfgL s 11 (some k) 0x10 [0, 0, 0, 0, 0, 0, 0, 0]

/-- R373 ROTA_ORDER: R353. -/
def cfgEngRotaOrder (s : State) (k : Nat) : Word := cfgW s 11 (some k) 0x11 0

/-- R373 ON_ROTA: 0 off, 1 on. -/
def cfgEngOnRota (s : State) (k : Nat) : Word := cfgW s 11 (some k) 0x12 0x1

/-- R374 KIND: 0 ECR, 1 LOCAL, 2 CABIN, 3 MESS, 4 BRIDGE. -/
def cfgPanKind (s : State) (c p : Nat) : Word := cfgW s 13 (some (c * 65536 + p)) 0x1 0

/-- R374 GROUP_MASK: Word k, bit b: group 32k + b shown. -/
def cfgPanGroupMask (s : State) (c p : Nat) : List Word := cfgL s 13 (some (c * 65536 + p)) 0x2 [0xFFFFFFFF, 0xFFFFFFFF, 0xFFFFFFFF, 0xFFFFFFFF, 0xFFFFFFFF, 0xFFFFFFFF, 0xFFFFFFFF, 0xFFFFFFFF]

/-- R374 ENGINEER: CALLING entity 0 to 15; 0xFF none; CABIN only, otherwise taking 0xFF with BAD_ENUM. -/
def cfgPanEngineer (s : State) (c p : Nat) : Word := cfgW s 13 (some (c * 65536 + p)) 0x3 0xFF

/-- R374 HEARTBEAT_TIMEOUT: ms. -/
def cfgPanHeartbeatTimeout (s : State) (c p : Nat) : Word := cfgW s 13 (some (c * 65536 + p)) 0x4 0x1388

/-- R374 PANEL_LABEL: 32 bytes of ASCII, zero-padded. -/
def cfgPanPanelLabel (s : State) (c p : Nat) : List Word := cfgL s 13 (some (c * 65536 + p)) 0x5 [0, 0, 0, 0, 0, 0, 0, 0]

/-- R375 CALL_ENABLE: 0 no, 1 yes. -/
def cfgGrpCallEnable (s : State) (g : Nat) : Word := cfgW s 9 (some g) 0x40 0x1

/-- R375 CALL_MIN_PRIORITY: Least priority that calls. -/
def cfgGrpCallMinPriority (s : State) (g : Nat) : Word := cfgW s 9 (some g) 0x41 0x2

/-- R375 BRIDGE: 1: announced in UMS on BRIDGE panels. -/
def cfgGrpBridge (s : State) (g : Nat) : Word := cfgW s 9 (some g) 0x42 0x1

/-- R458 MAC: Word 0 [15:0]: address bytes 0 and 1; word 1: bytes 2 to 5. -/
def cfgHostMac (s : State) (k : Nat) : List Word := cfgL s 2 (some k) 0x1 []

/-- R458 LEVEL: Access level (R450). -/
def cfgHostLevel (s : State) (k : Nat) : Word := cfgW s 2 (some k) 0x2 0x0

/-- R458 HOST_LABEL: 32 bytes of ASCII, zero-padded. -/
def cfgHostHostLabel (s : State) (k : Nat) : List Word := cfgL s 2 (some k) 0x3 [0, 0, 0, 0, 0, 0, 0, 0]

/-- R459 NODE_MAC: As MAC in R458. -/
def cfgRingNodeMac (s : State) : List Word := cfgL s 3 none 0x1 [(Config.factoryMac.extractLsb' 32 16).setWidth 32, Config.factoryMac.extractLsb' 0 32]

/-- R459 GROUP_MAC: Multicast address for DEST_NODE 0xFF. -/
def cfgRingGroupMac (s : State) : List Word := cfgL s 3 none 0x2 [0x0300, 0x4B440000]

/-- R459 ETHERTYPE: Bereb EtherType. -/
def cfgRingEthertype (s : State) : Word := cfgW s 3 none 0x3 0x88B5

/-- R459 PTP_ENABLE: 0 off, 1 on (R432). -/
def cfgRingPtpEnable (s : State) : Word := cfgW s 3 none 0x4 0x1

/-- R459 PTP_DOMAIN: R432. -/
def cfgRingPtpDomain (s : State) : Word := cfgW s 3 none 0x5 0x0

/-- R459 STATION_C3_MBPS: C3 from link S, Mbit/s (R441). -/
def cfgRingStationC3Mbps (s : State) : Word := cfgW s 3 none 0x6 0x64

/-- R459 PORT_MODE: R426. -/
def cfgLinkPortMode (s : State) (p : Nat) : Word := cfgW s 3 (some p) 0x10 0x3

/-- R459 AUTONEG: 0 off, 1 on (R427). -/
def cfgLinkAutoneg (s : State) (p : Nat) : Word := cfgW s 3 (some p) 0x11 0x1

/-- R459 PREEMPTION: 0 off, 1 offered (R428). -/
def cfgLinkPreemption (s : State) (p : Nat) : Word := cfgW s 3 (some p) 0x12 0x1

/-- R467 SEGMENT: Segment the controller serves. -/
def cfgCanSegment (s : State) (c : Nat) : Word := cfgW s 12 (some (c * 65536)) 0x1 0

/-- R467 FD_ENABLE: 0 classical only, 1 CAN FD. -/
def cfgCanFdEnable (s : State) (c : Nat) : Word := cfgW s 12 (some (c * 65536)) 0x2 0x1

/-- R467 NBRP: Nominal prescaler. -/
def cfgCanNbrp (s : State) (c : Nat) : Word := cfgW s 12 (some (c * 65536)) 0x3 0x1

/-- R467 NTSEG1: Quanta. -/
def cfgCanNtseg1 (s : State) (c : Nat) : Word := cfgW s 12 (some (c * 65536)) 0x4 0x7F

/-- R467 NTSEG2: Quanta. -/
def cfgCanNtseg2 (s : State) (c : Nat) : Word := cfgW s 12 (some (c * 65536)) 0x5 0x20

/-- R467 NSJW: Quanta. -/
def cfgCanNsjw (s : State) (c : Nat) : Word := cfgW s 12 (some (c * 65536)) 0x6 0x20

/-- R467 DBRP: Data prescaler. -/
def cfgCanDbrp (s : State) (c : Nat) : Word := cfgW s 12 (some (c * 65536)) 0x7 0x1

/-- R467 DTSEG1: Quanta. -/
def cfgCanDtseg1 (s : State) (c : Nat) : Word := cfgW s 12 (some (c * 65536)) 0x8 0x1D

/-- R467 DTSEG2: Quanta. -/
def cfgCanDtseg2 (s : State) (c : Nat) : Word := cfgW s 12 (some (c * 65536)) 0x9 0xA

/-- R467 DSJW: Quanta. -/
def cfgCanDsjw (s : State) (c : Nat) : Word := cfgW s 12 (some (c * 65536)) 0xA 0xA

/-- R467 TDC_ENABLE: 0 off, 1 on (R466). -/
def cfgCanTdcEnable (s : State) (c : Nat) : Word := cfgW s 12 (some (c * 65536)) 0xB 0x1

/-- R467 TDCO: Minimum time quanta. -/
def cfgCanTdco (s : State) (c : Nat) : Word := cfgW s 12 (some (c * 65536)) 0xC 0x1E

/-- R482 IDENTIFIER: Base identifiers in [10:0]. -/
def cfgMapIdentifier (s : State) (c e : Nat) : Word := cfgW s 12 (some (c * 65536 + e)) 0x10 0

/-- R482 IDE: 0 base, 1 extended. -/
def cfgMapIde (s : State) (c e : Nat) : Word := cfgW s 12 (some (c * 65536 + e)) 0x11 0x1

/-- R482 BYTE_ORDER: 0 LSB first, 1 MSB first (R483). -/
def cfgMapByteOrder (s : State) (c e : Nat) : Word := cfgW s 12 (some (c * 65536 + e)) 0x12 0x0

/-- R482 START_BIT: R483. -/
def cfgMapStartBit (s : State) (c e : Nat) : Word := cfgW s 12 (some (c * 65536 + e)) 0x13 0x0

/-- R482 LENGTH: Bits. -/
def cfgMapLength (s : State) (c e : Nat) : Word := cfgW s 12 (some (c * 65536 + e)) 0x14 0x10

/-- R482 FORMAT: 0 unsigned, 1 signed two's complement, 2 binary32. -/
def cfgMapFormat (s : State) (c e : Nat) : Word := cfgW s 12 (some (c * 65536 + e)) 0x15 0x0

/-- R482 SCALE: binary32. -/
def cfgMapScale (s : State) (c e : Nat) : Word := cfgW s 12 (some (c * 65536 + e)) 0x16 0x3F800000

/-- R482 OFFSET: binary32. -/
def cfgMapOffset (s : State) (c e : Nat) : Word := cfgW s 12 (some (c * 65536 + e)) 0x17 0x0

/-- R482 TARGET_POINT: Ship point of a POINTS entity of this node with SOURCE LINKED. -/
def cfgMapTargetPoint (s : State) (c e : Nat) : Word := cfgW s 12 (some (c * 65536 + e)) 0x18 0

/-- R482 TIMEOUT_MS: CAN_TIMEOUT of R296. -/
def cfgMapTimeoutMs (s : State) (c e : Nat) : Word := cfgW s 12 (some (c * 65536 + e)) 0x19 0xBB8

/-- R482 HIGH_PRIORITY: 0 FIFO, 1 high-priority filter. -/
def cfgMapHighPriority (s : State) (c e : Nat) : Word := cfgW s 12 (some (c * 65536 + e)) 0x1A 0x0

/-- R516 TREND_PERIOD_S: s (R514). -/
def cfgHistTrendPeriodS (s : State) : Word := cfgW s 14 none 0x1 0x1

/-- R516 ARCHIVE_PERIOD_S: s (R514). -/
def cfgHistArchivePeriodS (s : State) : Word := cfgW s 14 none 0x2 0x3C

/-- R516 HISTORY_READ_KBPS: R512. -/
def cfgHistHistoryReadKbps (s : State) : Word := cfgW s 14 none 0x3 0x4E20

/-- R516 PERMANENT_WARN: Per cent fill that raises PERMANENT_FILL. -/
def cfgHistPermanentWarn (s : State) : Word := cfgW s 14 none 0x4 0x5A

/-- R541 TIME_SOURCE: 0 station only, 1 precision time (R530). -/
def cfgTimeTimeSource (s : State) : Word := cfgW s 4 none 0x1 0x1

/-- R541 STEP_THRESHOLD_MS: R531. -/
def cfgTimeStepThresholdMs (s : State) : Word := cfgW s 4 none 0x2 0x1F4

/-- R541 RTC_TRIM: R533. -/
def cfgTimeRtcTrim (s : State) : Word := cfgW s 4 none 0x3 0x10

/-- R541 AUTO_TRIM: 0 off, 1 on. -/
def cfgTimeAutoTrim (s : State) : Word := cfgW s 4 none 0x4 0x1

/-- R541 VBAT_LOW_MV: R522. -/
def cfgTimeVbatLowMv (s : State) : Word := cfgW s 4 none 0x5 0x960

/-- R541 TIME_BROADCAST_S: R536. -/
def cfgTimeTimeBroadcastS (s : State) : Word := cfgW s 4 none 0x6 0x3C

/-- R561 DUMP_PERIOD_S: s; 0 none (R555). -/
def cfgCtrDumpPeriodS (s : State) : Word := cfgW s 15 none 0x1 0x3C

/-- R561 EVENT: R545. -/
def cfgSmpEvent (s : State) (k : Nat) : Word := cfgW s 15 (some k) 0x10 0x0

/-- R561 ENABLE: 0 off, 1 on. -/
def cfgSmpEnable (s : State) (k : Nat) : Word := cfgW s 15 (some k) 0x11 0x0

/-- R561 CHAIN: R550. -/
def cfgSmpChain (s : State) (k : Nat) : Word := cfgW s 15 (some k) 0x12 0x0

/-- R561 SAMPLE: R551. -/
def cfgSmpSample (s : State) (k : Nat) : Word := cfgW s 15 (some k) 0x13 0x0

/-- R561 PRELOAD: R551. -/
def cfgSmpPreload (s : State) (k : Nat) : Word := cfgW s 15 (some k) 0x14 0x0

/-- IN_LOW to IN_HIGH defaults by mode, range and sensor type (R176, R198). -/
def uaiInDefault (mode range sensor : Nat) : Word × Word :=
  match mode with
  | 1 => (fOfNat 4, fOfNat 20)
  | 2 => (fOfNat 4, fOfNat 20)
  | 3 => match range with
    | 0 => (0, fRat 1 10)
    | 1 => (0, f1)
    | _ => (0, fOfNat 10)
  | 4 => (0, fOfNat 100)
  | 5 => match sensor with
    | 0 => (fOfNat 250, fOfNat 1820)
    | 1 => (fOfInt (-200), fOfNat 1000)
    | 2 => (fOfInt (-210), fOfNat 1200)
    | 3 => (fOfInt (-200), fOfNat 1372)
    | 4 => (fOfInt (-200), fOfNat 1300)
    | 5 => (fOfInt (-50), fOfNat 1768)
    | 6 => (fOfInt (-50), fOfNat 1768)
    | _ => (fOfInt (-200), fOfNat 400)
  | 6 => match range with
    | 0 => (0, fOfNat 400)
    | 1 => (0, fOfNat 4000)
    | _ => (0, fOfNat 40000)
  | 7 => (0, fOfNat 24)
  | 8 => (0, fOfNat 1000)
  | _ => (0, f1)

/-- R198 IN_LOW: input value at x = 0. -/
def cfgUaiInLow (s : State) (n : Nat) : Word :=
  cfgW s 5 (some n) 0x25
    (uaiInDefault (cfgUaiMode s n).toNat (cfgUaiRange s n).toNat (cfgUaiSensorType s n).toNat).1

/-- R198 IN_HIGH: input value at x = 1. -/
def cfgUaiInHigh (s : State) (n : Nat) : Word :=
  cfgW s 5 (some n) 0x26
    (uaiInDefault (cfgUaiMode s n).toNat (cfgUaiRange s n).toNat (cfgUaiSensorType s n).toNat).2

/-- This node's number, 0xFD without a configuration (R100, R125). -/
def nodeNum (s : State) : Nat := if s.cfg.absent then 0xFD else (cfgIdNodeNumber s).toNat

/-- A MAC address from its two words (R458). -/
def macOf (ws : List Word) : BitVec 48 := (ws.headD 0).setWidth 16 ++ (ws.getD 1 0)

/-- The two words of a MAC address (R458). -/
def macWords (m : BitVec 48) : List Word := [(m.extractLsb' 32 16).setWidth 32, m.extractLsb' 0 32]

/-- This node's MAC address (R459). -/
def nodeMac (s : State) : BitVec 48 := macOf (cfgRingNodeMac s)

/-- The group address of DEST_NODE 0xFF (R459). -/
def groupMac (s : State) : BitVec 48 := macOf (cfgRingGroupMac s)

/-- Points this node owns by its configuration: those with a POINTS entity (R113, R283). -/
def ownPoints (s : State) : List Nat := cfgKeys s 7


end Sys2Proof.Machine
end

