-- ==== Sys2Proof/Machine/Counters.lean ====
section
/-! DEFINITION. Counting events in the performance counter unit: always-running counters, sampling counters, samples and
the capture of a dump (R545 to R557). -/

namespace Sys2Proof.Machine
open Sys2Proof

/-- The table of R545: unit, number of instances, number of events of each. -/
def eventTable : List (Nat × Nat × Nat) :=
  [(0, 16, 13), (1, 4, 9), (2, 1, 4), (3, 4, 4), (4, 1, 5), (5, 1, 4), (6, 1, 3), (7, 2, 3), (8, 1, 4), (9, 12, 1)]

/-- The table of R545 lists event e. -/
def eventUsed (e : Nat) : Bool :=
  eventTable.any fun r => decide (e / 4096 = r.1 ∧ e / 256 % 16 < r.2.1 ∧ e % 256 < r.2.2)

/-- Every event number of R545, rising. -/
def eventList : List Nat :=
  eventTable.flatMap fun r => (List.range r.2.1).flatMap fun i => (List.range r.2.2).map fun v => r.1 * 4096 + i * 256 + v

/-- An always-running counter raised by n (R547). -/
def ctrAdd (c : Ctr) (n : Nat) : Ctr :=
  { n := c.n + BitVec.ofNat 48 n, wrapped := c.wrapped || decide (2 ^ 48 ≤ c.n.toNat + n) }

/-- The always-running counter of event e (R562). -/
def ctrOf (s : State) (e : Nat) : Ctr := tgetD s.perf.ctrs e {}

/-- The two words of a counter (R547). -/
def ctrWords (c : Ctr) : List Word :=
  [flag 31 c.wrapped ||| (c.n.extractLsb' 32 16).setWidth 32, c.n.extractLsb' 0 32]

/-- The state with sampling counter k passed through f. -/
def State.modSampler (s : State) (k : Fin 16) (f : Sampler → Sampler) : State :=
  { s with perf := { s.perf with samplers := vmod s.perf.samplers k f } }

/-- Sampling counter k. -/
def samplerAt (s : State) (k : Fin 16) : Sampler := vat s.perf.samplers k

/-- The even counter whose chain takes in odd counter k (R550). -/
def chainHigh (s : State) (k : Fin 16) : Option (Fin 16) :=
  if k.val % 2 = 1 then
    let h : Fin 16 := ⟨k.val - 1, by omega⟩
    if (samplerAt s h).chain then some h else none
  else none

/-- Sk is the high half of a chain (R550). -/
def isChainHigh (s : State) (k : Fin 16) : Bool := decide (k.val % 2 = 0) && (samplerAt s k).chain

/-- Sk counts its own event (R549, R550, R563 RUNNING). -/
def samplerRuns (s : State) (k : Fin 16) : Bool :=
  if isChainHigh s k then
    let l : Fin 16 := ⟨(k.val + 1) % 16, by omega⟩
    (samplerAt s l).enable && eventUsed (samplerAt s l).event.toNat
  else (samplerAt s k).enable && eventUsed (samplerAt s k).event.toNat

/-- KIND of a sample by the unit of its event (R552). -/
def sampleKind (ev : Nat) : Nat := match ev / 4096 with
  | 0 => 0
  | 1 => 1
  | _ => 2

/-- A station is subscribed to DUMP_FEED (R557, R562). -/
def dumpWanted (s : State) : Bool :=
  s.ring.subs.any fun q => decide (q.addr.toNat ≤ 0x90100023 ∧ 0x90100023 < q.addr.toNat + q.count)

/-- What dumps and samples add to the C3 request, kbit/s (R557). -/
def dumpNeed (s : State) : Nat := if dumpWanted s then 50 else 0

/-- Event ev is one of an engine or of the controller of a quad that is out of service (R547, R554). -/
def quadSilent (s : State) (ev : Nat) : Bool :=
  let i := ev / 256 % 16
  let q : Fin 4 := ⟨(if ev / 4096 = 0 then i / 4 else i) % 4, by omega⟩
  decide (ev / 4096 ≤ 1) && match (vat s.quads q).st with
    | .off | .reset | .update | .failed => true
    | .sleep | .run | .drain => false

/-- m samples of counter k for event ev; those past 10 000 in this second, and those of a quad that has left service, are lost
(R552, R553, R554, R557). -/
def takeSample (s : State) (k : Fin 16) (ev m : Nat) (src : SampleSrc) : State :=
  let c := samplerAt s k
  let sec := now s / 1000
  let n := if c.second = sec then c.inSecond else 0
  let made := if quadSilent s ev then 0 else min m (10000 - n)
  let kind := sampleKind ev
  let ws (i : Nat) : List Word :=
    [at' 28 k.val ||| at' 26 kind ||| w32 ev, s.perf.sampleSeq + w32 i] ++ timeWords s ++
    (if kind = 2 then [at' 16 0xFFFF, 0]
     else [at' 16 src.task.toNat ||| at' 8 (ev / 256 % 16) ||| flag 7 src.pathB, src.offset]) ++
    [src.ticks.setWidth 32] ++ List.replicate 8 0
  { s with perf := { s.perf with
      sampleSeq := s.perf.sampleSeq + w32 made
      sampleRing := (((List.range made).map ws).reverse ++ s.perf.sampleRing).take 262144
      waiting := if dumpWanted s then s.perf.waiting + made else s.perf.waiting
      samplesLost := w32 (min 0xFFFFFFFF (s.perf.samplesLost.toNat + (m - made)))
      samplers := vmod s.perf.samplers k fun c => { c with second := sec, inSecond := n + made } } }

/-- Wraps that `extra` events past a wrap make again from the reload `re` (R551). -/
def wrapMore (re extra : Word) : Nat := extra.toNat / (2 ^ 32 - re.toNat)

/-- What a counter holds after a wrap with `extra` events past it, counted from the reload `re` (R551). -/
def wrapRest (re extra : Word) : Word := re + w32 (extra.toNat % (2 ^ 32 - re.toNat))

/-- Counter k, or the chain it heads, wraps with `extra` further events; `ev` is the event counted (R550, R551). -/
def samplerWrapAt (s : State) (k : Fin 16) (ev : Nat) (extra : Word) (src : SampleSrc) : State :=
  let c := samplerAt s k
  let re := if c.sample then c.preload else 0
  let s1 :=
    if isChainHigh s k then
      let l : Fin 16 := ⟨(k.val + 1) % 16, by omega⟩
      (s.modSampler k fun c => { c with count := re, wrapped := true }).modSampler l fun c => { c with count := extra }
    else s.modSampler k fun c => { c with count := wrapRest re extra, wrapped := true }
  if c.sample then takeSample s1 k ev (if isChainHigh s k then 1 else 1 + wrapMore re extra) src else s1

/-- What a sample notes where the node itself raises the event: free values (log entry 8). -/
def freeSrc (s : State) : SampleSrc :=
  { task := Config.sampleTask s.perf.sampleSeq, pathB := false, offset := Config.sampleOffset s.perf.sampleSeq
    ticks := Config.subTicks s.perf.sampleSeq.toNat }

/-- n events arrive at counter k (R549 to R551). -/
def samplerAdd (s : State) (k : Fin 16) (ev n : Nat) : State :=
  let c := samplerAt s k
  match chainHigh s k with
  | some h =>
    let v := (samplerAt s h).count.toNat * 2 ^ 32 + c.count.toNat + n
    if v < 2 ^ 64 then
      (s.modSampler h fun c => { c with count := w32 (v / 2 ^ 32) }).modSampler k fun c => { c with count := w32 v }
    else samplerWrapAt s h ev (w32 v) (freeSrc s)
  | none =>
    if c.count.toNat + n < 2 ^ 32 then s.modSampler k fun c => { c with count := c.count + w32 n }
    else samplerWrapAt s k ev (w32 (c.count.toNat + n)) (freeSrc s)

/-- Counter k counts event e in its own right. -/
def samplerCounts (s : State) (k : Fin 16) (e : Nat) : Bool :=
  !isChainHigh s k && samplerRuns s k && decide ((samplerAt s k).event.toNat = e)

/-- n events of number e (R547 to R551). -/
def perfAdd (s : State) (e n : Nat) : State :=
  let s := { s with perf := { s.perf with ctrs := tset s.perf.ctrs e (ctrAdd (ctrOf s e) n) } }
  (List.finRange 16).foldl (fun s k => if samplerCounts s k e then samplerAdd s k e n else s) s

/-- A dump of every counter, to be sent where a station is subscribed (R555 to R557). -/
def captureDump (s : State) (cause : BitVec 8) : State :=
  let seq := s.perf.dumpSeq + 1
  let d : Dump :=
    { seq := seq, cause := cause, cycle := recCycle s, opMs := recMs s, ticks := Config.subTicks seq.toNat
      ctrs := s.perf.ctrs, samplers := s.perf.samplers.map fun c => (c.count, c.wrapped) }
  { s with perf := { s.perf with
      dumpSeq := seq
      dumps := (d :: s.perf.dumps).take 12288
      unsent := if dumpWanted s then min 12288 (s.perf.unsent + 1) else s.perf.unsent } }

/-- The 314 entries of a dump's COUNTER_DUMP, three words each (R557). -/
def dumpEntries (d : Dump) : List (List Word) :=
  (eventList.map fun e => w32 e :: ctrWords (tgetD d.ctrs e {})) ++
  (List.finRange 16).map fun k =>
    [w32 (0xF000 + k.val), flag 31 (vat d.samplers k).2, (vat d.samplers k).1]

/-- The prefix of a COUNTER_DUMP part (R557). -/
def dumpPrefix (kind part parts entries : Nat) (seq : Word) (cycle : BitVec 24) (cause : BitVec 8) (ms : BitVec 48)
    (ticks : BitVec 10) : List Word :=
  let w0 := at' 24 kind ||| at' 16 part ||| at' 8 parts ||| w32 entries
  [w0, ~~~w0, seq, at' 8 cycle.toNat ||| cause.setWidth 32, w32 (ms.toNat / 2 ^ 32), w32 ms.toNat, ticks.setWidth 32, 0]

/-- The payload of part p of a dump, parts of at most 117 entries (R557). -/
def dumpPart (d : Dump) (p : Nat) : List Word :=
  let es := (dumpEntries d).drop (117 * p) |>.take 117
  dumpPrefix 1 p 3 es.length d.seq d.cycle d.cause d.opMs d.ticks ++ es.flatten

end Sys2Proof.Machine
end

