-- ==== Sys2Proof/Machine/Conds.lean ====
section
/-! DEFINITION. The alarm conditions of the ship as this node sees them: the alarm state word, the conditions of points
it evaluates and of peers' points, SYSTEM conditions, groups and callable conditions (R323, R330, R331, R355). -/

namespace Sys2Proof.Machine
open Sys2Proof

/-- State of condition n given by an ALARM_STATE word: 0 NORM, 1 ACT_UNACK, 2 ACT_ACK, 3 RTN_UNACK, 4 SHELVED,
5 SUPPRESSED, 6 OOS (R323). -/
def condCode (w : Word) (n : Nat) : Nat :=
  if bit w 31 then 6
  else if bit w 30 then 4
  else if bit w 29 && decide (n < 6) then 5
  else match bit w (8 + n), bit w (16 + n) with
    | false, false => 0
    | true, true => 1
    | true, false => 2
    | false, true => 3

/-- One condition as a node sees it. -/
structure CondView where
  /-- Subject in the form of ALARM word 0 (R341). -/
  subject : Word
  /-- Alarm group. -/
  group : Nat
  /-- Condition 0 to 6, 0xFF for a SYSTEM condition. -/
  cond : Nat
  /-- State of R323. -/
  st : Nat
  /-- Priority 0 to 3. -/
  prio : Nat
  /-- Folded by Damask. -/
  folded : Bool
  deriving DecidableEq, Repr

/-- Priority of condition n of a point this node evaluates (R344 PRIORITIES). -/
def condPrio (s : State) (p n : Nat) : Nat := bits (cfgLimPriorities s p) (4 * n + 3) (4 * n)

/-- Group of a point this node evaluates (R309 GROUP). -/
def groupOf (s : State) (p : Nat) : Nat := (cfgPtGroup s p).toNat

/-- A word of KIND, node and number (R341 word 0, R489 SUBJECT). -/
def subjectWord (kind node num : Nat) : Word := at' 24 kind ||| at' 16 (node % 256) ||| w32 (num % 65536)

/-- The subject of a point this node evaluates. -/
def pointSubject (s : State) (p : Nat) : Word := subjectWord 0 (nodeNum s) p

/-- The seven conditions of a point this node evaluates. -/
def localConds (s : State) (p : Nat) (l : LocalPt) : List CondView :=
  (List.finRange 7).map fun n =>
    { subject := pointSubject s p, group := groupOf s p, cond := n.val, st := condCode l.alarm.stateWord.v n.val
      prio := condPrio s p n.val, folded := (vat l.alarm.conds n).folded.isSome }

/-- The seven conditions of a peer's point. -/
def replicaConds (p : Nat) (r : RepPt) : List CondView :=
  (List.finRange 7).map fun n =>
    { subject := subjectWord 0 r.holder.toNat p, group := r.group.toNat, cond := n.val, st := condCode r.pub.alarm.v n.val
      prio := (tgetD r.prios n.val 0).toNat, folded := r.folded.getLsbD n.val }

/-- Priority of a SYSTEM condition: 1 LOW, 2 MEDIUM, 3 HIGH (R332, R376, R421, R460, R485, R517, R542). -/
def sysPrio (code : Nat) : Nat :=
  if code ∈ [0x02, 0x05, 0x0B, 0x0D, 0x0E, 0x20, 0x22, 0x24, 0x26, 0x2D, 0x30, 0x32, 0x39] then 3
  else if code ∈ [0x01, 0x04, 0x06, 0x08, 0x09, 0x16, 0x25, 0x28, 0x29, 0x2A, 0x2B, 0x2C, 0x2E, 0x35, 0x37, 0x3A, 0x3B,
    0x3D, 0x3E] then 2
  else 1

/-- The code of a SYSTEM condition's state (R333). -/
def SysSt.code : SysSt → Nat
  | .norm => 0
  | .actUnack => 1
  | .actAck => 2
  | .rtnUnack => 3

/-- The SYS_STATE value half (R349). -/
def sysWord (c : SysCond) : Word :=
  at' 16 c.seq.toNat ||| flag 1 (c.st == .actUnack || c.st == .rtnUnack) |||
    flag 0 (c.st == .actUnack || c.st == .actAck)

/-- State code of a SYS_STATE word. -/
def sysWordCode (w : Word) : Nat := match bit w 0, bit w 1 with
  | false, false => 0
  | true, true => 1
  | true, false => 2
  | false, true => 3

/-- The SYSTEM conditions of this node. -/
def ownSysConds (s : State) : List CondView :=
  (List.finRange 64).map fun k =>
    { subject := subjectWord 1 (nodeNum s) k.val, group := 0, cond := 0xFF, st := (vat s.alarms.sysc k).st.code
      prio := sysPrio k.val, folded := false }

/-- The SYSTEM conditions of the other nodes as received. -/
def peerSysConds (s : State) : List CondView :=
  s.alarms.peerSys.map fun e =>
    { subject := subjectWord 1 (e.1 / 64) (e.1 % 64), group := 0, cond := 0xFF, st := sysWordCode e.2.v
      prio := sysPrio (e.1 % 64), folded := false }

/-- Every condition of every point and SYSTEM condition this node knows (R330). -/
def shipConds (s : State) : List CondView :=
  (s.points.flatMap fun e => localConds s e.1 e.2) ++
  ((s.canvas.replica.filter fun e => (tget s.points e.1).isNone).flatMap fun e => replicaConds e.1 e.2) ++
  ownSysConds s ++ peerSysConds s

/-- The conditions of group g. -/
def groupConds (s : State) (g : Nat) : List CondView := (shipConds s).filter fun c => decide (c.group = g)

/-- The group is quiet as this node sees it (R331). -/
def groupQuiet (s : State) (g : Nat) : Bool := (groupConds s g).all fun c => decide (c.st = 0 ∨ c.st = 4 ∨ c.st = 6)

/-- A condition is callable (R355). -/
def callable (s : State) (c : CondView) : Bool :=
  decide (cfgGrpCallEnable s c.group = 1) && decide ((cfgGrpCallMinPriority s c.group).toNat ≤ c.prio) && !c.folded &&
    decide (c.st = 1 ∨ c.st = 3)

/-- The callable conditions of the ship as this node judges them (R355). -/
def callables (s : State) : List CondView := (shipConds s).filter (callable s)

end Sys2Proof.Machine
end

