-- ==== Sys2Proof/Machine/Panels.lean ====
section
/-! DEFINITION. Panels: the pattern each is driven with, the frames to them, and what an ALARM does to them
(R364 to R371). -/

namespace Sys2Proof.Machine
open Sys2Proof

/-- This node holds the duty of the segment that controller c serves (R411, R467). -/
def segDutyHeld (s : State) (c : Nat) : Bool :=
  cfgHas s 12 (c * 65536) && !s.cfg.absent &&
    decide ((s.canvas.duty.seg.toList.getD (cfgCanSegment s c).toNat 0xFF).toNat = nodeNum s)

/-- Panels by controller and number, as configured (R374). -/
def panelKeys (s : State) : List Nat := cfgKeys s 13

/-- The panel's record. -/
def panelAt (s : State) (k : Nat) : Panel := tgetD s.panels.tab k {}

/-- The state with panel k's record passed through f. -/
def State.modPanel (s : State) (k : Nat) (f : Panel → Panel) : State :=
  { s with panels := { s.panels with tab := tset s.panels.tab k (f (panelAt s k)) } }

/-- Key of panel p on controller c. The sparse table and the section use the same key (R113). -/
def panelKey (c p : Nat) : Nat := c * 65536 + p

/-- Group g is in the panel's GROUP_MASK (R374). -/
def panelShows (s : State) (c p g : Nat) : Bool := bit ((cfgPanGroupMask s c p).getD (g / 32) 0) (g % 32)

/-- Engineer k's bit in a mask, none for 0xFF. -/
def engBit (m : BitVec 16) (k : Nat) : Bool := m.getLsbD k

/-- The engineers' alarm stands (R358). -/
def engineersAlarm (s : State) : Bool :=
  s.call.causeCall || s.call.causeDead || s.call.causeManual || s.call.causeManned

/-- Engineer k is called (R356). -/
def engCalled (s : State) (k : Nat) : Bool := match s.call.st with
  | .calling => decide (k = s.call.duty.toNat)
  | .backup => decide (k = s.call.duty.toNat ∨ k = s.call.backup.toNat)
  | _ => false

/-- An unsilenced alarm stands for the panel (R366 rank 6). -/
def unsilencedAlarm (s : State) (c p : Nat) (bridge : Bool) : Bool :=
  let u := (panelAt s (panelKey c p)).unsilenced
  (shipConds s).any fun v =>
    u.contains (v.subject, v.cond) && decide (v.st = 1) && panelShows s c p v.group &&
      (!bridge || (s.call.ums && decide (cfgGrpBridge s v.group = 1)))

/-- PATTERN and REASON of panel p of controller c (R366). -/
def panelPattern (s : State) (c p : Nat) : BitVec 4 × BitVec 4 :=
  let kind := (cfgPanKind s c p).toNat
  let eng := (cfgPanEngineer s c p).toNat
  let el := decide (kind ≤ 1)
  let cabin := decide (kind = 2)
  let mess := decide (kind = 3)
  let bridge := decide (kind = 4)
  let called := match s.call.st with
    | .calling => true
    | .backup => true
    | _ => false
  if engineersAlarm s && (!cabin || (engBit s.call.onRota eng && !engBit s.call.accepted eng)) then (6, 1)
  else if el && (s.call.dead == .prewarn || s.call.dead == .expired) then (3, 2)
  else if called && cabin && engCalled s eng then (4, 3)
  else if called && mess then (2, 3)
  else if s.call.st == .accepted && cabin && engBit s.call.accepted eng then (1, 4)
  else if s.call.pend == .duty && cabin && decide (eng = s.call.pendEng.toNat) then (5, 5)
  else if s.call.pend == .toUms && bridge then (5, 5)
  else if (el || bridge) && unsilencedAlarm s c p bridge then (4, 6)
  else if el && s.call.dead == .running then (5, 7)
  else (0, 0)

/-- Identifier of a panel frame (R370). -/
def panelId (prio node panel func item : Nat) : BitVec 29 :=
  BitVec.ofNat 29 (prio * 2 ^ 26 + node % 64 * 2 ^ 20 + panel % 64 * 2 ^ 14 + func % 64 * 2 ^ 8 + item % 256)

/-- The state with a frame for controller c queued (R368). -/
def queueFrame (s : State) (c : Nat) (f : PanelFrame) : State :=
  { s with panels := { s.panels with txq := s.panels.txq ++ [(c, f)] } }

/-- Dead-man time remaining in seconds, 0xFFFF when OFF (R371). -/
def deadSeconds (s : State) : Nat := match s.call.deadEnd with
  | none => 0xFFFF
  | some t => (t - now s) / 1000

/-- COMMAND frame of panel p of controller c (R371). -/
def commandFrame (s : State) (c p : Nat) (pat : BitVec 4 × BitVec 4) : PanelFrame :=
  let w0 := at' 28 pat.1.toNat ||| at' 24 pat.2.toNat ||| at' 20 (b2n s.call.ums) ||| s.call.callId.setWidth 32
  let w2 := at' 24 s.call.duty.toNat ||| at' 16 ((cfgPanEngineer s c p).toNat % 256) ||| w32 (deadSeconds s % 65536)
  { id := panelId 0 (nodeNum s) p 1 (s.call.seq.toNat % 256), words := [w0, ~~~w0, w2, ~~~w2] }

/-- This node drives panel k: it holds the segment's duty and the panel's kind agrees (R368). -/
def panelDriven (s : State) (k : Nat) : Bool := segDutyHeld s (k / 65536) && !(panelAt s k).mismatch

/-- Panel k with its pattern formed anew, a COMMAND queued where it changed or where `force` holds (R366, R368). -/
def panelStep (force : Bool) (s : State) (k : Nat) : State :=
  if panelDriven s k then
    let pat := panelPattern s (k / 65536) (k % 65536)
    let old := panelAt s k
    let s1 := s.modPanel k fun q => { q with pattern := pat.1, reason := pat.2 }
    if force || old.pattern != pat.1 || old.reason != pat.2 then
      queueFrame s1 (k / 65536) (commandFrame s (k / 65536) (k % 65536) pat)
    else s1
  else s

/-- Every panel's pattern formed anew (R366, R368). -/
def panelsRefresh (force : Bool) (s : State) : State := (panelKeys s).foldl (panelStep force) s

/-- The ALARM frame of an ALARM payload (R371). -/
def alarmFrame (s : State) (prio p : Nat) (ws : List Word) : PanelFrame :=
  let g (i : Nat) : Word := ws.getD i 0
  let w6 := at' 16 (bits (g 4) 31 16) ||| at' 8 (bits (g 1) 31 24) ||| w32 (bits (g 1) 7 0)
  let w10 := at' 24 (bits (g 1) 23 16) ||| at' 16 (bits (g 1) 15 8) ||| flag 15 (bit (g 4) 15) ||| flag 14 (bit (g 4) 14)
  { id := panelId prio (nodeNum s) p 2 0
    words := [g 0, g 2, g 6, g 7, g 8, g 9, w6, ~~~w6, g 17, g 18, w10, g 20] }

/-- An ALARM is shown on a panel of this kind (R368; log entry 40). -/
def panelTakes (s : State) (kind : Nat) (ws : List Word) : Bool :=
  let ev := bits (ws.getD 1 0) 23 16
  let ann := bit (ws.getD 4 0) 15
  let grp := bits (ws.getD 1 0) 15 8
  if kind ≤ 1 then decide (ev ≠ 0x0B)
  else if kind = 4 then decide (cfgGrpBridge s grp = 1) &&
    (ann || (decide (ev ≠ 1 ∧ ev ≠ 0x0A ∧ ev ≠ 0x0B) && !bit (ws.getD 4 0) 14))
  else false

/-- What an ALARM does to panel k (R366, R368). -/
def panelAlarmAt (ws : List Word) (s : State) (k : Nat) : State :=
  let c := k / 65536
  let p := k % 65536
  let ev := bits (ws.getD 1 0) 23 16
  if panelDriven s k && panelShows s c p (bits (ws.getD 1 0) 15 8) then
    let s := if panelTakes s (cfgPanKind s c p).toNat ws then queueFrame s c (alarmFrame s 0 p ws) else s
    if bit (ws.getD 4 0) 15 && decide (ev = 1 ∨ ev = 0x0A) then
      s.modPanel k fun q => { q with silenced := false
                                     unsilenced := (ws.getD 0 0, bits (ws.getD 1 0) 31 24) ::
                                       q.unsilenced.filter (fun u => u != (ws.getD 0 0, bits (ws.getD 1 0) 31 24)) }
    else s
  else s

/-- What an ALARM does to the panels of the segments whose duty this node holds (R342, R366, R368). -/
def panelsAlarm (s : State) (ws : List Word) : State :=
  panelsRefresh false ((panelKeys s).foldl (panelAlarmAt ws) s)

end Sys2Proof.Machine
end

