-- ==== Sys2Proof/Machine/Base.lean ====
section
/-! DEFINITION. The operations that every chapter's meanings share: staging a Linen record, queueing a Bereb message,
raising and clearing a SYSTEM condition, counting a pair failure, and the level of a requester. -/

namespace Sys2Proof.Machine
open Sys2Proof

/-! Linen staging (R488 to R500). -/

/-- The capacity of one staging copy in records (R497). -/
def stagingCap : Nat := 1966080

/-- Places in the payload of the two words of each critical field, by TYPE (R490). -/
def critPlaces (type : Nat) : List (Nat × Nat) := match type with
  | 0x01 => [(0, 1), (2, 3)]
  | 0x02 => [(2, 3)]
  | 0x05 => [(0, 1)]
  | 0x06 => [(1, 2)]
  | 0x10 => [(0, 1), (4, 5)]
  | 0x11 => [(0, 1), (2, 3)]
  | 0x12 => [(0, 1), (2, 3)]
  | 0x13 => [(0, 1), (2, 3)]
  | 0x14 => [(0, 1)]
  | 0x16 => [(0, 1), (2, 3)]
  | 0x4C => [(0, 2), (1, 3)]
  | _ => []

/-- Every critical field of the record is a pair that checks (R60). -/
def recPairsOk (r : Rec) : Bool :=
  (critPlaces r.type.toNat).all fun p => r.payload.getD p.2 0 == ~~~(r.payload.getD p.1 0)

/-- A record of this moment (R488). -/
def mkRec (s : State) (cls : RecClass) (type : BitVec 8) (subject detail : Word) (payload : List Word) : Rec :=
  { cycle := recCycle s, type := type, opMs := recMs s, cls := cls, wallQ := wallQ s, resumed := s.linen.resumed
    wall := wallNow s, subject := subject, detail := detail, payload := payload }

/-- The subject for a record about the node itself or a numbered thing of it (R489). -/
def subj (s : State) (kind num : Nat) : Word := subjectWord kind (nodeNum s) num

/-- A record class is at least as lasting as another: P, A, E, D. -/
def RecClass.rank : RecClass → Nat
  | .p => 3
  | .a => 2
  | .e => 1
  | .d => 0

/-- The staged list without its oldest record of the least lasting class present (R500). -/
def dropOldest (l : List Staged) : List Staged × Option RecClass :=
  let find (c : RecClass) : Option Nat := l.findIdx? fun x => x.r.cls == c
  match find .d, find .e, find .a, find .p with
  | some i, _, _, _ => (l.eraseIdx i, some .d)
  | none, some i, _, _ => (l.eraseIdx i, some .e)
  | none, none, some i, _ => (l.eraseIdx i, some .a)
  | none, none, none, some i => (l.eraseIdx i, some .p)
  | none, none, none, none => (l, none)

/-- One record of class c dropped or replaced (R500). -/
def countDrop (l : Linen) (c : RecClass) (seqLost : Bool) : Linen :=
  let l := { l with dropped := satInc l.dropped, dropping := true, lostSeq := if seqLost then l.lostSeq + 1 else l.lostSeq }
  match c with
  | .d => { l with dropD := l.dropD + 1 }
  | .e => { l with dropE := l.dropE + 1 }
  | .a => { l with dropA := l.dropA + 1 }
  | .p => { l with dropP := l.dropP + 1 }

/-- HISTORY is READY and records are numbered as they are staged (R498). -/
def histReady (s : State) : Bool := s.linen.st == .indexing || s.linen.st == .inService

/-- The sixteen words of a record with its RECORD_SEQ (R488, R489). -/
def recWords (seq : Word) (r : Rec) : List Word :=
  let cls : Nat := match r.cls with
    | .p => 0
    | .a => 1
    | .e => 2
    | .d => 3
  let fl := cls * 2 ^ 14 + b2n r.integrity * 2 ^ 13 + r.wallQ.toNat * 2 ^ 11 + b2n r.restamped * 2 ^ 10 +
    b2n r.resumed * 2 ^ 9 + b2n r.announce * 2 ^ 8 + b2n r.folded * 2 ^ 7 + b2n r.cont * 2 ^ 6
  let ws : List Word :=
    [seq, at' 8 r.cycle.toNat ||| r.type.setWidth 32, r.opMs.extractLsb' 16 32, at' 16 (r.opMs.toNat % 65536) ||| w32 fl,
     r.wall.extractLsb' 32 32, r.wall.extractLsb' 0 32, r.subject, r.detail] ++
    (List.range 6).map (fun i => r.payload.getD i 0) ++ [~~~seq]
  ws ++ [crc32c (wordBytes ws)]

/-- A record's class as a bit of CLASS_MASK: bit 3 P, 2 A, 1 E, 0 D (R519). -/
def clsBit : RecClass → Nat
  | .p => 3
  | .a => 2
  | .e => 1
  | .d => 0

/-- A subject matches a SUBJECT_FILTER, 0xFF, 0xFF and 0xFFFF matching anything (R518). -/
def subjMatch (f w : Word) : Bool :=
  (decide (bits f 31 24 = 0xFF) || decide (bits f 31 24 = bits w 31 24)) &&
  (decide (bits f 23 16 = 0xFF) || decide (bits f 23 16 = bits w 23 16)) &&
  (decide (bits f 15 0 = 0xFFFF) || decide (bits f 15 0 = bits w 15 0))

/-- A record is one that the cursor takes (R511). -/
def cursorTakes (c : Cursor) (r : Rec) : Bool := c.mask.getLsbD (clsBit r.cls) && subjMatch c.filter r.subject

/-- A cursor at the head that follows takes a record staged later, until its window holds 16 (R511). -/
def followRec (seq : Word) (r : Rec) (c : Cursor) : Cursor :=
  if c.owned && c.follow && c.atHead && !c.busy && decide (c.tier = 0) then
    if cursorTakes c r && decide (c.entries.toNat < 16) then
      { c with window := c.window ++ recWords seq r, entries := c.entries + 1, stagedPresent := true
               nextPos := seq.toNat + 1 }
    else c
  else c

/-- A station subscribed to an object at this address (R453). -/
def subscribers (s : State) (addr : Word) : List (BitVec 48) :=
  ((s.ring.subs.filter fun q => decide (q.addr.toNat ≤ addr.toNat ∧ addr.toNat < q.addr.toNat + q.count)).map Subs.mac).eraseDups

/-- A class E record waits for an EVENT where a station is subscribed to EVENT_FEED (R455). -/
def noteEvent (s : State) (seq : Word) (r : Rec) : State :=
  if r.cls == .e && !(subscribers s 0x60000002).isEmpty then
    { s with linen := { s.linen with events := s.linen.events ++ [(seq, r)] } }
  else s

/-- A record put at the end of staging with the next RECORD_SEQ (R498). -/
def pushRec (s : State) (r : Rec) : State :=
  if histReady s then
    let s := noteEvent s s.linen.nextSeq r
    { s with linen := { s.linen with
        staged := s.linen.staged ++ [{ seq := some s.linen.nextSeq, at_ := now s, r := r }]
        nextSeq := s.linen.nextSeq + 1
        cursors := s.linen.cursors.map (followRec s.linen.nextSeq r) } }
  else { s with linen := { s.linen with staged := s.linen.staged ++ [{ seq := none, at_ := now s, r := r }] } }

/-- A record staged, dropped or staged in place of an older one, as the backlog decides (R500). -/
def stage0 (s : State) (r : Rec) : State :=
  let n := s.linen.staged.length
  let low := r.cls == .d || r.cls == .e
  if n * 4 < stagingCap * 3 then pushRec s r
  else if r.cls == .d || (low && decide (stagingCap * 9 ≤ n * 10)) then
    { s with linen := countDrop s.linen r.cls false }
  else if n < stagingCap then pushRec s r
  else match dropOldest s.linen.staged with
    | (l, some c) => pushRec { s with linen := countDrop { s.linen with staged := l } c true } r
    | (_, none) => pushRec s r

/-! Bereb messages (R437 to R448). -/

/-- Bytes of a message's frame on the ring (R443). -/
def msgBytes (m : Msg) : Nat := max 64 (60 + 4 * m.payload.length)

/-- Bit times of a message on the wire, preamble and gap included (R437). -/
def msgBits (m : Msg) : Nat := (msgBytes m + 20) * 8

/-- Capacity in bytes of the origination queue of class c (R437, R439). -/
def originCap (c : Nat) : Nat := match c with
  | 0 => 16 * 2 ^ 20
  | 1 => 16 * 2 ^ 20
  | 2 => 32 * 2 ^ 20
  | _ => 72 * 2 ^ 20

/-- Class c of the switch. -/
def classAt (s : State) (c : Fin 4) : ClassSt := vat s.ring.classes c

/-- Bytes waiting in the origination queue of class c. -/
def originBytes (s : State) (c : Fin 4) : Nat := ((classAt s c).queue.map msgBytes).sum

/-- The message advances the SEQUENCE counter of its class (R446). -/
def advancesSeq (m : Msg) : Bool := decide (m.dest = 0xFF) && (decide (m.cls ≠ 2) || decide (m.type = 0x29))

/-- The message at the end of its class's origination queue with its SEQUENCE (R446, R457). -/
def pushMsg (s : State) (m : Msg) : State :=
  let c : Fin 4 := ⟨m.cls.toNat, by have := m.cls.isLt; omega⟩
  s.modClass c fun k =>
    let q := if advancesSeq m then k.seq + 1 else k.seq
    { k with seq := q, queue := k.queue ++ [{ m with seq := q }] }

/-- The origination queue of the message's class has room for it. -/
def originFits (s : State) (m : Msg) : Bool :=
  decide (originBytes s ⟨m.cls.toNat, by have := m.cls.isLt; omega⟩ + msgBytes m ≤ originCap m.cls.toNat)

/-- A message queued for sending; an ALARM that finds its queue full, or an earlier ALARM of its subject waiting, waits
outside the queue (R437, R438; log entry 41 for other messages that find their queue full). -/
def enqueue (s : State) (m : Msg) : State :=
  if m.type = 0x21 then
    if !originFits s m || s.ring.c0Wait.any (fun w => w.payload.head? == m.payload.head?) then
      { s with ring := { s.ring with c0Wait := s.ring.c0Wait ++ [m] } }
    else pushMsg s m
  else if originFits s m then pushMsg s m else s

/-- A broadcast of this node (R447). -/
def bcast (s : State) (cls : BitVec 2) (type : BitVec 6) (payload : List Word) : State :=
  enqueue s { cls := cls, type := type, src := BitVec.ofNat 8 (nodeNum s), dest := 0xFF, payload := payload, mac := groupMac s }

/-- A message of this node to one MAC address (R447). -/
def sendTo (s : State) (mac : BitVec 48) (dest : BitVec 8) (cls : BitVec 2) (type : BitVec 6) (payload : List Word) : State :=
  enqueue s { cls := cls, type := type, src := BitVec.ofNat 8 (nodeNum s), dest := dest, payload := payload, mac := mac }

/-! Groups, and what every ALARM does (R331, R342, R356). -/

/-- The group's record. -/
def groupAt (s : State) (g : Nat) : GroupSt := tgetD s.alarms.groups g {}

/-- The state with group g's record passed through f. -/
def State.modGroup (s : State) (g : Nat) (f : GroupSt → GroupSt) : State :=
  { s with alarms := { s.alarms with groups := tset s.alarms.groups g (f (groupAt s g)) } }

/-- The first-out of a quiet group is cleared (R331). -/
def refreshGroup (s : State) (g : Nat) : State :=
  if groupQuiet s g then s.modGroup g fun r => { r with first := none, firstKey := (0, 0), localTaken := false } else s

/-- An earlier key in the order of R331. -/
def keyBefore (a b : Nat × Nat) : Bool := decide (a.1 < b.1 ∨ (a.1 = b.1 ∧ a.2 < b.2))

/-- The first-out of the ALARM's group (R331). -/
def noteFirstOut (s : State) (ws : List Word) : State :=
  let g := bits (ws.getD 1 0) 15 8
  if bit (ws.getD 4 0) 13 && decide (cfgGrpFirstOut s g = 1) then
    let lab := if bits (ws.getD 19 0) 1 0 = 2 then (ws.getD 17 0).toNat * 2 ^ 32 + (ws.getD 18 0).toNat else 2 ^ 64
    let key := (lab, bits (ws.getD 0 0) 23 16)
    let v : Pair × BitVec 8 := (⟨ws.getD 0 0, ws.getD 2 0⟩, BitVec.ofNat 8 (bits (ws.getD 1 0) 31 24))
    s.modGroup g fun r => match r.first with
      | none => { r with first := some v, firstKey := key }
      | some _ => if keyBefore key r.firstKey then { r with first := some v, firstKey := key } else r
  else s

/-- A callable condition announced while a call is open joins it (R356). -/
def noteJoin (s : State) (ws : List Word) : State :=
  let g := bits (ws.getD 1 0) 15 8
  if s.call.holds && s.call.st != .idle && bit (ws.getD 4 0) 15 && decide (cfgGrpCallEnable s g = 1) &&
      decide ((cfgGrpCallMinPriority s g).toNat ≤ bits (ws.getD 1 0) 7 4) then
    { s with call := { s.call with joined := satInc s.call.joined, changed := true } }
  else s

/-- What an ALARM, own or received, does to groups, the call and the panels (R331, R342, R356, R368). -/
def alarmEffects (s : State) (ws : List Word) : State :=
  refreshGroup (panelsAlarm (noteJoin (noteFirstOut s ws) ws) ws) (bits (ws.getD 1 0) 15 8)

/-- The class A record of an ALARM (R342, R490). -/
def alarmRec (s : State) (ws : List Word) : Rec :=
  let g (i : Nat) : Word := ws.getD i 0
  { mkRec s .a 0x01 (g 0) (at' 24 (bits (g 1) 31 24) ||| at' 16 (bits (g 1) 23 16) ||| w32 (bits (g 4) 31 16))
      [g 6, g 7, g 8, g 9,
       at' 24 (bits (g 1) 15 8) ||| at' 20 (bits (g 1) 7 4) ||| at' 16 (bits (g 1) 3 0) ||| at' 8 (bits (g 4) 7 0), g 20] with
    cycle := BitVec.ofNat 24 (bits (g 14) 31 8), opMs := BitVec.ofNat 48 (bits (g 15) 15 0 * 2 ^ 32 + (g 16).toNat)
    wall := g 17 ++ g 18, wallQ := BitVec.ofNat 2 (bits (g 19) 1 0)
    announce := bit (g 4) 15, folded := bit (g 4) 14 }

/-- The record with its INTEGRITY flag set where a critical field fails its pair (R60, R489). -/
def flagRec (r : Rec) : Rec := { r with integrity := r.integrity || !recPairsOk r }

/-- An ALARM of this node: queued in C0, staged as class A, and acted on here (R341, R342). -/
def alarmOut (s : State) (ws : List Word) : State :=
  alarmEffects (stage0 (bcast s 0 0x21 ws) (flagRec (alarmRec s ws))) ws

/-! SYSTEM conditions (R332 to R334). -/

/-- The next TRANSITION_SEQ (R327). -/
def nextTseq (q : BitVec 16) : BitVec 16 := if q = 0xFFFE then 0 else q + 1

/-- The start is complete (R81). -/
def startComplete (s : State) : Bool := match s.sys.phase with
  | .complete => true
  | .completeLate => true
  | _ => false

/-- A condition stands active. -/
def SysSt.active : SysSt → Bool
  | .actUnack => true
  | .actAck => true
  | _ => false

/-- SYSTEM condition k stands active on this node. -/
def sysActive (s : State) (k : Fin 64) : Bool := (vat s.alarms.sysc k).st.active

/-- FLTn low until the start is complete, then while a MEDIUM or HIGH condition is active (R81, R334). -/
def fltUpdate (s : State) : State :=
  { s with pins := { s.pins with
      fltn := startComplete s && !(List.finRange 64).any fun k => sysActive s k && decide (2 ≤ sysPrio k.val) } }

/-- The ALARM payload of a SYSTEM condition after an event (R341). -/
def sysAlarmWords (s : State) (k : Fin 64) (ev : Nat) : List Word :=
  let c := vat s.alarms.sysc k
  let w0 := subjectWord 1 (nodeNum s) k.val
  let w1 := at' 24 0xFF ||| at' 16 ev ||| at' 4 (sysPrio k.val) ||| w32 c.st.code
  let w4 := at' 16 c.seq.toNat ||| flag 15 (decide (ev = 1))
  let root := if k.val = 0x06 then s.alarms.integritySubject else 0xFFFFFFFF
  [w0, w1, ~~~w0, ~~~w1, w4, ~~~w4] ++ pws (Pair.mk0 (sysWord c)) ++ pws nanPair ++ pws (Pair.mk0 Config.sysQuality) ++
    pws nanPair ++ timeWords s ++ [s.bkup.seconds, s.bkup.sub.setWidth 32, (wallQ s).setWidth 32, root, 0]

/-- SYSTEM condition k set to a state with an event, its ALARM sent (R333, R341, R342). -/
def sysEvent (s : State) (k : Fin 64) (st : SysSt) (ev : Nat) : State :=
  let s := s.modSys k fun c => { c with st := st, seq := nextTseq c.seq }
  fltUpdate (alarmOut s (sysAlarmWords s k ev))

/-- C0_BACKLOG raised while an ALARM waits outside the full queue (R438, R460); it is raised without an inner check. -/
def sysRaise0 (s : State) (k : Fin 64) : State :=
  let s := s.modSys k fun c => { c with lastEvent := now s }
  match (vat s.alarms.sysc k).st with
  | .norm => sysEvent s k .actUnack 1
  | .rtnUnack => sysEvent s k .actUnack 1
  | _ => s

/-- C0_BACKLOG and HISTORY_DROPPING follow what queueing and staging found (R438, R500). -/
def followUps (s0 s : State) : State :=
  let s := if !s.ring.c0Wait.isEmpty && !sysActive s 0x32 then sysRaise0 s 0x32 else s
  if s.linen.dropped != s0.linen.dropped then sysRaise0 s 0x3A else s

/-- The event that raises SYSTEM condition k (R332, R333). -/
def sysRaise (s : State) (k : Fin 64) : State := followUps s (sysRaise0 s k)

/-- SYSTEM condition k's cause is gone (R332, R333). -/
def sysClear (s : State) (k : Fin 64) : State :=
  match (vat s.alarms.sysc k).st with
  | .actUnack => followUps s (sysEvent s k .rtnUnack 2)
  | .actAck => followUps s (sysEvent s k .norm 2)
  | _ => s

/-- SYSTEM condition k follows whether its cause stands (R332). -/
def sysSet (s : State) (k : Fin 64) (on : Bool) : State := if on then (if sysActive s k then s else sysRaise s k) else sysClear s k

/-! Pair failures (R60, R76, R546). -/

/-- The class D record of a pair failure (R490): kind 0 an input pair, 1 the paths disagree, 2 a consumer's pair. -/
def pairRec (s : State) (kind engine : Nat) (subject : Word) (ps : List Pair) : Rec :=
  mkRec s .d 0x40 subject (at' 24 kind ||| at' 16 engine) ((ps.flatMap pws).take 4)

/-- What Linen does of a record staged with critical fields that fail: each counted, recorded, INTEGRITY raised
(R60, R76, R546). -/
def linenCheck (s : State) (r : Rec) : State :=
  let bad := ((critPlaces r.type.toNat).map fun p => (⟨r.payload.getD p.1 0, r.payload.getD p.2 0⟩ : Pair)).filter fun p => !p.ok
  if bad.isEmpty then s else sysRaise (stage0 (perfAdd s 0x9900 bad.length) (pairRec s 2 0 r.subject bad)) 0x06

/-- A record staged; a critical field that fails its pair sets the record's flag and counts at Linen staging
(R60, R497, R500). -/
def stage (s : State) (r : Rec) : State := followUps s (linenCheck (stage0 s (flagRec r)) r)

/-- An ALARM of this node with what queueing it may raise and what its record's pairs may (R60, R76, R341, R438). -/
def sendAlarm (s : State) (ws : List Word) : State := followUps s (linenCheck (alarmOut s ws) (alarmRec s ws))

/-- Consumer c of R546 finds pairs that fail their check, one where none is named: each counted once, recorded, and INTEGRITY
raised (R60, R76). -/
def pairFail (s : State) (c : Nat) (subject : Word) (ps : List Pair) : State :=
  sysRaise (stage0 (perfAdd s (0x9000 + c * 256) (max 1 ps.length)) (pairRec s 2 0 subject ps)) 0x06

/-! Requesters (R450). -/

/-- The node number bound to a MAC address (R447). -/
def boundNode (s : State) (mac : BitVec 48) : Option Nat := (s.ring.bindings.find? fun b => b.2 == mac).map Prod.fst

/-- The HOSTS entity with a MAC address (R458). -/
def hostOf (s : State) (mac : BitVec 48) : Option Nat := (cfgKeys s 2).find? fun k => macOf (cfgHostMac s k) == mac

/-- The access level of a sender: 0 Observer, 1 Operator, 2 Engineer, 3 Service (R450). -/
def levelOf (s : State) (mac : BitVec 48) : Nat :=
  if (boundNode s mac).isSome then 1
  else match hostOf s mac with
    | some k => (cfgHostLevel s k).toNat
    | none => 0

/-- The requester has at least this level, and the logic side is up. -/
def may (s : State) (r : Req) (level : Nat) : Bool := up s && decide (level ≤ levelOf s r.mac)

end Sys2Proof.Machine
end

