-- ==== Sys2Proof/Machine/AlarmAct.lean ====
section
/-! DEFINITION. Alarm actions as they arrive at the node that evaluates the subject, and a request of this node to another
(R325, R326, R333, R444). -/

namespace Sys2Proof.Machine
open Sys2Proof

/-- An action waits for the point's next evaluation (R325, R326). -/
def queueAct (s : State) (p : Nat) (a : AlarmAct) : State :=
  s.modPoint p fun l => { l with alarm := { l.alarm with held := l.alarm.held ++ [{ act := a, at_ := now s }] } }

/-- The SEQ of an acknowledgement fits a TRANSITION_SEQ (R326). -/
def seqFits (seq held : BitVec 16) : Bool := seq == 0xFFFF || seq == held

/-- SYSTEM condition k acknowledged (R324, R333). -/
def ackSys (s : State) (k : Fin 64) (seq : BitVec 16) : State :=
  let c := vat s.alarms.sysc k
  if seqFits seq c.seq then
    match c.st with
    | .actUnack => followUps s (sysEvent s k .actAck 3)
    | .rtnUnack => followUps s (sysEvent s k .norm 3)
    | _ => s
  else s

/-- A WRITE of this node to another, its TAG noted as outstanding (R444, R449, R451). -/
def writeTo (s : State) (n : Nat) (addr : Word) (ws : List Word) : State :=
  match tget s.ring.bindings n with
  | none => s
  | some mac =>
    let tag := s.ring.nextTag
    enqueue { s with ring := { s.ring with nextTag := tag + 1, outstanding := (tag, 0x12) :: s.ring.outstanding } }
      { cls := 1, type := 0x02, src := BitVec.ofNat 8 (nodeNum s), dest := BitVec.ofNat 8 n, tag := tag, addr := addr
        count := BitVec.ofNat 16 ws.length, payload := ws, mac := mac }

/-- The address of word o of point p (R310, R346). -/
def pointAddr (p o : Nat) : Word := 0x20000000 + w32 (p * 4096 + o)

/-- An acknowledgement of a subject carried to the node that evaluates it (R326, R365). -/
def forwardAck (s : State) (subject : Word) (seq : BitVec 16) : State :=
  let n := bits subject 23 16
  let num := bits subject 15 0
  match bits subject 31 24 with
  | 0 => if n = nodeNum s then queueAct s num (.ack seq)
         else writeTo s n (pointAddr num 0x23) [at' 16 seq.toNat ||| 1]
  | 1 =>
    if n = nodeNum s then ackSys s ⟨num % 64, by omega⟩ seq
    else writeTo s n 0x30010000 [at' 16 seq.toNat ||| at' 8 (num % 256) ||| 1]
  | _ => s

end Sys2Proof.Machine
end

