-- ==== Sys2Proof/Machine/Flags.lean ====
section
/-! DEFINITION. Packed status words that several objects and messages share. -/

namespace Sys2Proof.Machine
open Sys2Proof

/-- A QUALITY word: [23:16] FLT_CAUSE, [4] HELD, [3] SUSPECT, [2:0] code (R289, R290, R311). -/
def qualityWord (cause : Nat) (heldBit suspect : Bool) (code : Nat) : Word :=
  at' 16 (cause % 256) ||| flag 4 heldBit ||| flag 3 suspect ||| w32 (code % 8)

end Sys2Proof.Machine
end

