-- ==== Sys2Proof/Machine/Ready.lean ====
section
/-! DEFINITION. READY and LOST: the state of each function and the messages and records that announce it (R83 to R85). -/

namespace Sys2Proof.Machine
open Sys2Proof

/-- Number of a function: FUNCTION * 256 + INDEX (R83). -/
def fnKey (fn idx : Nat) : Nat := fn * 256 + idx

/-- State of a function. -/
def fnAt (s : State) (k : Nat) : FnState := tgetD s.sys.fns k {}

/-- A function is READY. -/
def fnReady (s : State) (fn idx : Nat) : Bool := (fnAt s (fnKey fn idx)).ready

/-- The CAN controller has been READY since the start: its objects answer, in BUS_OFF and its hold too, where RECOVER_NOW
has its meaning (R86, R470, R487; log entry 56). -/
def canServed (s : State) (c : Nat) : Bool := (fnAt s (fnKey 0x06 c)).everReady

/-- The state with function k passed through f. -/
def State.modFn (s : State) (k : Nat) (f : FnState → FnState) : State :=
  { s with sys := { s.sys with fns := tset s.sys.fns k (f (fnAt s k)) } }

/-- CHANNEL i is READY: 0 to 15 UAI, 16 to 19 AO, 20 to 35 DI, 36 to 43 DO (R83). -/
def chanReady (s : State) (i : Nat) : Bool := up s && fnReady s 0x04 i

/-- The isolation link carries the logic side's frames: FIELD_LINK is READY (R83). -/
def linkReady (s : State) : Bool := up s && !s.dram.failed && fnReady s 0x03 0

/-- The entities of a section. -/
def secEnts (s : State) (sec : Nat) (p : Nat → Bool) : List Ent :=
  match tget s.cfg.run sec with
  | none => []
  | some c => (c.ents.filter fun e => p e.1).map Prod.snd

/-- A section's own fields as an entity. -/
def secTop (s : State) (sec : Nat) : List Ent := match tget s.cfg.run sec with
  | none => []
  | some c => [c.top]

/-- A whole section. -/
def secAll (s : State) (sec : Nat) : List Ent := secTop s sec ++ secEnts s sec fun _ => true

/-- The configuration that governs a function: IDENTITY, and the sections that R113 lists against it (R84, R113). -/
def fnEnts (s : State) (fn idx : Nat) : List Ent := secAll s 1 ++ match fn with
  | 0x01 => secAll s 2 ++ secAll s 3
  | 0x02 => secAll s 4
  | 0x04 => secTop s 5 ++ (secEnts s 5 fun k => decide (k = idx)) ++ (if idx < 20 then secTop s 18 else []) ++
      secEnts s 18 fun k => decide (k / 65536 = idx)
  | 0x05 => secTop s 9 ++ secTop s 7 ++ (secEnts s 9 fun k => decide (k = idx)) ++ secEnts s 7 ((ownPoints s).filter fun p => decide (groupOf s p = idx)).contains
  | 0x06 => secTop s 12 ++ secEnts s 12 fun k => decide (k / 65536 = idx)
  | 0x07 => secAll s 11 ++ secAll s 13
  | 0x08 => secAll s 14
  | 0x0A => secAll s 16
  | 0x0B => secAll s 17
  | _ => []

/-- The ten words of a READY message with STATE st (R84). -/
def readyWords (s : State) (k st : Nat) : List Word :=
  let f := fnAt s k
  let w0 := at' 24 (k / 256) ||| at' 16 st ||| w32 (k % 256)
  [w0, ~~~w0, flag 31 f.suspect ||| flag 30 f.partial_ ||| flag 29 f.late ||| w32 (min f.clamps 0xFFFF),
   w32 (min f.notStarted 0xFFFF)] ++ timeWords s ++ [s.sys.msSince] ++ pws s.cfg.seqInUse

/-- A READY or LOST message leaves and is recorded (R85). -/
def sendFn (s : State) (k st : Nat) : State :=
  let ws := readyWords s k st
  let r := mkRec s .e 0x10 (subj s 3 k) 0
    [ws.getD 0 0, ws.getD 1 0, ws.getD 2 0, ws.getD 3 0, ws.getD 8 0, ws.getD 9 0]
  stage (bcast s 1 0x20 ws) r

/-- READY of function k is announced once RING is READY (R85). -/
def announce (s : State) (k : Nat) : State :=
  let f := fnAt s k
  if fnReady s 0x01 0 && f.ready && !f.announced then (sendFn s k 1).modFn k fun f => { f with announced := true } else s

/-- Every READY function not yet announced, in order of FUNCTION and INDEX (R85). -/
def announceAll (s : State) : State := (s.sys.fns.map Prod.fst).foldl announce s

/-- A function becomes READY (R83, R85, R90). -/
def setReady (s : State) (fn idx : Nat) : State :=
  let k := fnKey fn idx
  let es := fnEnts s fn idx
  let s1 := s.modFn k fun f => { f with
    ready := true, announced := false, everReady := true
    readyAt := if f.everReady then f.readyAt else s.sys.msSince
    late := s.sys.deadlinePassed, suspect := es.any Ent.suspect, clamps := (es.map Ent.clamps).sum }
  if fn = 0x01 then announceAll s1 else announce s1 k

/-- A function leaves service: LOST (R85). -/
def setLost (s : State) (fn idx : Nat) : State :=
  let k := fnKey fn idx
  if (fnAt s k).ready then
    let s1 := s.modFn k fun f => { f with ready := false, announced := false }
    if (fnAt s k).announced then sendFn s1 k 2 else s1
  else s

end Sys2Proof.Machine
end

