-- ==== Sys2Proof/Machine/AlarmEng.lean ====
section
/-! DEFINITION. The alarm engine: raw states, delays, suppression, actions, state changes, folding, restoration, ALARM
messages, and Damask's tables (R312 to R342). -/

namespace Sys2Proof.Machine
open Sys2Proof

/-! Times. A Gauze tick is 1/1 024 ms (R525). -/

/-- Ticks of so many milliseconds. -/
def msTicks (ms : Nat) : Nat := ms * 1024

/-! Operands as this node reads them (R293, R314). -/

/-- The quality a peer's point shows: INTEGRITY while a pair of it fails or reads as poisoned (R70), STALE where it is (R60, R405). -/
def repQuality (r : RepPt) : Pair :=
  if r.hit || !(r.pub.value.ok && r.pub.quality.ok && r.pub.alarm.ok) then Pair.mk0 4 else if r.stale then Pair.mk0 2 else r.pub.quality

/-- The value and quality of ship point p as last published: this node's own, or the replica's, STALE where it is. -/
def operandOf (s : State) (p : Nat) : Option (Pair × Pair) :=
  match tget s.points p, tget s.canvas.replica p with
  | some l, _ => some (if l.hit then unread l.pub.value else l.pub.value, l.pub.quality)
  | none, some r => some (if r.hit then unread r.pub.value else r.pub.value, repQuality r)
  | none, none => none

/-- The value of a usable operand: quality GOOD or UNCERTAIN with a pair that checks (R299, R314). -/
def usableValue (s : State) (p : Nat) : Option Word := match operandOf s p with
  | some (v, q) => if v.ok && q.ok && decide (bits q.v 2 0 ≤ 1) then some v.v else none
  | none => none

/-- The mean of values, summed in order from 0.0 and divided once (R300). -/
def fMeanSeq (ws : List Word) : Word := if ws.isEmpty then fNan else fDiv (ws.foldl fAdd f0) (fOfNat ws.length)

/-! What an evaluation gives the alarm engine. -/

/-- The evaluation of a point as the alarm engine takes it. -/
structure EvalRes where
  /-- Published value. -/
  v : Word
  /-- Quality code. -/
  q : Nat
  /-- The last value is kept (R188, R223). -/
  keep : Bool
  /-- Start instant in Gauze ticks. -/
  tick : Nat
  /-- A due instant. -/
  due : Bool
  deriving DecidableEq, Repr

/-! Raw states (R312 to R315). -/

/-- A raw state from its set and clear tests. -/
def rawNext (old set_ clr : Bool) : Bool := if set_ then true else if clr then false else old

/-- 0.9 as binary32. -/
def f09 : Word := fRat 9 10

/-- The rate of R314 at tick t, none while it cannot be formed. -/
def rateOf (s : State) (p : Nat) (a : AlarmSt) (e : EvalRes) : Option Word :=
  match a.kept.find? fun k => decide (msTicks (cfgLimRocWindow s p).toNat ≤ e.tick - k.1) with
  | some (tk, vk, ok) =>
    if ok && decide (e.q ≤ 1) then some (fDiv (fSub e.v vk) (fRat ((e.tick - tk : Nat) : Int) 1024000)) else none
  | none => none

/-- The test of ROC against a limit (R312). -/
def rocTest (dir : Nat) (rate lim : Word) : Bool := match dir with
  | 0 => fLe lim (fAbs rate)
  | 1 => fLe lim rate
  | _ => fLe rate (fNeg lim)

/-- The values of the deviation group that are usable, in listed order (R315). -/
def devValues (s : State) (p : Nat) : List Word := (cfgLimDevPoints s p).filterMap fun w => usableValue s (bits w 15 0)

/-- The mean is formed: enough of the group are usable (R315). -/
def devEnough (s : State) (p : Nat) : Bool := decide ((cfgLimDevMinCount s p).toNat ≤ (devValues s p).length)

/-- The new raw state of condition n; none where it is held (R312 to R315). -/
def rawOf (s : State) (p : Nat) (a : AlarmSt) (e : EvalRes) (n : Fin 7) : Option Bool :=
  let old := (vat a.conds n).raw
  let db := cfgLimDeadband s p
  if n = 6 then (if e.q = 4 then none else some (decide (e.q = 3)))
  else if e.keep || decide (e.q = 4) || (decide (e.q = 3) && decide (cfgLimLimitsOnBad s p = 0)) then none
  else match n.val with
    | 0 => some (rawNext old (fLe e.v (cfgLimLl s p)) (fLt (fAdd (cfgLimLl s p) db) e.v))
    | 1 => some (rawNext old (fLe e.v (cfgLimL s p)) (fLt (fAdd (cfgLimL s p) db) e.v))
    | 2 => some (rawNext old (fLe (cfgLimH s p) e.v) (fLt e.v (fSub (cfgLimH s p) db)))
    | 3 => some (rawNext old (fLe (cfgLimHh s p) e.v) (fLt e.v (fSub (cfgLimHh s p) db)))
    | 4 => (rateOf s p a e).map fun r =>
        let dir := (cfgLimRocDirection s p).toNat
        rawNext old (rocTest dir r (cfgLimRocLimit s p))
          (!fIsNan r && !rocTest dir r (fSub (cfgLimRocLimit s p) (cfgLimRocDeadband s p)))
    | _ =>
      if devEnough s p then
        let d := fAbs (fSub e.v (fMeanSeq (devValues s p)))
        some (rawNext old (fLe (cfgLimDevLimit s p) d) (fLt d (fMul f09 (cfgLimDevLimit s p))))
      else none

/-! Delays (R317, R320). -/

/-- The on-delay of LL, L, H and HH in effect, in ms (R320). -/
def effOnDelay (s : State) (p : Nat) (a : AlarmSt) : Nat :=
  if a.adaptValid && decide (cfgLimAdaptive s p = 1) then a.effOn.toNat else (cfgLimOnDelay s p).toNat

/-- D_on of condition n in ms (R317). -/
def onDelay (s : State) (p : Nat) (a : AlarmSt) (n : Nat) : Nat :=
  if n ≤ 3 then effOnDelay s p a else if n = 6 then (cfgLimFltOnDelay s p).toNat else (cfgLimOnDelay s p).toNat

/-- D_off of condition n in ms (R317). -/
def offDelay (s : State) (p n : Nat) : Nat := if n = 6 then (cfgLimFltOffDelay s p).toNat else (cfgLimOffDelay s p).toNat

/-- One condition at an evaluation at tick t, the previous one at `last` (R312, R317). -/
def condStep (enabled : Bool) (raw : Option Bool) (dOn dOff t last : Nat) (c : CondTimer) : CondTimer :=
  if !enabled then { c with raw := false, active := false, running := false, run := 0, held := false }
  else match raw with
    | none => { c with held := true }
    | some r =>
      if r = c.active then { c with raw := r, held := false, running := false, run := 0 }
      else
        let run := if c.running && c.raw = r then (if c.held then c.run else c.run + (t - last)) else 0
        if msTicks (if r then dOn else dOff) ≤ run then { c with raw := r, held := false, active := r, running := false, run := 0 }
        else { c with raw := r, held := false, running := true, run := run }

/-- Every condition at an evaluation (R312 to R317). -/
def condsStep (s : State) (p : Nat) (e : EvalRes) (a : AlarmSt) : AlarmSt :=
  let en := cfgLimLimitEnable s p
  { a with
    conds := Vector.ofFn fun n : Fin 7 =>
      condStep (bit en n.val) (rawOf s p a e n) (onDelay s p a n.val) (offDelay s p n.val) e.tick a.lastTick (vat a.conds n)
    devBlocked := bit en 5 && !devEnough s p
    lastTick := e.tick }

/-! Suppression (R321, R322). -/

/-- A suppression source read at operating time o (R321, R322). -/
def suppStep (s : State) (point sense : Word) (release o : Nat) (u : Supp) : Supp :=
  let u := match u.relEnd with
    | some t => if t ≤ o then { u with relEnd := none } else u
    | none => u
  if point = 0xFFFFFFFF then {}
  else match usableValue s (bits point 15 0) with
    | some v =>
      let on := if sense = 0 then !fIsZero v else fIsZero v
      { supp := on, heldAt := none
        relEnd := if on then none else if u.supp then (if release = 0 then none else some (o + release)) else u.relEnd }
    | none =>
      let at0 := u.heldAt.getD o
      if u.supp && decide (at0 + 60000 ≤ o) then
        { supp := false, heldAt := some at0
          relEnd := if at0 + 60000 + release ≤ o then none else some (at0 + 60000 + release) }
      else { u with heldAt := some at0 }

/-- The source hides process conditions: it suppresses, or its release delay runs (R321). -/
def Supp.hides (u : Supp) : Bool := u.supp || u.relEnd.isSome

/-- SUPPRESS_HELD of a source (R322). -/
def Supp.holding (u : Supp) (o : Nat) : Bool := match u.heldAt with
  | some t => decide (o < t + 60000)
  | none => false

/-- Both sources of a point read (R321). -/
def suppressStep (s : State) (p : Nat) (a : AlarmSt) : AlarmSt :=
  let o := (recMs s).toNat
  let g := groupOf s p
  { a with
    own := suppStep s (cfgLimSuppressPoint s p) (cfgLimSuppressSense s p) (cfgLimReleaseDelay s p).toNat o a.own
    grp := suppStep s (cfgGrpSuppressPoint s g) (cfgGrpSuppressSense s g) (cfgGrpReleaseDelay s g).toNat o a.grp }

/-! Events (R324, R341). -/

/-- An event of a point: condition or 0x7F, code, root, RESTORED, and the state word after it. -/
structure AEv where
  /-- Condition 0 to 6, 0x7F point-wide. -/
  cond : Nat
  /-- Event code. -/
  ev : Nat
  /-- Root, for UNFOLD. -/
  root : Word := 0xFFFFFFFF
  /-- RESTORED. -/
  restored : Bool := false
  /-- ALARM_STATE after the event (R341). -/
  after : Word := 0
  deriving DecidableEq, Repr

/-- A point-wide event. -/
def wide (ev : Nat) : AEv := { cond := 0x7F, ev := ev }

/-- Condition n is hidden by an overlay (R323). -/
def hidden (a : AlarmSt) (n : Nat) : Bool := a.oos || a.shelved || (a.suppressed && decide (n < 6))

/-- The conditions passed through f with their numbers. -/
def AlarmSt.mapConds (a : AlarmSt) (f : Nat → CondTimer → CondTimer) : AlarmSt :=
  { a with conds := Vector.ofFn fun n : Fin 7 => f n.val (vat a.conds n) }

/-- The ONSET events of every active condition that an overlay no longer hides, UNACK set on each; `was` tells which
were hidden before (R324). -/
def uncover (was : Nat → Bool) (a : AlarmSt) : AlarmSt × List AEv :=
  let shown (n : Nat) : Bool := was n && !hidden a n
  (a.mapConds fun n c => if shown n && c.active then { c with unack := true } else c,
   ((List.finRange 7).filter fun n => shown n.val && (vat a.conds n).active).map fun n => { cond := n.val, ev := 1 })

/-- One action applied at operating time o (R324, R326). -/
def applyAct (s : State) (p o : Nat) (act : AlarmAct) (a : AlarmSt) : AlarmSt × List AEv := match act with
  | .ack seq =>
    if seqFits seq a.seq then
      let hit (n : Nat) (c : CondTimer) : Bool := c.unack && !hidden a n
      (a.mapConds fun n c => if hit n c then { c with unack := false } else c,
       ((List.finRange 7).filter fun n => hit n.val (vat a.conds n)).map fun n => { cond := n.val, ev := 3 })
    else (a, [])
  | .shelve m =>
    if a.oos || decide (m = 0) || decide ((cfgLimShelveMaxMin s p).toNat < m.toNat) then (a, [])
    else
      ({ a.mapConds (fun _ c => { c with unack := false }) with shelved := true, shelveEnd := o + 60000 * m.toNat }, [wide 4])
  | .unshelve =>
    if a.shelved then
      let b := uncover (fun _ => true) { a with shelved := false, shelveEnd := 0 }
      (b.1, wide 5 :: b.2)
    else (a, [])
  | .oosOn =>
    ({ a with oos := true, shelved := false, shelveEnd := 0
              conds := a.conds.map fun _ => { held := true } }, [wide 6])
  | .oosOff => if a.oos then ({ a with oos := false }, [wide 7]) else (a, [])
  | .adaptRestart => ({ a with estim := [], adaptValid := false, period := fNan }, [])

/-- The value half of ALARM_STATE (R323). -/
def stateWordOf (a : AlarmSt) : Word :=
  let m (f : CondTimer → Bool) : Nat := maskOf 7 fun n => if h : n < 7 then f (vat a.conds ⟨n, h⟩) else false
  flag 31 a.oos ||| flag 30 a.shelved ||| flag 29 a.suppressed |||
    flag 28 ((List.finRange 7).any fun n => (vat a.conds n).active && (vat a.conds n).folded.isSome) |||
    at' 16 (m CondTimer.unack) ||| at' 8 (m CondTimer.active) ||| w32 (m CondTimer.raw)

/-- The events that lead from a hold to another, each with the state word after it: SHELVE, OOS_ON and SUPPRESS leave the
new hold, another point-wide event the new hold before any UNACK is set, an event of a condition that condition's new
UNACK (R324, R341). -/
def trail (pre post : AlarmSt) (es : List AEv) : List AEv :=
  let base := post.mapConds fun n c => { c with unack := if h : n < 7 then (vat pre.conds ⟨n, h⟩).unack else c.unack }
  (es.foldl (fun (acc : AlarmSt × List AEv) e =>
    let cur := if e.ev = 4 ∨ e.ev = 6 ∨ e.ev = 8 then post
      else acc.1.mapConds fun n c =>
        if n = e.cond then { c with unack := if h : n < 7 then (vat post.conds ⟨n, h⟩).unack else c.unack } else c
    (cur, acc.2 ++ [{ e with after := stateWordOf cur }])) (base, [])).2

/-- Actions applied in order (R325). -/
def applyActs (s : State) (p o : Nat) : List HeldAct → AlarmSt → AlarmSt × List AEv
  | [], a => (a, [])
  | h :: t, a =>
    let b := applyAct s p o h.act a
    let c := applyActs s p o t b.1
    (c.1, trail a b.1 b.2 ++ c.2)

/-- The suppression mark follows the sources, with its events (R321, R324). -/
def suppressEvents (a : AlarmSt) : AlarmSt × List AEv :=
  let on := a.own.hides || a.grp.hides
  if on == a.suppressed then (a, [])
  else if on then
    if a.oos || a.shelved then ({ a with suppressed := true }, [])
    else ({ a.mapConds (fun n c => if n < 6 then { c with unack := false } else c) with suppressed := true }, [wide 8])
  else if a.oos || a.shelved then ({ a with suppressed := false }, [])
  else
    let b := uncover (fun n => decide (n < 6)) { a with suppressed := false }
    (b.1, wide 9 :: b.2)

/-- The state changes of the conditions: `old` gives the active states before (R324). -/
def changeEvents (old a : AlarmSt) : AlarmSt × List AEv :=
  let was (n : Fin 7) : Bool := (vat old.conds n).active
  let up_ (n : Fin 7) : Bool := (vat a.conds n).active && !was n && !hidden a n.val
  let down (n : Fin 7) : Bool := !(vat a.conds n).active && was n && !hidden a n.val
  ({ a with conds := Vector.ofFn fun n : Fin 7 =>
      let c := vat a.conds n
      let c := if up_ n then { c with unack := true } else c
      if c.active then c else { c with folded := none } },
   (List.finRange 7).filterMap fun n =>
     if up_ n then some { cond := n.val, ev := 1 } else if down n then some { cond := n.val, ev := 2 } else none)

/-! Restoration (R328) and merging (R406). -/

/-- TRANSITION_SEQ a is newer than b (R327). -/
def tseqNewer (a b : BitVec 16) : Bool :=
  let d := (a.toNat + 65535 - b.toNat % 65535) % 65535
  decide (1 ≤ d ∧ d ≤ 32767)

/-- The alarm engine's hold taken from the replica's state word at a first evaluation. A point marked NOT_READY keeps the FLT
raised then, and a newer TRANSITION_SEQ of its own (R88, R90, R328). -/
def restoreFrom (s : State) (p : Nat) (r : RepPt) (a : AlarmSt) : AlarmSt × List AEv :=
  let w := r.pub.alarm.v
  let oos := bit w 31
  let sh := bit w 30 && !oos
  let marked := (vat a.conds 6).active
  let b : AlarmSt := { a with
    oos := oos, shelved := sh, seq := if marked && tseqNewer a.seq r.seq then a.seq else r.seq
    shelveEnd := if sh then (recMs s).toNat + min (Config.restoredShelve p) (60000 * (cfgLimShelveMaxMin s p).toNat) else 0
    conds := Vector.ofFn fun n : Fin 7 =>
      if oos then {} else if marked && decide (n = 6) then { vat a.conds n with unack := !sh && (vat a.conds n).unack }
      else { active := bit w (8 + n.val), unack := bit w (16 + n.val) } }
  (b, if bits w 31 29 ≠ 0 ∨ bits w 22 16 ≠ 0 ∨ bits w 14 8 ≠ 0 then [{ wide 0x0B with restored := true, after := stateWordOf b }] else [])

/-- A duty holder's state merged into this node's (R406). -/
def mergeFrom (s : State) (p : Nat) (m : Pair × BitVec 16) (a : AlarmSt) : AlarmSt × List AEv :=
  let w := m.1.v
  let oos := a.oos || bit w 31
  let sh := !oos && (a.shelved || bit w 30)
  let other := (recMs s).toNat + min (Config.restoredShelve p) (60000 * (cfgLimShelveMaxMin s p).toNat)
  let b : AlarmSt := { a with
    oos := oos, shelved := sh
    shelveEnd := if !sh then 0 else if a.shelved && bit w 30 then min a.shelveEnd other else if a.shelved then a.shelveEnd else other
    seq := if tseqNewer m.2 a.seq then m.2 else a.seq }
  let m := b.mapConds fun n c => { c with
    unack := !oos && !sh && !(b.suppressed && decide (n < 6)) && (c.unack || bit w (16 + n)) }
  (m, [{ wide 0x0B with after := stateWordOf m }])

/-! Damask (R335 to R339). -/

/-- A point as a root: its onset, label where SYNCED, conditions and whether it is stale. -/
structure RootView where
  /-- Ship point. -/
  point : Nat
  /-- Subject. -/
  subject : Word
  /-- Group. -/
  group : Nat
  /-- Operating time of its latest onset instant, or of the arrival of its ALARM. -/
  onset : Option Nat
  /-- Label of that onset where SYNCED. -/
  wall : Option (BitVec 64)
  /-- Its conditions. -/
  conds : List CondView
  /-- STALE. -/
  stale : Bool
  deriving DecidableEq, Repr

/-- Ship point p as a root. -/
def rootView (s : State) (p : Nat) : Option RootView :=
  match tget s.points p, tget s.canvas.replica p with
  | some l, _ => some { point := p, subject := pointSubject s p, group := groupOf s p, onset := l.alarm.onset
                        wall := l.alarm.onsetWall, conds := localConds s p l, stale := false }
  | none, some r => some { point := p, subject := subjectWord 0 r.holder.toNat p, group := r.group.toNat, onset := r.onset
                           wall := r.onsetWall, conds := replicaConds p r, stale := r.stale }
  | none, none => none

/-- A group is in the scope of group g: itself, or one of its ROOT_GROUPS (R335). -/
def inScope (s : State) (g h : Nat) : Bool := decide (h = g) || (cfgGrpRootGroups s g).any fun w => decide (bits w 7 0 = h)

/-- One instant comes before another within a window of ms; equal instants by ship point number (R335). -/
def instBefore (ra : Nat) (wa : Option (BitVec 64)) (pa rb : Nat) (wb : Option (BitVec 64)) (pb win : Nat) : Bool :=
  match wa, wb with
  | some x, some y =>
    let a := (x.extractLsb' 32 32).toNat * 32768 + (x.extractLsb' 0 15).toNat
    let b := (y.extractLsb' 32 32).toNat * 32768 + (y.extractLsb' 0 15).toNat
    (decide (a < b) || (decide (a = b) && decide (pa < pb))) && decide ((b - a) * 1000 ≤ win * 32768)
  | _, _ => (decide (ra < rb) || (decide (ra = rb) && decide (pa < pb))) && decide (rb - ra ≤ win)

/-- Hits among the observations of a link (R336). -/
def RootLink.hits (l : RootLink) : Nat := ((List.range l.obs).filter fun i => l.history.getLsbD i).length

/-- A link is qualified: 20 observations and a score of 0.8 (R336). -/
def RootLink.qualified (l : RootLink) : Bool := decide (20 ≤ l.obs) && decide (4 * l.obs ≤ 5 * l.hits)

/-- The links of a point that folding uses, with their windows in ms (R337). -/
def linksOf (s : State) (p : Nat) (l : LocalPt) : List (Nat × Nat) :=
  let mode := (cfgGrpDamaskMode s (groupOf s p)).toNat
  let cfg := (cfgLimFoldUnder s p).map fun w => (bits w 15 0, (cfgLimFoldWindow s p).toNat)
  let learned := if l.byDuty then [] else
    (l.alarm.roots.filter RootLink.qualified).map fun r => (r.root.toNat, 5000)
  match mode with
  | 0 => []
  | 3 => cfg
  | _ => cfg ++ learned

/-- The root has a condition in ACT_UNACK or ACT_ACK and is not STALE (R338, R339). -/
def RootView.stands (r : RootView) : Bool := !r.stale && r.conds.any fun c => decide (c.st = 1 ∨ c.st = 2)

/-- The highest priority among the root's active conditions. -/
def RootView.topPrio (r : RootView) : Nat :=
  ((r.conds.filter fun c => decide (c.st = 1 ∨ c.st = 2)).map CondView.prio).foldl max 0

/-- The root under which an onset of condition n at a moment is folded (R338). -/
def foldRootOf (s : State) (p : Nat) (l : LocalPt) (n : Nat) (t : Stamp) : Option RootView :=
  if 6 ≤ n ∨ cfgLimNeverFold s p ≠ 0 then none
  else
    let wall := if t.q = 2 then some t.wall else none
    let rs := (linksOf s p l).filterMap fun k =>
      if k.1 = p then none
      else match rootView s k.1 with
        | some r =>
          match r.onset with
          | some o =>
            if inScope s (groupOf s p) r.group && r.stands && decide (condPrio s p n ≤ r.topPrio) &&
                instBefore o r.wall r.point t.ms.toNat wall p k.2 then some (o, r) else none
          | none => none
        | none => none
    match rs with
    | [] => none
    | x :: xs => some (xs.foldl (fun m y => if instBefore y.1 y.2.wall y.2.point m.1 m.2.wall m.2.point (2 ^ 48) then y else m) x).2

/-- The link that a new root displaces from a full table: fewest observations, lowest score, earliest entered (R336). -/
def weakest (ls : List RootLink) : Option RootLink := match ls with
  | [] => none
  | x :: xs => some (xs.foldl (fun m y =>
      if y.obs < m.obs ∨ (y.obs = m.obs ∧ (y.hits * m.obs < m.hits * y.obs ∨
        (y.hits * m.obs = m.hits * y.obs ∧ y.entered < m.entered))) then y else m) x)

/-- A root enters the table with one observation, a hit (R336). -/
def enterRoot (ls : List RootLink) (root : BitVec 16) : List RootLink :=
  let e := (ls.map RootLink.entered).foldl max 0 + 1
  let new : RootLink := { root := root, obs := 1, history := 1, entered := e }
  if ls.any fun l => l.root == root then ls
  else if ls.length < 16 then ls ++ [new]
  else match weakest ls with
    | some w => (ls.filter fun l => l.root != w.root) ++ [new]
    | none => ls ++ [new]

/-- Every ship point this node knows. -/
def knownPoints (s : State) : List Nat :=
  s.points.map Prod.fst ++ ((s.canvas.replica.filter fun e => (tget s.points e.1).isNone).map Prod.fst)

/-- Learning runs for the table of point p (R336, R337). -/
def learns (s : State) (p : Nat) (l : LocalPt) : Bool :=
  decide (cfgGrpDamaskMode s (groupOf s p) = 1) && !l.byDuty

/-- The onsets of a link's root that an onset of its point p at a moment follows within 5 s are hits (R335, R336). -/
def RootLink.mark (p t : Nat) (wall : Option (BitVec 64)) (l : RootLink) : RootLink :=
  { l with waits := l.waits.map fun w =>
      { w with hit := w.hit || instBefore w.at_ w.wall l.root.toNat t wall p 5000 } }

/-- An onset of a link's root is owed an observation, once; it is a hit already where the onset of point p that the node
holds follows it within 5 s (R335, R336). -/
def RootLink.owe (p : Nat) (c : AlarmSt) (o : Nat) (wall : Option (BitVec 64)) (l : RootLink) : RootLink :=
  if l.waits.any fun w => w.at_ == o && w.wall == wall then l
  else { l with waits := l.waits ++ [{ at_ := o, wall := wall, hit := match c.onset with
    | some t => instBefore o wall l.root.toNat t c.onsetWall p 5000
    | none => false }] }

/-- An onset of ship point r, for every table that has r as a candidate (R336). -/
def oweObservations (r o : Nat) (wall : Option (BitVec 64)) (s : State) : State :=
  { s with points := tmap s.points fun p l =>
      if learns s p l then
        { l with alarm := { l.alarm with roots := l.alarm.roots.map fun x =>
            if x.root.toNat = r then x.owe p l.alarm o wall else x } }
      else l }

/-- What an onset of point p at a moment teaches its table (R336). -/
def learnOnset (s : State) (p : Nat) (l : LocalPt) (t : Stamp) : List RootLink :=
  let g := groupOf s p
  if learns s p l = false then l.alarm.roots
  else
    let wall := if t.q = 2 then some t.wall else none
    ((knownPoints s).filter fun q => decide (q ≠ p)).foldl (fun ls q =>
      match rootView s q with
      | some r =>
        match r.onset with
        | some o =>
          if inScope s g r.group && instBefore o r.wall q t.ms.toNat wall p 5000 then enterRoot ls (BitVec.ofNat 16 q) else ls
        | none => ls
      | none => ls) (l.alarm.roots.map (RootLink.mark p t.ms.toNat wall))

/-! ALARM messages of a point (R341). -/

/-- Limit pair j in use: LL, L, H, HH, DEADBAND, ROC_LIMIT, DEV_LIMIT (R344, R346). -/
def limitInUse (s : State) (p j : Nat) : Pair := match j with
  | 0 => cfgPairOf s 8 p 0x02 (cfgLimLl s p)
  | 1 => cfgPairOf s 8 p 0x03 (cfgLimL s p)
  | 2 => cfgPairOf s 8 p 0x04 (cfgLimH s p)
  | 3 => cfgPairOf s 8 p 0x05 (cfgLimHh s p)
  | 4 => cfgPairOf s 8 p 0x06 (cfgLimDeadband s p)
  | 5 => cfgPairOf s 8 p 0x0B (cfgLimRocLimit s p)
  | _ => cfgPairOf s 8 p 0x10 (cfgLimDevLimit s p)

/-- The limit of condition n as its pair, both halves as the field holds them (R50, R341). -/
def limitPair (s : State) (p n : Nat) : Pair := match n with
  | 4 => limitInUse s p 5
  | 5 => limitInUse s p 6
  | _ => if n < 4 then limitInUse s p n else nanPair

/-- STATE of an event (R323, R341). -/
def evState (e : AEv) : Nat :=
  if e.cond = 0x7F then
    match e.ev with
    | 4 => 4
    | 8 => 5
    | 6 => 6
    | 0x0B => if bit e.after 31 then 6 else if bit e.after 30 then 4 else if bit e.after 29 then 5 else 0
    | _ => 0
  else condCode e.after e.cond

/-- The 22 words of the ALARM of an event of point p (R329, R341). -/
def pointAlarmWords (s : State) (p : Nat) (l : LocalPt) (e : AEv) (first : Bool) (t : Stamp) : List Word :=
  let a := l.alarm
  let fold : Option Word := if h : e.cond < 7 then (vat a.conds ⟨e.cond, h⟩).folded else none
  let prio := if e.cond = 0x7F then Config.widePriority.toNat else condPrio s p e.cond
  let st := evState e
  let ann := (decide (e.ev = 1) || (decide (e.ev = 0x0A) && decide (st = 1))) && decide (1 ≤ prio) && fold.isNone &&
    decide (st < 4)
  let w0 := pointSubject s p
  let w1 := at' 24 e.cond ||| at' 16 e.ev ||| at' 8 (groupOf s p) ||| at' 4 prio ||| w32 st
  let cause := if bits l.pub.quality.v 2 0 = 3 then bits l.pub.quality.v 23 16 else 0
  let w4 := at' 16 a.seq.toNat ||| flag 15 ann ||| flag 14 fold.isSome ||| flag 13 first ||| flag 12 e.restored |||
    flag 11 (decide (e.ev = 1 ∧ e.cond ≤ 3) && a.adaptValid && decide (cfgLimAdaptive s p = 1)) ||| w32 cause
  [w0, w1, ~~~w0, ~~~w1, w4, ~~~w4] ++ pws (Pair.mk0 e.after) ++ pws l.pub.value ++ pws l.pub.quality ++ pws (limitPair s p e.cond) ++
    [at' 8 t.cycle.toNat, w32 (t.ms.toNat / 2 ^ 32), w32 t.ms.toNat, t.wall.extractLsb' 32 32, t.wall.extractLsb' 0 32,
     t.q.setWidth 32, fold.getD e.root, if e.ev = 1 then w32 (onDelay s p a e.cond) else 0]

/-- The onset is this node's local first-out of its group (R331). -/
def firstLocal (s : State) (p : Nat) (e : AEv) : Bool :=
  let g := groupOf s p
  decide (e.ev = 1) && decide (cfgGrpFirstOut s g = 1) && decide (1 ≤ condPrio s p e.cond) &&
    !(groupAt s g).localTaken

/-- A group configured on this node that is not READY: its objects read their reset values (R83, R86). -/
def groupShut (s : State) (g : Nat) : Bool :=
  !fnReady s 0x05 g && s.points.any fun e => !e.2.byDuty && decide (groupOf s e.1 = g)

/-- The ALARMs of point p are kept: it is this node's own and its group is not READY (R86, R89). -/
def alarmKept (s : State) (p : Nat) : Bool :=
  groupShut s (groupOf s p) && match tget s.points p with
    | some l => !l.byDuty
    | none => false

/-- Point p enters ACT_UNACK: every channel whose TRIGGER_POINT it is has a capture to trigger (R214). -/
def noteTrigger (s : State) (p : Nat) : State :=
  { s with vib := { s.vib with ch := Vector.ofFn fun n : Fin 16 =>
      let hit := cfgHas s 17 (n.val * 65536) && decide ((cfgCapTriggerPoint s n.val).toNat = p)
      { vat s.vib.ch n with trigDue := hit || (vat s.vib.ch n).trigDue } } }

/-- An event of a condition is its entry into ACT_UNACK (R214, R323). -/
def entersUnack (e : AEv) : Bool := decide (e.ev = 1) && decide (e.cond < 7) && decide (evState e = 1)

/-- One event's ALARM: TRANSITION_SEQ advances, the state is that after the event, the first-out is noted, the message
leaves, or waits for its group where it is `kept` (R86, R327, R331, R341). -/
def emitAlarm (p : Nat) (t : Stamp) (kept : Bool) (s : State) (e : AEv) : State :=
  let s0 := if entersUnack e then noteTrigger s p else s
  let s1 := s0.modPoint p fun l => { l with alarm := { l.alarm with
    seq := nextTseq l.alarm.seq, stateWord := Pair.mk0 e.after } }
  match tget s1.points p with
  | none => s1
  | some l =>
    let first := firstLocal s1 p e
    let s2 := if first then s1.modGroup (groupOf s p) fun g => { g with localTaken := true } else s1
    let ws := pointAlarmWords s2 p l e first (if e.ev = 1 ∨ e.ev = 2 then t else stampNow s)
    if kept then { s2 with alarms := { s2.alarms with waiting := s2.alarms.waiting ++ [(BitVec.ofNat 8 (groupOf s p), ws)] } }
    else sendAlarm s2 ws

/-- The ALARMs of a point's events in order, after which the point holds its final state (R325, R342). -/
def emitAlarms (p : Nat) (t : Stamp) (kept : Bool) (es : List AEv) (s : State) : State :=
  match tget s.points p with
  | none => s
  | some l => (es.foldl (emitAlarm p t kept) s).modPoint p fun k => { k with alarm := { k.alarm with stateWord := l.alarm.stateWord } }

/-- Point-wide events first, then conditions in ascending code (R325). -/
def orderEvents (es : List AEv) : List AEv :=
  es.filter (fun e => decide (e.cond = 0x7F)) ++
    (List.range 7).flatMap fun n => es.filter fun e => decide (e.cond = n)

/-- At least one active condition of a state word is folded (R323). -/
def foldedIn (w : Word) (a : AlarmSt) : Bool :=
  (List.finRange 7).any fun n => bit w (8 + n.val) && (vat a.conds n).folded.isSome

/-- The onset of process condition n of point p at a moment folded, or not, as R338 has it. -/
def foldOnset (s : State) (p : Nat) (t : Stamp) (n : Nat) (l : LocalPt) : LocalPt :=
  let root := (foldRootOf s p l n t).map RootView.subject
  let a := l.alarm.mapConds fun k c => if k = n then { c with folded := root } else c
  { l with alarm := { a with foldRoot := root.getD a.foldRoot } }

/-- The onsets of process conditions folded where R338 has it, and the events with FOLDED in their state words (R323). -/
def foldOnsets (s : State) (p : Nat) (t : Stamp) : List AEv → LocalPt → LocalPt × List AEv
  | [], l => (l, [])
  | e :: es, l =>
    let l1 := if e.ev = 1 ∧ e.cond < 6 then foldOnset s p t e.cond l else l
    let r := foldOnsets s p t es l1
    (r.1, { e with after := (e.after &&& 0xEFFFFFFF) ||| flag 28 (foldedIn e.after l1.alarm) } :: r.2)

/-- Folded conditions whose root no longer stands are unfolded (R339). -/
def unfoldStep (s : State) (p : Nat) (a : AlarmSt) : AlarmSt × List AEv :=
  let off := decide (cfgGrpDamaskMode s (groupOf s p) = 0)
  let gone (c : CondTimer) : Bool := match c.folded with
    | none => false
    | some r => off || match rootView s (bits r 15 0) with
      | some v => !v.stands
      | none => true
  let upTo (n : Nat) : AlarmSt := a.mapConds fun k c => if decide (k ≤ n) && gone c then { c with folded := none } else c
  (upTo 6,
   (List.finRange 7).filterMap fun n =>
     let c := vat a.conds n
     if gone c && c.active then
       some { cond := n.val, ev := 0x0A, root := c.folded.getD 0xFFFFFFFF, after := stateWordOf (upTo n.val) } else none)

/-- At least one process condition is active (R335). -/
def anyProcess (a : AlarmSt) : Bool := (List.finRange 6).any fun n => (vat a.conds (n.castSucc)).active

/-- The due instants kept, the newest first, at most 65 (R314). -/
def keepInstant (e : EvalRes) (a : AlarmSt) : AlarmSt :=
  if e.due then { a with kept := ((e.tick, e.v, decide (e.q ≤ 1)) :: a.kept).take 65 } else a

/-- Period of a class in ticks: FAST 10 ms, STANDARD 100 ms, SLOW 1 000 ms (R292). -/
def classTicks (cls : Nat) : Nat := match cls with
  | 0 => 10240
  | 1 => 102400
  | _ => 1024000

/-- Ts of the estimator in ms: 500, for SLOW points 1 000 (R319). -/
def estTs (cls : Nat) : Nat := if cls = 2 then 1000 else 500

/-- Samples in the estimator's window (R319). -/
def estN (cls : Nat) : Nat := 600000 / estTs cls

/-- The estimator's sample of this due instant, an unusable value replaced by the last usable one (R319). -/
def estimStep (s : State) (p : Nat) (e : EvalRes) (a : AlarmSt) : AlarmSt :=
  let cls := (cfgPtClass s p).toNat
  let per := classTicks cls
  if e.due && decide (cfgLimAdaptive s p = 1) && decide ((e.tick / per) % (msTicks (estTs cls) / per) = 0) then
    let ok := decide (e.q ≤ 1)
    let v := if ok then e.v else a.estUsed
    { a with estim := ((v, ok) :: a.estim).take (estN cls), estUsed := v }
  else a

/-- The alarm rules of one evaluation that is no integrity failure, after the actions: the new hold of the point and its
events (R325). A condition that clears as its suppression ends leaves SUPPRESSED without a RETURN (R324). `skip` where
OOS_OFF was applied in it, whose conditions are computed from the next evaluation (log entry 49). -/
def alarmStep (s : State) (p : Nat) (e : EvalRes) (skip : Bool) (a : AlarmSt) : AlarmSt × List AEv :=
  let a1 := suppressStep s p a
  let a2 := if a1.oos || skip then { a1 with lastTick := e.tick } else condsStep s p e a1
  let b := suppressEvents a2
  let old := { a with suppressed := b.1.suppressed }
  let c := changeEvents old b.1
  let seen := (b.2.filter fun x => decide (x.ev = 1)).map AEv.cond
  let ended := a.suppressed && !b.1.suppressed
  let drop (x : AEv) : Bool := if x.ev = 1 then seen.contains x.cond else ended && decide (x.cond < 6)
  (estimStep s p e (keepInstant e c.1), trail a2 b.1 b.2 ++ trail b.1 c.1 (c.2.filter fun x => !drop x))

/-- A merge that waits in the replica for this point (R406). -/
def pendingMergeOf (s : State) (p : Nat) : Option (Pair × BitVec 16) := (tget s.canvas.replica p).bind RepPt.pendingMerge

/-- An event of a restored or merged hold, with the raw states found now (R328). -/
def withRaw (a : AlarmSt) (e : AEv) : AEv := { e with after := (e.after &&& 0xFFFFFF80) ||| (stateWordOf a &&& 0x7F) }

/-- The whole of R325 for point p after its publication: `first` at its first evaluation, `fail` where the evaluation is
an integrity failure. The new state pair is published with the value; the ALARMs follow, those of a first evaluation before
the group's READY (R86, R89, R325 to R331). -/
def alarmEval (s : State) (p : Nat) (e : EvalRes) (first fail : Bool) : State :=
  match tget s.points p with
  | none => s
  | some l =>
    if fail then
      let r0 := match if first then tget s.canvas.replica p else none with
        | some r => restoreFrom s p r l.alarm
        | none => (l.alarm, [])
      let a0 : AlarmSt := { r0.1 with conds := r0.1.conds.map fun c => { c with held := true }, lastTick := e.tick }
      let a := estimStep s p e (keepInstant e a0)
      let s1 := s.modPoint p fun l => { l with alarm := { a with stateWord := Pair.mk0 (stateWordOf a) } }
      emitAlarms p (stampOf l.pub) (!first && alarmKept s p) (r0.2.map (withRaw a)) s1
    else
      let t := stampOf l.pub
      let o := (recMs s).toNat
      let r0 := match if first then tget s.canvas.replica p else none with
        | some r => restoreFrom s p r l.alarm
        | none => (l.alarm, [])
      let r1 := match pendingMergeOf s p with
        | some m => let x := mergeFrom s p m r0.1; (x.1, r0.2 ++ x.2)
        | none => r0
      let acts := r1.1.held
      let r2 := applyActs s p o acts { r1.1 with held := [] }
      let skip := acts.any fun h => h.act == .oosOff
      let r3 := alarmStep s p e skip r2.1
      let es := r1.2.map (withRaw r3.1) ++ r2.2 ++ r3.2
      let onset := !anyProcess r1.1 && anyProcess r3.1 && !r3.1.oos
      let wall := if t.q = 2 then some t.wall else none
      let a4 : AlarmSt := if onset then { r3.1 with onset := some t.ms.toNat, onsetWall := wall } else r3.1
      let a5 : AlarmSt := if onset then { a4 with roots := learnOnset s p { l with alarm := a4 } t } else a4
      let l6 := foldOnsets s p t es { l with alarm := a5 }
      let r7 := unfoldStep s p l6.1.alarm
      let a8 := { r7.1 with stateWord := Pair.mk0 (stateWordOf r7.1) }
      let s0 := s.modPoint p fun k => { k with alarm := a8 }
      let s1 := if onset then oweObservations p t.ms.toNat wall s0 else s0
      let s2 := { s1 with canvas := { s1.canvas with replica := tmod s1.canvas.replica p fun r =>
        if r.pendingMerge.isSome then { r with pendingMerge := none, merged := true } else r } }
      let s3 := s2.modGroup (groupOf s p) fun g => { g with supp := a8.grp }
      refreshGroup (emitAlarms p t (!first && alarmKept s p) (orderEvents (l6.2 ++ r7.2)) s3) (groupOf s p)

/-! Alarm state changed without an evaluation. -/

/-- Events of a change made between evaluations: the state pair published anew, the ALARMs sent (R324, R341). -/
def publishAlarm (s : State) (p : Nat) (r : AlarmSt × List AEv) : State :=
  let a := { r.1 with stateWord := Pair.mk0 (stateWordOf r.1) }
  let s1 := s.modPoint p fun l => { l with alarm := a }
  match tget s1.points p with
  | none => s1
  | some l =>
    let l1 := foldOnsets s1 p (stampNow s) r.2 l
    let s2 := s1.modPoint p fun _ =>
      { l1.1 with alarm := { l1.1.alarm with stateWord := Pair.mk0 (stateWordOf l1.1.alarm) } }
    refreshGroup (emitAlarms p (stampNow s) (alarmKept s p) (orderEvents l1.2) s2) (groupOf s p)

/-- SHELVE_EXPIRY (R324). -/
def execShelveExpiry (p : BitVec 16) (s : State) : Host.Outcome State Fault Refusal :=
  match tget s.points p.toNat with
  | none => .next s
  | some l =>
    doIf (up s && l.alarm.shelved && decide (l.alarm.shelveEnd ≤ (recMs s).toNat)) s
      (publishAlarm s p.toNat (applyActs s p.toNat (recMs s).toNat [{ act := .unshelve, at_ := now s }] l.alarm))

/-- HELD_ACTION_DISCARD: actions held for 10 s (R325). -/
def execHeldActionDiscard (p : BitVec 16) (s : State) : Host.Outcome State Fault Refusal :=
  doIf (up s) s (s.modPoint p.toNat fun l => { l with alarm := { l.alarm with
    held := l.alarm.held.filter fun h => decide (now s < h.at_ + 10000) } })

/-! The roll-period estimator (R319, R320). -/

/-- The sum of products of a list with itself shifted by k, in ascending order (R319). -/
def lagSum (xs : List Word) (k : Nat) : Word := ((xs.zip (xs.drop k)).map fun e => fMul e.1 e.2).foldl fAdd f0

/-- T and its validity from a window given oldest first, with Ts in ms (R319). -/
def estimate (ts : Nat) (w : List (Word × Bool)) (n : Nat) : Option Word :=
  let vs := w.map Prod.fst
  let mean := fMeanSeq vs
  let xs := vs.map fun v => fSub v mean
  let q := lagSum xs 0
  let r (k : Nat) : Word := fDiv (lagSum xs k) q
  let lo := 2000 / ts
  let hi := 30000 / ts
  let half := fRat 1 2
  let usable := (w.filter Prod.snd).length
  if w.length < n ∨ usable * 10 < n * 9 ∨ fLt f0 q = false then none
  else match ((List.range (hi + 1 - lo)).map (· + lo)).find? fun k =>
      fLt (r (k - 1)) (r k) && fLe (r (k + 1)) (r k) && fLe half (r k) with
    | none => none
    | some k =>
      let two := fOfNat 2
      let den := fMul two (fAdd (fSub (r (k - 1)) (fMul two (r k))) (r (k + 1)))
      some (fMul (fRat ts 1000) (fAdd (fOfNat k) (fDiv (fSub (r (k - 1)) (r (k + 1))) den)))

/-- The effective on-delay in ms from T (R320). -/
def effFrom (s : State) (p : Nat) (t : Word) : Word :=
  let ms := fMul (fMul (cfgLimAdaptFactor s p) t) (fOfNat 1000)
  w32 (fToInt (fClamp (fOfNat (cfgLimAdaptMin s p).toNat) (fOfNat (cfgLimAdaptMax s p).toNat) ms)).toNat

/-- The CAN controller whose mapped-receive entry feeds point p (R287, R296). -/
def feederOf (s : State) (p : Nat) : Option Nat :=
  ((cfgKeys s 12).find? fun k => decide (k % 65536 ≠ 0) && decide ((cfgMapTargetPoint s (k / 65536) (k % 65536)).toNat = p)).map
    (· / 65536)

/-- The task evaluates point p: the point's own, or the CAN_DUTY task that publishes it (R379). -/
def isPointTask (s : State) (p : Nat) (t : Task) : Bool :=
  ((t.kind == .point || t.kind == .dutyPoint) && decide (t.subject.toNat = p)) ||
    (t.kind == .canDuty && decide (feederOf s p = some t.subject.toNat))

/-- The engine that runs a point's task. -/
def pointEngine (s : State) (p : Nat) : Option (Fin 16) :=
  (s.canvas.tasks.find? fun t => isPointTask s p t.2).bind fun t => t.2.primary

/-- Engine event v counted for the engine of point p (R545). -/
def engineCount (s : State) (p v : Nat) : State := match pointEngine s p with
  | some e => perfAdd s (e.val * 256 + v) 1
  | none => s

/-- The two paths of a point's task disagree: counted, recorded, INTEGRITY raised, a third run owed (R52, R58, R65). -/
def pathsDisagree (s : State) (p : Nat) (ps : List Pair) : State :=
  let eng := ((pointEngine s p).map Fin.val).getD 0xFF
  let s1 := { s with alarms := { s.alarms with integritySubject := pointSubject s p } }
  let s2 := s1.mapTasks fun t => if isPointTask s1 p t && t.owed.isNone then { t with owed := some .paths } else t
  sysRaise (stage0 (engineCount s2 p 8) (pairRec s2 1 eng (pointSubject s p) ps)) 0x06

/-- ADAPT_ESTIMATE; `bUpset` bits flipped in path B's T (R319, R320). -/
def execAdaptEstimate (p : BitVec 16) (bUpset : Word) (s : State) : Host.Outcome State Fault Refusal :=
  match tget s.points p.toNat with
  | none => .next s
  | some l =>
    let cls := (cfgPtClass s p.toNat).toNat
    let t := estimate (estTs cls) l.alarm.estim.reverse (estN cls)
    doIf (up s && decide (cfgLimAdaptive s p.toNat = 1)) s
      (if bUpset ≠ 0 then pathsDisagree s p.toNat [pairUpset (t.getD fNan) bUpset]
       else s.modPoint p.toNat fun k => { k with alarm := { k.alarm with
         period := t.getD fNan, adaptValid := t.isSome
         effOn := match t with
           | some x => effFrom s p.toNat x
           | none => cfgLimOnDelay s p.toNat } })

/-! SYSTEM conditions and groups as commands. -/

/-- SYS_ACK (R333, R349). -/
def execSysAck (r : Req) (code : BitVec 8) (seq : BitVec 16) (s : State) : Host.Outcome State Fault Refusal :=
  if h : code.toNat < 64 then doIf (may s r 1) s (ackSys s ⟨code.toNat, h⟩ seq) else .next s

/-- ACK_ALL applied: every point of the group that this node evaluates (R349). -/
def ackAllOf (s : State) (g : Nat) : State :=
  (s.points.filter fun e => decide (groupOf s e.1 = g)).foldl (fun t e => queueAct t e.1 (.ack 0xFFFF)) s

/-- ACK_ALL (R349). -/
def execAckAll (r : Req) (g : BitVec 8) (s : State) : Host.Outcome State Fault Refusal :=
  doIf (may s r 1 && !groupShut s g.toNat) s (ackAllOf s g.toNat)

/-- The Damask tables of the group's points emptied (R349). -/
def clearDamask (s : State) (g : Nat) : State :=
  { s with points := tmap s.points fun p l =>
      if groupOf s p = g then { l with alarm := { l.alarm with roots := [] } } else l }

/-- DAMASK_CLEAR (R349). -/
def execDamaskClear (r : Req) (g : BitVec 8) (s : State) : Host.Outcome State Fault Refusal :=
  doIf (may s r 3 && !groupShut s g.toNat) s (clearDamask s g.toNat)

/-- SYSTEM_CONDITION_CHANGE: the cause comes or goes (R332 to R334). -/
def execSystemConditionChange (code : Fin 64) (on : Bool) (s : State) : Host.Outcome State Fault Refusal :=
  doIf (up s) s (if on then sysRaise s code else sysClear s code)

/-- The conditions that clear after 60 s without a further event (R332, R421, R460, R485, R517, R542). -/
def timedConds : List Nat := [0x06, 0x07, 0x09, 0x0A, 0x0B, 0x23, 0x26, 0x30, 0x33, 0x34, 0x37, 0x38, 0x3A, 0x3F]

/-- A condition whose clearing also waits for its cause to be gone. -/
def causeGone (s : State) (k : Nat) : Bool :=
  if k = 0x09 then s.quads.toList.all fun q => q.st != .failed else true

/-- Every port with a PORT_MODE other than 0 has been UP for 10 s (R460). -/
def linksUp (s : State) : Bool :=
  s.ring.ports.toList.all fun p => decide (p.mode = 0) || (p.st == .up && decide (p.upAt + 10000 ≤ now s))

/-- The time for SYSTEM condition k to clear has run out: 10 s for LINK_DOWN, 60 s without a further event for those of
`timedConds` (R332, R460). -/
def clearDue (s : State) (k : Fin 64) : Bool :=
  if k.val = 0x2A then linksUp s
  else timedConds.contains k.val && causeGone s k.val && decide ((vat s.alarms.sysc k).lastEvent + 60000 ≤ now s)

/-- SYSTEM condition k cleared by time; with POINT_CONFLICT every CONFLICT of NODE_DUTY ends (R332, R407, R425). -/
def clearTimed (s : State) (k : Fin 64) : State :=
  sysClear (if k.val = 0x26 then
    { s with canvas := { s.canvas with peers := s.canvas.peers.map fun e => (e.1, { e.2 with conflict := false }) } } else s) k

/-- SYSTEM_CONDITION_CLEAR_TIMER (R332, R460). -/
def execSystemConditionClearTimer (code : Fin 64) (s : State) : Host.Outcome State Fault Refusal :=
  doIf (up s && clearDue s code) s (clearTimed s code)

/-! Damask as commands. -/

/-- The observation that the oldest onset of a link's root is owed, 5 s after it (R336). -/
def RootLink.observe (t : Nat) (l : RootLink) : RootLink := match l.waits with
  | [] => l
  | w :: r =>
    if w.at_ + 5000 ≤ t then
      { l with obs := min 64 (l.obs + 1), history := (l.history <<< 1) ||| (if w.hit then 1 else 0), waits := r }
    else l

/-- DAMASK_OBSERVATION: 5 s after an onset of candidate `root` of point p (R336, R337). -/
def execDamaskObservation (p root : BitVec 16) (s : State) : Host.Outcome State Fault Refusal :=
  match tget s.points p.toNat with
  | some l =>
    doIf (up s && learns s p.toNat l) s
      (s.modPoint p.toNat fun k => { k with alarm := { k.alarm with
        roots := k.alarm.roots.map fun x => if x.root = root then x.observe (recMs s).toNat else x } })
  | none => .next s

/-- The checkpoint records of one point (R336, R490). -/
def damaskRecs (s : State) (p : Nat) (l : LocalPt) : List Rec :=
  let n := l.alarm.roots.length
  l.alarm.roots.zipIdx.map fun e =>
    mkRec s .d 0x4B (pointSubject s p) (at' 16 s.alarms.checkpointNo.toNat ||| at' 8 e.2 ||| w32 n)
      [e.1.root.setWidth 32, w32 e.1.obs, e.1.history.extractLsb' 32 32, e.1.history.extractLsb' 0 32]

/-- Every table written as one checkpoint (R336). -/
def checkpointDamask (s : State) : State :=
  let rs := (s.points.filter fun e => !e.2.byDuty).flatMap fun e => damaskRecs s e.1 e.2
  let t := rs.foldl stage s
  { t with alarms := { t.alarms with checkpointNo := t.alarms.checkpointNo + 1 } }

/-- DAMASK_CHECKPOINT (R336). -/
def execDamaskCheckpoint (s : State) : Host.Outcome State Fault Refusal := doIf (up s) s (checkpointDamask s)

end Sys2Proof.Machine
end

