-- ==== Sys2Proof/Machine/Calling.lean ====
section
/-! DEFINITION. Calling the engineer: watch mode, rota, calls, the engineers' alarm, the dead-man timer, CALL messages and
panels, and the meanings of their commands (R350 to R378). -/

namespace Sys2Proof.Machine
open Sys2Proof

/-- The state with the call state passed through f. -/
def State.modCall (s : State) (f : Call → Call) : State := { s with call := f s.call }

/-- Model time so many seconds from now. -/
def inSeconds (s : State) (w : Word) : Option Nat := some (now s + 1000 * w.toNat)

/-! Rota (R353). -/

/-- Engineer k is on the rota. -/
def onRota (c : Call) (k : Nat) : Bool := engBit c.onRota k

/-- Engineer a comes before engineer b in the rota. -/
def rotaBefore (s : State) (a b : Nat) : Bool :=
  decide ((cfgEngRotaOrder s a).toNat < (cfgEngRotaOrder s b).toNat) ||
    (decide ((cfgEngRotaOrder s a).toNat = (cfgEngRotaOrder s b).toNat) && decide (a < b))

/-- The first engineer of a list in rota order. -/
def rotaFirst (s : State) : List Nat → Option Nat
  | [] => none
  | a :: t => match rotaFirst s t with
    | none => some a
    | some b => if rotaBefore s b a then some b else some a

/-- The backup engineer: the next on the rota after the duty engineer, wrapping round (R353). -/
def backupOf (s : State) (c : Call) : BitVec 8 :=
  if c.duty = 0xFF then 0xFF
  else
    let d := c.duty.toNat
    let xs := (List.range 16).filter fun k => onRota c k && decide (k ≠ d)
    match rotaFirst s (xs.filter fun k => rotaBefore s d k) with
    | some k => BitVec.ofNat 8 k
    | none => match rotaFirst s xs with
      | some k => BitVec.ofNat 8 k
      | none => 0xFF

/-- The call state with its backup engineer found anew. -/
def withBackup (s : State) (c : Call) : Call := { c with backup := backupOf s c }

/-! The engineers' alarm (R358). -/

/-- At least one cause stands. -/
def anyCause (c : Call) : Bool := c.causeCall || c.causeDead || c.causeManual || c.causeManned

/-- Causes passed through f; the ACCEPTED mask is cleared when the last one clears (R358). -/
def setCauses (c : Call) (f : Call → Call) : Call :=
  let d := f c
  if anyCause c && !anyCause d then { d with accepted := 0 } else d

/-- The call enters a state with its stage timer; cause CALL stands in ENGINEERS (R356, R358). -/
def enterCall (st : CallSt) (stage : Option Nat) (c : Call) : Call :=
  setCauses c fun c => { c with st := st, stageEnd := stage, causeCall := st == .engineers, changed := true }

/-- The call closes (R356). -/
def closeCall (c : Call) : Call :=
  let d := enterCall .idle none c
  if anyCause d then { d with opener := 0xFFFFFFFF } else { d with accepted := 0, opener := 0xFFFFFFFF }

/-! Requests (R352 to R359). -/

/-- A request applied. -/
def accept_ (c : Call) : Call := { c with refused := false, changed := true }

/-- A request refused: nothing changes but REFUSED (R352). -/
def refuse (c : Call) : Call := { c with refused := true }

/-- The dead-man timer running from DEADMAN_PERIOD (R359). -/
def deadRun (s : State) (c : Call) : Call :=
  accept_ (setCauses c fun c => { c with dead := .running, deadEnd := inSeconds s (cfgCallDeadmanPeriod s), causeDead := false })

/-- ACCEPT of an engineer with a CALL_ID (R356, R358). -/
def acceptCall (s : State) (eng : Nat) (id : BitVec 16) (c : Call) : Call :=
  let mark (c : Call) : Call := { c with accepted := c.accepted ||| BitVec.ofNat 16 (2 ^ eng) }
  let open_ := match c.st with
    | .calling => true
    | .backup => true
    | .engineers => true
    | _ => false
  if 16 ≤ eng ∨ onRota c eng = false then c
  else if open_ && id == c.callId then
    accept_ (mark (enterCall .accepted (inSeconds s (cfgCallAttendTime s)) c))
  else if anyCause c then accept_ (mark c)
  else c

/-- One request applied at the holder (R352 to R359). -/
def applyReq (s : State) (q : CallReq) : State :=
  s.modCall fun c => match q with
    | .toManned =>
      let c := if c.st == .idle then c else closeCall c
      let c := if c.pend == .toUms then { c with pend := .none_, pendEnd := none, pendEng := 0xFF } else c
      accept_ { c with ums := false }
    | .toUms =>
      if !(callables s).isEmpty || decide (c.duty = 0xFF) || !onRota c c.duty.toNat || c.pend != .none_ then refuse c
      else if c.ums then accept_ c
      else accept_ { c with pend := .toUms, pendEnd := inSeconds s (cfgCallHandoverTimeout s) }
    | .acceptUms =>
      if c.pend == .toUms then accept_ { c with pend := .none_, pendEnd := none, ums := true } else refuse c
    | .setDuty eng =>
      if decide (16 ≤ eng.toNat) || !onRota c eng.toNat || c.pend == .duty then refuse c
      else if c.ums then
        accept_ { c with pend := .duty, pendEng := eng, pendEnd := inSeconds s (cfgCallHandoverTimeout s) }
      else accept_ (withBackup s { c with duty := eng })
    | .acceptDuty eng =>
      if c.pend == .duty && eng == c.pendEng then
        let d := withBackup s { c with duty := eng, pend := .none_, pendEnd := none, pendEng := 0xFF }
        accept_ (if d.st == .idle then d
          else { d with st := .calling, stageEnd := inSeconds s (cfgCallAcceptTime s), causeCall := false })
      else refuse c
    | .deadmanStart => deadRun s c
    | .deadmanReset => if c.dead == .off then c else deadRun s c
    | .deadmanStop =>
      accept_ (setCauses c fun c => { c with dead := .off, deadEnd := none, causeDead := false })
    | .engAlarm => accept_ { c with causeManual := true }
    | .engAlarmReset => accept_ (setCauses c fun c => { c with causeManual := false })
    | .accept eng id => acceptCall s eng.toNat id c
    | .rotaOn eng =>
      if 16 ≤ eng.toNat then c
      else accept_ (withBackup s { c with onRota := c.onRota ||| BitVec.ofNat 16 (2 ^ eng.toNat) })
    | .rotaOff eng =>
      if 16 ≤ eng.toNat then c
      else if eng == c.duty then refuse c
      else accept_ (withBackup s { c with onRota := c.onRota &&& ~~~(BitVec.ofNat 16 (2 ^ eng.toNat)) })

/-- The requests that wait applied in order of arrival (R357). -/
def applyWaiting (s : State) : State :=
  (s.call.requests).foldl applyReq (s.modCall fun c => { c with requests := [] })

/-- A source's right to a request of this code (R364). -/
def callRight (s : State) (code : Nat) : CallFrom → Bool
  | .panel kind eng =>
    let k := kind.toNat
    if code = 0x06 ∨ code = 0x07 then decide (k ≤ 1)
    else if code = 0x03 then decide (k = 4)
    else if code = 0x05 ∨ code = 0x0B then decide (k = 2) && decide (eng ≠ 0xFF)
    else if code = 0x09 then decide (k = 0 ∨ k = 4)
    else if code = 0x0C ∨ code = 0x0D then false
    else decide (k = 0)
  | .station r _ =>
    if code = 0x03 ∨ code = 0x05 ∨ code = 0x07 ∨ code = 0x0B then false
    else if code = 0x09 then may s r 1
    else may s r 2

/-- The engineer a source stands for. -/
def callEng : CallFrom → BitVec 8
  | .panel _ eng => eng
  | .station _ eng => eng

/-- A request at the holder from a source with the right to it, after those that wait (R357, R364). -/
def request (s : State) (src : CallFrom) (code : Nat) (q : CallReq) : Host.Outcome State Fault Refusal :=
  doIf (up s && s.call.holds && callRight s code src) s (applyReq (applyWaiting s) q)

/-- TO_MANNED (R352). -/
def execToManned (src : CallFrom) (s : State) : Host.Outcome State Fault Refusal := request s src 0x01 .toManned

/-- TO_UMS (R352). -/
def execToUms (src : CallFrom) (s : State) : Host.Outcome State Fault Refusal := request s src 0x02 .toUms

/-- ACCEPT_UMS (R352). -/
def execAcceptUms (src : CallFrom) (s : State) : Host.Outcome State Fault Refusal := request s src 0x03 .acceptUms

/-- SET_DUTY (R354). -/
def execSetDuty (src : CallFrom) (eng : BitVec 8) (s : State) : Host.Outcome State Fault Refusal :=
  request s src 0x04 (.setDuty eng)

/-- ACCEPT_DUTY (R354). -/
def execAcceptDuty (src : CallFrom) (s : State) : Host.Outcome State Fault Refusal :=
  request s src 0x05 (.acceptDuty (callEng src))

/-- DEADMAN_START (R359). -/
def execDeadmanStart (src : CallFrom) (s : State) : Host.Outcome State Fault Refusal := request s src 0x06 .deadmanStart

/-- DEADMAN_RESET (R359). -/
def execDeadmanReset (src : CallFrom) (s : State) : Host.Outcome State Fault Refusal := request s src 0x07 .deadmanReset

/-- DEADMAN_STOP (R359). -/
def execDeadmanStop (src : CallFrom) (s : State) : Host.Outcome State Fault Refusal := request s src 0x08 .deadmanStop

/-- ENG_ALARM (R358). -/
def execEngAlarm (src : CallFrom) (s : State) : Host.Outcome State Fault Refusal := request s src 0x09 .engAlarm

/-- ENG_ALARM_RESET (R358). -/
def execEngAlarmReset (src : CallFrom) (s : State) : Host.Outcome State Fault Refusal := request s src 0x0A .engAlarmReset

/-- ACCEPT (R356, R358). -/
def execCallAccept (src : CallFrom) (callId : BitVec 16) (s : State) : Host.Outcome State Fault Refusal :=
  request s src 0x0B (.accept (callEng src) callId)

/-- ROTA_ON (R353). -/
def execRotaOn (src : CallFrom) (eng : BitVec 8) (s : State) : Host.Outcome State Fault Refusal :=
  request s src 0x0C (.rotaOn eng)

/-- ROTA_OFF (R353). -/
def execRotaOff (src : CallFrom) (eng : BitVec 8) (s : State) : Host.Outcome State Fault Refusal :=
  request s src 0x0D (.rotaOff eng)

/-- The request of a code of R364 with its ARG and CALL_ID. -/
def reqOf (code : Nat) (arg : BitVec 8) (id : BitVec 16) : Option CallReq := match code with
  | 0x01 => some .toManned
  | 0x02 => some .toUms
  | 0x03 => some .acceptUms
  | 0x04 => some (.setDuty arg)
  | 0x05 => some (.acceptDuty arg)
  | 0x06 => some .deadmanStart
  | 0x07 => some .deadmanReset
  | 0x08 => some .deadmanStop
  | 0x09 => some .engAlarm
  | 0x0A => some .engAlarmReset
  | 0x0B => some (.accept arg id)
  | 0x0C => some (.rotaOn arg)
  | 0x0D => some (.rotaOff arg)
  | _ => none

/-- A request waits for the holder's next step (R357). -/
def queueReq (s : State) (q : CallReq) : State := s.modCall fun c => { c with requests := c.requests ++ [q] }

/-- CALL_ACTION written: it takes effect on the holder only, at the level R364 gives the code (R364, R377, R378). -/
def writeCallAction (s : State) (r : Req) (w : Word) : State :=
  let code := bits w 7 0
  let arg := BitVec.ofNat 8 (bits w 15 8)
  match reqOf code arg 0 with
  | some q => if s.call.holds && callRight s code (.station r arg) then queueReq s q else s
  | none => s

/-! Timers (R351, R352, R354, R356, R359). -/

/-- A time has run out. -/
def ranOut (s : State) (t : Option Nat) : Bool := match t with
  | none => false
  | some m => decide (m ≤ now s)

/-- The stage timer of state st runs out (R356). -/
def stageTimer (st : CallSt) (s : State) : State :=
  if s.call.st == st && ranOut s s.call.stageEnd then
    s.modCall fun c => match c.st with
      | .calling =>
        if decide (cfgCallBackupStage s = 1) && decide (c.backup ≠ 0xFF) then
          enterCall .backup (inSeconds s (cfgCallBackupTime s)) c
        else enterCall .engineers none c
      | .backup => enterCall .engineers none c
      | .accepted => enterCall .engineers none c
      | _ => c
  else s

/-- HANDOVER_TIMEOUT runs out: the transfer or handover lapses (R352, R354). -/
def handoverTimer (s : State) : State :=
  if s.call.pend != .none_ && ranOut s s.call.pendEnd then
    s.modCall fun c => { c with pend := .none_, pendEnd := none, pendEng := 0xFF, refused := true, changed := true }
  else s

/-- The dead-man remaining time reaches DEADMAN_PREWARN (R359). -/
def prewarnTimer (s : State) : State := match s.call.dead, s.call.deadEnd with
  | .running, some t =>
    if t ≤ now s + 1000 * (cfgCallDeadmanPrewarn s).toNat then
      s.modCall fun c => { c with dead := .prewarn, changed := true } else s
  | _, _ => s

/-- The dead-man remaining time reaches 0 (R359). -/
def deadTimer (s : State) : State :=
  if s.call.dead == .prewarn && ranOut s s.call.deadEnd then
    s.modCall fun c => { c with dead := .expired, causeDead := true, changed := true }
  else s

/-- The callable conditions in ACT_UNACK with the time since which each stands so (R351). -/
def mannedNote (s : State) : State :=
  let us := ((callables s).filter fun v => decide (v.st = 1)).map fun v => (v.subject, v.cond)
  s.modCall fun c => { c with mannedSince := us.map fun u =>
    (u, ((c.mannedSince.find? fun e => e.1 == u).map Prod.snd).getD (now s)) }

/-- In MANNED a callable condition has stood in ACT_UNACK for MANNED_ESCALATE (R351). -/
def mannedTimer (s : State) : State :=
  let m := (cfgCallMannedEscalate s).toNat
  if !s.call.ums && decide (m ≠ 0) && !s.call.causeManned &&
      s.call.mannedSince.any (fun e => decide (e.2 + 1000 * m ≤ now s)) then
    s.modCall fun c => { c with causeManned := true, changed := true }
  else s

/-- Every timer that has run out, applied (R357). -/
def callTimers (s : State) : State :=
  mannedTimer (deadTimer (prewarnTimer (handoverTimer
    (if s.call.st == .calling then stageTimer .calling s
     else if s.call.st == .backup then stageTimer .backup s
     else stageTimer .accepted s))))

/-- A timer of the holder: the requests that have arrived come first (R357). -/
def timerStep (s : State) (f : State → State) : Host.Outcome State Fault Refusal :=
  doIf (up s && s.call.holds) s (f (applyWaiting s))

/-- ACCEPT_TIME_EXPIRY (R356). -/
def execAcceptTimeExpiry (s : State) : Host.Outcome State Fault Refusal := timerStep s (stageTimer .calling)

/-- BACKUP_TIME_EXPIRY (R356). -/
def execBackupTimeExpiry (s : State) : Host.Outcome State Fault Refusal := timerStep s (stageTimer .backup)

/-- ATTEND_TIME_EXPIRY (R356). -/
def execAttendTimeExpiry (s : State) : Host.Outcome State Fault Refusal := timerStep s (stageTimer .accepted)

/-- HANDOVER_TIMEOUT (R352, R354). -/
def execHandoverTimeout (s : State) : Host.Outcome State Fault Refusal := timerStep s handoverTimer

/-- DEADMAN_PREWARN (R359). -/
def execDeadmanPrewarn (s : State) : Host.Outcome State Fault Refusal := timerStep s prewarnTimer

/-- DEADMAN_EXPIRY (R359). -/
def execDeadmanExpiry (s : State) : Host.Outcome State Fault Refusal := timerStep s deadTimer

/-- MANNED_ESCALATE_EXPIRY (R351). -/
def execMannedEscalateExpiry (s : State) : Host.Outcome State Fault Refusal :=
  timerStep s fun t => mannedTimer (mannedNote t)

/-! CALL STATE (R360, R363, R372). -/

/-- Code of a call state (R372). -/
def CallSt.code : CallSt → Nat
  | .idle => 0
  | .calling => 1
  | .backup => 2
  | .accepted => 3
  | .engineers => 4

/-- The call state of a code. -/
def CallSt.ofCode : Nat → CallSt
  | 1 => .calling
  | 2 => .backup
  | 3 => .accepted
  | 4 => .engineers
  | _ => .idle

/-- Code of a dead-man state (R372). -/
def DeadSt.code : DeadSt → Nat
  | .off => 0
  | .running => 1
  | .prewarn => 2
  | .expired => 3

/-- The dead-man state of a code. -/
def DeadSt.ofCode : Nat → DeadSt
  | 1 => .running
  | 2 => .prewarn
  | 3 => .expired
  | _ => .off

/-- Code of PENDING (R372). -/
def PendSt.code : PendSt → Nat
  | .none_ => 0
  | .toUms => 1
  | .duty => 2

/-- Milliseconds remaining, 0xFFFF_FFFF for none (R372). -/
def remaining (s : State) (t : Option Nat) : Word := match t with
  | none => 0xFFFFFFFF
  | some m => w32 (m - now s)

/-- Words 3, 5, 7 and 9 of a CALL STATE (R372). -/
def callCore (c : Call) : List Word :=
  [at' 28 (b2n c.ums) ||| at' 24 c.pend.code ||| at' 16 c.holder.toNat ||| at' 8 c.duty.toNat ||| c.pendEng.setWidth 32,
   at' 16 c.callId.toNat ||| at' 12 c.st.code ||| flag 11 c.causeManned ||| flag 10 c.causeManual ||| flag 9 c.causeDead |||
     flag 8 c.causeCall ||| at' 4 c.dead.code,
   at' 24 c.backup.toNat ||| c.accepted.setWidth 32,
   at' 16 c.onRota.toNat ||| c.joined.setWidth 32]

/-- The payload of a CALL STATE (R372). -/
def callState (s : State) : List Word :=
  let c := s.call
  [at' 24 1, c.seq, ~~~c.seq] ++ (callCore c).flatMap (fun w => [w, ~~~w]) ++ [c.opener, ~~~c.opener] ++
    [remaining s c.stageEnd, remaining s c.deadEnd, remaining s c.pendEnd, c.crc]

/-- A CALL STATE sent and kept, panels driven (R360, R368). -/
def sendCallState (s : State) : State :=
  let s1 := s.modCall fun c => { c with seq := c.seq + 1, holder := BitVec.ofNat 8 (nodeNum s), changed := false
                                        haveState := true, wordsAt := now s }
  let ws := callState s1
  panelsRefresh s.call.changed (bcast (s1.modCall fun c => { c with words := ws }) 0 0x23 ws)

/-- The checks of R355 and R356, and the MANNED cause (R351). -/
def callChecks (s : State) : State :=
  let cs := callables s
  let c := s.call
  let s1 :=
    if c.ums && c.st == .idle then
      match cs with
      | [] => s
      | v :: _ => s.modCall fun c =>
          { enterCall .calling (inSeconds s (cfgCallAcceptTime s)) c with
            callId := c.callId + 1, opener := v.subject, joined := 0 }
    else if c.st != .idle && (cs.isEmpty || !c.ums) then s.modCall closeCall
    else s
  let s2 := if cs.isEmpty && s1.call.causeManned then
      s1.modCall fun c => { setCauses c (fun c => { c with causeManned := false }) with changed := true } else s1
  mannedNote s2

/-- The fields of a CALL STATE payload taken into a call state, remaining times counted from now (R361, R372). -/
def parseState (s : State) (ws : List Word) (c : Call) : Call :=
  let g (i : Nat) : Word := ws.getD i 0
  let time (w : Word) : Option Nat := if w = 0xFFFFFFFF then none else some (now s + w.toNat)
  { c with
    seq := g 1, haveState := true
    ums := decide (bits (g 3) 31 28 = 1)
    pend := match bits (g 3) 27 24 with
      | 1 => .toUms
      | 2 => .duty
      | _ => .none_
    holder := BitVec.ofNat 8 (bits (g 3) 23 16), duty := BitVec.ofNat 8 (bits (g 3) 15 8), pendEng := BitVec.ofNat 8 (bits (g 3) 7 0)
    callId := BitVec.ofNat 16 (bits (g 5) 31 16), st := CallSt.ofCode (bits (g 5) 15 12)
    causeManned := bit (g 5) 11, causeManual := bit (g 5) 10, causeDead := bit (g 5) 9, causeCall := bit (g 5) 8
    dead := DeadSt.ofCode (bits (g 5) 7 4), backup := BitVec.ofNat 8 (bits (g 7) 31 24)
    accepted := BitVec.ofNat 16 (bits (g 7) 15 0), onRota := BitVec.ofNat 16 (bits (g 9) 31 16)
    joined := BitVec.ofNat 16 (bits (g 9) 15 0), opener := g 11
    stageEnd := time (g 13), deadEnd := time (g 14), pendEnd := time (g 15), words := ws, wordsAt := now s }

/-- The lesser of two times. -/
def minTime : Option Nat → Option Nat → Option Nat
  | some a, some b => some (min a b)
  | none, b => b
  | a, none => a

/-- The other holder's last CALL STATE merged into this node's, when the islands have healed (R362). -/
def mergeCall (s : State) : State :=
  let o := parseState s s.call.other {}
  s.modCall fun c =>
    let take := decide (c.st.code < o.st.code)
    { c with
      other := [], changed := true, ums := c.ums && o.ums
      st := if take then o.st else c.st
      stageEnd := if c.st == o.st then minTime c.stageEnd o.stageEnd else if take then o.stageEnd else c.stageEnd
      accepted := c.accepted ||| o.accepted
      causeCall := c.causeCall || o.causeCall, causeDead := c.causeDead || o.causeDead
      causeManual := c.causeManual || o.causeManual, causeManned := c.causeManned || o.causeManned
      dead := if c.dead.code < o.dead.code then o.dead else c.dead
      deadEnd := minTime c.deadEnd o.deadEnd }

/-- This node keeps the call duty against another claimant: its number is the lower (R362, R413). -/
def keepsCall (s : State) : Bool :=
  !s.call.other.isEmpty && decide (nodeNum s < bits (s.call.other.getD 3 0) 23 16)

/-- CALL_DUTY_STEP: requests, timers, checks, CALL STATE where anything changed (R357, R362). -/
def execCallDutyStep (s : State) : Host.Outcome State Fault Refusal :=
  let s1 := if keepsCall s then mergeCall s else s
  let s2 := callChecks (callTimers (applyWaiting s1))
  doIf (up s && s.call.holds) s
    (if s2.call.changed || s2.call.words.isEmpty then sendCallState s2 else panelsRefresh false s2)

/-- CALL_STATE_PERIODIC (R360). -/
def execCallStatePeriodic (s : State) : Host.Outcome State Fault Refusal :=
  doIf (up s && s.call.holds) s (sendCallState s)

/-- The engineers on the rota by configuration (R353, R373). -/
def cfgRota (s : State) : BitVec 16 :=
  BitVec.ofNat 16 (maskOf 16 fun k => cfgHas s 11 k && decide (cfgEngOnRota s k = 1))

/-- This node takes the call duty: it resumes from the CALL STATE it holds, or by MODE_AT_START (R350, R361). -/
def takeCallDuty (s : State) : State :=
  if s.call.holds then s
  else
    s.modCall fun c =>
      if c.haveState then
        { c with holds := true, holder := BitVec.ofNat 8 (nodeNum s), changed := true, requests := [] }
      else
        { c with holds := true, holder := BitVec.ofNat 8 (nodeNum s), changed := true, requests := []
                 ums := decide (cfgCallModeAtStart s = 1), onRota := cfgRota s }

/-- The call duty leaves this node. -/
def dropCallDuty (s : State) : State := s.modCall fun c => { c with holds := false, requests := [], other := [] }

/-- The complements of a CALL message check (R60, R372). -/
def callPairs (ws : List Word) : List Pair :=
  if bits (ws.headD 0) 31 24 = 1 then
    [1, 3, 5, 7, 9, 11].map fun i => ⟨ws.getD i 0, ws.getD (i + 1) 0⟩
  else [1, 3].map fun i => ⟨ws.getD i 0, ws.getD (i + 1) 0⟩

/-- A CALL_SEQ is newer than another (R360). -/
def seqNewer (a b : Word) : Bool := decide (1 ≤ (a - b).toNat ∧ (a - b).toNat < 2 ^ 31)

/-- A checking CALL STATE from another node (R360, R362, R363, R376). -/
def takeCallState (s : State) (ws : List Word) : State :=
  if s.call.holds then
    sysSet (s.modCall fun c => { c with other := ws }) 0x2E (decide (ws.getD 16 0 ≠ s.call.crc))
  else if s.call.haveState && !seqNewer (ws.getD 1 0) s.call.seq then s
  else
    let s1 := s.modCall (parseState s ws)
    let s2 := sysClear s1 0x2D
    let s3 := sysSet s2 0x2E (decide (ws.getD 16 0 ≠ s.call.crc))
    panelsRefresh true s3

/-- PANEL_LOST and PANEL_MISMATCH follow the panels of the segments whose duty this node holds (R376). -/
def panelConds (s : State) : State :=
  let ks := (panelKeys s).filter fun k => segDutyHeld s (k / 65536)
  let s1 := if ks.any fun k => (panelAt s k).lost then s else sysClear s 0x2C
  sysSet s1 0x2F (ks.any (fun k => (panelAt s k).mismatch) ||
    (segDutyHeld s 0 && decide (s.panels.unknown[0] ≠ 0)) || (segDutyHeld s 1 && decide (s.panels.unknown[1] ≠ 0)))

/-- CALL_STATE_RECEIVE (R360, R363, R372). -/
def execCallStateReceive (src : Fin 64) (payload : List Word) (s : State) : Host.Outcome State Fault Refusal :=
  let ok := decide (payload.length = 17) && decide (bits (payload.headD 0) 31 24 = 1) && decide (src.val ≠ nodeNum s)
  doIf (up s && ok) s
    (if (callPairs payload).all Pair.ok then takeCallState s payload
     else pairFail s 7 (subj s 7 0) ((callPairs payload).filter fun p => !p.ok))

/-- CALL_REQUEST_RECEIVE: the request waits for the holder's next step (R357, R372). -/
def execCallRequestReceive (src : Fin 64) (payload : List Word) (s : State) : Host.Outcome State Fault Refusal :=
  let g (i : Nat) : Word := payload.getD i 0
  let ok := decide (payload.length = 5) && decide (bits (g 0) 31 24 = 2) && decide (src.val < 64)
  let code := bits (g 1) 31 24
  doIf (up s && ok && s.call.holds) s
    (if (callPairs payload).all Pair.ok then
       match reqOf code (BitVec.ofNat 8 (bits (g 1) 7 0)) (BitVec.ofNat 16 (bits (g 3) 31 16)) with
       | some q => if code = 0x0C ∨ code = 0x0D then s else queueReq s q
       | none => s
     else pairFail s 7 (subj s 7 0) ((callPairs payload).filter fun p => !p.ok))

/-- This node holds a segment's duty (R378). -/
def anySegDuty (s : State) : Bool := segDutyHeld s 0 || segDutyHeld s 1

/-- CALL_PATH_TIMEOUT: no CALL STATE for 3 s at a segment duty holder (R376). -/
def execCallPathTimeout (s : State) : Host.Outcome State Fault Refusal :=
  doIf (up s && anySegDuty s && !s.call.holds && decide (s.call.wordsAt + 3000 ≤ now s) && !sysActive s 0x2D) s (sysRaise s 0x2D)

/-! Panels (R364 to R371). -/

/-- Keys of the panel under both controllers of its segment: one panel (R368). -/
def panelTwins (s : State) (c p : Nat) : List Nat :=
  [0, 1].filterMap fun d =>
    if (d = c ∨ cfgCanSegment s d = cfgCanSegment s c) ∧ cfgHas s 13 (panelKey d p) = true then some (panelKey d p) else none

/-- Each twin's record passed through f. -/
def modTwins (s : State) (c p : Nat) (f : Panel → Panel) : State := (panelTwins s c p).foldl (fun s k => s.modPanel k f) s

/-- A frame of the panel is dealt with by this node (R365, R368). -/
def panelHeard (s : State) (c p : Nat) : Bool :=
  up s && segDutyHeld s c && cfgHas s 13 (panelKey c p) && !(panelAt s (panelKey c p)).mismatch

/-- PANEL_ACK_FRAME: forwarded to the evaluating node; one whose pairs fail is discarded (R60, R364, R365). -/
def execPanelAckFrame (c : Fin 2) (panel : Fin 64) (ws : List Word) (s : State) : Host.Outcome State Fault Refusal :=
  let ps : List Pair := [⟨ws.getD 0 0, ws.getD 1 0⟩, ⟨ws.getD 2 0, ws.getD 3 0⟩]
  let seq := BitVec.ofNat 16 (bits (ws.getD 2 0) 31 16)
  doIf (panelHeard s c.val panel.val && decide ((cfgPanKind s c.val panel.val).toNat ≤ 1)) s
    (if ps.all Pair.ok then (if seq = 0xFFFF then s else forwardAck s (ws.getD 0 0) seq)
     else pairFail s 8 (subj s 7 0) (ps.filter fun p => !p.ok))

/-- PANEL_SILENCE_FRAME: rank 6 silenced on that panel (R365, R366). -/
def execPanelSilenceFrame (c : Fin 2) (panel : Fin 64) (ws : List Word) (s : State) : Host.Outcome State Fault Refusal :=
  doIf (panelHeard s c.val panel.val && decide (ws = [0x00000000, 0xFFFFFFFF])) s
    (panelsRefresh false (modTwins s c.val panel.val fun q => { q with silenced := true, unsilenced := [] }))

/-- A CALL REQUEST to the call duty holder, or into this node's own queue (R365, R372). -/
def forwardReq (s : State) (c p code : Nat) (arg : BitVec 8) (id : BitVec 16) : State :=
  if s.call.holds then
    match reqOf code arg id with
    | some q => queueReq s q
    | none => s
  else
    match tget s.ring.bindings s.canvas.duty.call.toNat with
    | none => s
    | some mac =>
      let w1 := at' 24 code ||| at' 16 ((cfgCanSegment s c).toNat % 256) ||| at' 8 p ||| arg.setWidth 32
      let w3 := at' 16 id.toNat
      sendTo s mac s.canvas.duty.call 0 0x23 [at' 24 2, w1, ~~~w1, w3, ~~~w3]

/-- PANEL_REQUEST_FRAME: checked against the panel's kind and forwarded (R364, R365). -/
def execPanelRequestFrame (c : Fin 2) (panel : Fin 64) (code : BitVec 8) (ws : List Word) (s : State) :
    Host.Outcome State Fault Refusal :=
  let kind := BitVec.ofNat 4 (cfgPanKind s c.val panel.val).toNat
  let eng := BitVec.ofNat 8 (cfgPanEngineer s c.val panel.val).toNat
  let w := ws.getD 0 0
  let arg := if code = 0x05 ∨ code = 0x0B then eng else BitVec.ofNat 8 (bits w 7 0)
  doIf (panelHeard s c.val panel.val) s
    (if Pair.ok ⟨w, ws.getD 1 0⟩ then
       (if callRight s code.toNat (.panel kind eng) then
          forwardReq s c.val panel.val code.toNat arg (BitVec.ofNat 16 (bits w 31 16)) else s)
     else pairFail s 8 (subj s 7 0) [⟨w, ws.getD 1 0⟩])

/-- PANEL_HEARTBEAT (R368, R371, R376). -/
def execPanelHeartbeat (c : Fin 2) (panel : Fin 64) (ws : List Word) (s : State) : Host.Outcome State Fault Refusal :=
  let w := ws.getD 0 0
  let k := panelKey c.val panel.val
  doIf (up s && segDutyHeld s c.val && decide (panel.val < 48)) s
    (panelConds
      (if cfgHas s 13 k then
         (modTwins s c.val panel.val fun q => { q with lost := false }).modPanel k fun q =>
           { q with heardAt := some (now s), fault := bit w 15 || bit w 14 || bit w 13
                    mismatch := decide (bits w 31 28 ≠ (cfgPanKind s c.val panel.val).toNat) }
       else { s with panels := { s.panels with
         unknown := vmod s.panels.unknown c fun m => m ||| BitVec.ofNat 48 (2 ^ panel.val) } }))

/-- Model time from which the panel's silence counts: its last heartbeat on any bus, or the taking of the duty (R368). -/
def panelSince (s : State) (c p : Nat) : Nat :=
  let heard := (panelTwins s c p).filterMap fun k => (panelAt s k).heardAt
  let taken := (s.canvas.segTaken.toList.getD (cfgCanSegment s c).toNat none).getD 0
  heard.foldl max taken

/-- PANEL_LOST_TIMEOUT: a configured panel not heard on any of its buses for HEARTBEAT_TIMEOUT (R368, R376). -/
def execPanelLostTimeout (c : Fin 2) (panel : Fin 64) (s : State) : Host.Outcome State Fault Refusal :=
  let k := panelKey c.val panel.val
  let due := decide (panelSince s c.val panel.val + (cfgPanHeartbeatTimeout s c.val panel.val).toNat ≤ now s)
  doIf (up s && segDutyHeld s c.val && cfgHas s 13 k && !(panelAt s k).lost && due) s
    (sysRaise (modTwins s c.val panel.val fun q => { q with lost := true }) 0x2C)

/-- NODE_HEARTBEAT on a controller (R371). -/
def nodeBeat (s : State) (c : Nat) : State :=
  if segDutyHeld s c then
    let w := at' 28 (b2n s.call.ums) ||| at' 16 s.call.duty.toNat
    queueFrame s c { id := panelId 3 (nodeNum s) 63 3 0, words := [w, ~~~w, s.bkup.seconds, s.bkup.sub.setWidth 32] }
  else s

/-- PANEL_COMMAND_PERIODIC (R368). -/
def execPanelCommandPeriodic (s : State) : Host.Outcome State Fault Refusal :=
  doIf (up s && anySegDuty s) s (nodeBeat (nodeBeat (panelsRefresh true s) 0) 1)

/-- The words of an ALARM that repeats a condition of a point (R341, R368; log entry 48). -/
def repeatWords (s : State) (v : CondView) : List Word :=
  let p := bits v.subject 15 0
  let pt : Pub × BitVec 16 × Word := match tget s.points p, tget s.canvas.replica p with
    | some l, _ => ({ l.pub with alarm := l.alarm.stateWord }, l.alarm.seq, l.alarm.foldRoot)
    | none, some r => (r.pub, r.seq, 0xFFFFFFFF)
    | none, none => ({}, 0, 0xFFFFFFFF)
  let sy : Word :=
    if bits v.subject 23 16 = nodeNum s then sysWord (vat s.alarms.sysc ⟨p % 64, by omega⟩)
    else (tgetD s.alarms.peerSys (bits v.subject 23 16 * 64 + p) (Pair.mk0 0)).v
  let isPt := decide (bits v.subject 31 24 = 0)
  let al := if isPt then pt.1.alarm else Pair.mk0 sy
  let w1 := at' 24 v.cond ||| at' 16 (if v.st = 1 then 1 else 2) ||| at' 8 v.group ||| at' 4 v.prio ||| w32 v.st
  let w4 := at' 16 (if isPt then pt.2.1.toNat else bits sy 31 16) ||| flag 15 (!v.folded) ||| flag 14 v.folded
  [v.subject, w1, ~~~v.subject, ~~~w1, w4, ~~~w4] ++ pws al ++ (if isPt then pws pt.1.value else pws nanPair) ++
    (if isPt then pws pt.1.quality else pws nanPair) ++ pws nanPair ++ timeWords s ++
    [pt.1.wall.extractLsb' 32 32, pt.1.wall.extractLsb' 0 32, pt.1.wallQ.setWidth 32, pt.2.2, 0]

/-- The repeated frames of a controller: one for each panel and unacknowledged condition it is shown (R368). -/
def repeatFrames (s : State) (c : Nat) : List PanelFrame :=
  let vs := (shipConds s).filter fun v => decide (v.st = 1 ∨ v.st = 3)
  ((panelKeys s).filter fun k => decide (k / 65536 = c) && panelDriven s k).flatMap fun k =>
    (vs.filter fun v => panelShows s c (k % 65536) v.group &&
      panelTakes s (cfgPanKind s c (k % 65536)).toNat (repeatWords s v)).map fun v => alarmFrame s 2 (k % 65536) (repeatWords s v)

/-- At most 100 of the frames, beginning with each in turn second by second (R368). -/
def hundred (s : State) (fs : List PanelFrame) : List PanelFrame :=
  if fs.length ≤ 100 then fs
  else
    let i := now s / 1000 * 100 % fs.length
    ((fs.drop i) ++ fs.take i).take 100

/-- PANEL_ALARM_REPEAT (R368). -/
def execPanelAlarmRepeat (s : State) : Host.Outcome State Fault Refusal :=
  doIf (up s && anySegDuty s) s
    ([0, 1].foldl (fun t c => (hundred s (repeatFrames s c)).foldl (fun t f => queueFrame t c f) t) s)

end Sys2Proof.Machine
end

