-- ==== Sys2Proof/Machine/Calc.lean ====
section
/-! DEFINITION. Calculation lists and characteristic tables: the steps, their execution, when a sequence is well formed, and
when path B corresponds to path A (R297 to R308). -/

namespace Sys2Proof.Machine
open Sys2Proof

/-! Tables (R305 to R308). -/

/-- X is strictly increasing. -/
def rising : List Word → Bool
  | a :: b :: t => fLt a b && rising (b :: t)
  | _ => true

/-- A table's X and Y make it valid (R307). -/
def tableValid (xs ys : List Word) : Bool :=
  decide (xs.length = ys.length) && decide (2 ≤ xs.length) && xs.all fIsFin && ys.all fIsFin && rising xs

/-- The segment in which x lies, from i on (R308). -/
def segmentOf (x : Word) : List Word → Nat → Nat
  | _ :: b :: c :: t, i => if fLt x b then i else segmentOf x (b :: c :: t) (i + 1)
  | _, i => i

/-- A valid table at x (R308). -/
def tableAt (xs ys : List Word) (extend : Bool) (x : Word) : Word :=
  let n := xs.length
  let g (l : List Word) (i : Nat) : Word := l.getD i 0
  if fIsNan x then fNan
  else if !extend && fLt x (g xs 0) then g ys 0
  else if !extend && fLt (g xs (n - 1)) x then g ys (n - 1)
  else
    let i := segmentOf x xs 0
    let d := fSub (g ys (i + 1)) (g ys i)
    let w := fSub (g xs (i + 1)) (g xs i)
    fAdd (g ys i) (fMul (fSub x (g xs i)) (fDiv d w))

/-- Table t of the configuration is present and valid (R302, R307). -/
def tableOk (s : State) (t : Nat) : Bool := cfgHas s 6 t && tableValid (cfgTabX s t) (cfgTabY s t)

/-- The table is suspect (R123, R302). -/
def tableSuspect (s : State) (t : Nat) : Bool := match cfgEnt s 6 (some t) with
  | some e => e.suspect
  | none => false

/-- Table t at x, NaN where it is absent or invalid (R308). -/
def tableEval (s : State) (t : Nat) (x : Word) : Word :=
  if tableOk s t then tableAt (cfgTabX s t) (cfgTabY s t) (decide (cfgTabExtend s t = 1)) x else fNan

/-! Steps (R298, R299). -/

/-- The fields of a step word (R298). -/
structure CStep where
  /-- OPCODE. -/
  op : Nat
  /-- D. -/
  d : Nat
  /-- A. -/
  a : Nat
  /-- B. -/
  b : Nat
  /-- K. -/
  k : Nat
  /-- N. -/
  n : Nat
  /-- Bits [2:0]. -/
  z : Nat
  deriving DecidableEq, Repr

/-- A step word taken apart (R298). -/
def cstep (w : Word) : CStep :=
  { op := bits w 31 26, d := bits w 25 23, a := bits w 22 20, b := bits w 19 17, k := bits w 16 9, n := bits w 8 3, z := bits w 2 0 }

/-- What an opcode uses: a destination, first and second sources, an index and a count; none for an invalid code (R299). -/
structure OpForm where
  /-- Writes Wd. -/
  d : Bool
  /-- Reads Wa. -/
  a : Bool
  /-- Reads Wb. -/
  b : Bool
  /-- Uses K: 0 none, 1 operand, 2 constant, 3 slot, 4 table, 5 operand group. -/
  k : Nat
  /-- Reads Wd first. -/
  rd : Bool
  /-- The sources are taken as unordered. -/
  comm : Bool
  deriving DecidableEq, Repr

/-- The form of an opcode (R299). -/
def opForm (op : Nat) : Option OpForm :=
  let mk (d a b : Bool) (k : Nat) (rd comm : Bool) : Option OpForm := some ⟨d, a, b, k, rd, comm⟩
  if op = 0x00 then mk false false false 0 false false
  else if op = 0x01 then mk true false false 1 false false
  else if op = 0x02 then mk true false false 2 false false
  else if op = 0x03 then mk true false false 3 false false
  else if op = 0x04 then mk false true false 3 false false
  else if op = 0x05 then mk true true false 0 false false
  else if op = 0x06 then mk true false false 0 false false
  else if op = 0x08 ∨ op = 0x0A ∨ op = 0x0F ∨ op = 0x10 ∨ op = 0x16 then mk true true true 0 false true
  else if op = 0x09 ∨ op = 0x0B ∨ op = 0x14 ∨ op = 0x15 then mk true true true 0 false false
  else if op = 0x0C ∨ op = 0x0D ∨ op = 0x0E ∨ op = 0x11 then mk true true false 0 false false
  else if op = 0x12 then mk true true false 4 false false
  else if op = 0x17 then mk true true true 0 true false
  else if op = 0x18 then mk true false false 1 false false
  else if 0x19 ≤ op ∧ op ≤ 0x1C then mk true false false 5 false false
  else if op = 0x1D then mk false true false 0 false false
  else if op = 0x3F then mk false true false 0 false false
  else none

/-- The step keeps the rules of R303: a valid code, unused fields zero, sources written, indices within. -/
def stepOk (nops ncons : Nat) (written : List Nat) (c : CStep) : Bool := match opForm c.op with
  | none => false
  | some f =>
    (f.d || decide (c.d = 0)) && (f.a || decide (c.a = 0)) && (f.b || decide (c.b = 0)) && (decide (f.k ≠ 0) || decide (c.k = 0)) &&
    (decide (f.k = 5) || decide (c.n = 0)) && decide (c.z = 0) &&
    (!f.a || written.contains c.a) && (!f.b || written.contains c.b) && (!f.rd || written.contains c.d) &&
    (match f.k with
     | 1 => decide (c.k < nops)
     | 2 => decide (c.k < ncons)
     | 3 => decide (c.k < 4)
     | 5 => decide (1 ≤ c.n ∧ c.n ≤ 32 ∧ c.k + c.n ≤ nops)
     | _ => true)

/-- Steps are well formed from a set of written registers on (R303). -/
def seqOkGo (nops ncons : Nat) : List Nat → List CStep → Bool
  | _, [] => false
  | w, [c] => decide (c.op = 0x3F) && stepOk nops ncons w c
  | w, c :: t => decide (c.op ≠ 0x3F) && stepOk nops ncons w c &&
      seqOkGo nops ncons (if (opForm c.op).any (·.d) then c.d :: w else w) t

/-- A sequence is well formed (R303). -/
def seqOk (ws : List Word) (nops ncons : Nat) : Bool := seqOkGo nops ncons [] (ws.map cstep)

/-! Path B corresponds to path A (R304). -/

/-- A later step reads the value now in register x, before x is written again. -/
def readLater (x : Nat) : List CStep → Bool
  | [] => false
  | c :: t => match opForm c.op with
    | none => readLater x t
    | some f =>
      if (f.a && decide (c.a = x)) || (f.b && decide (c.b = x)) || (f.rd && decide (c.d = x)) then true
      else if f.d && decide (c.d = x) then false
      else readLater x t

/-- The operand of the ADD that the NEG's result is added to, where the two make a SUB (R304 rule 1). -/
def negAdd (g c : CStep) (t : List CStep) : Option Nat :=
  if g.op = 0x0C ∧ c.op = 0x08 then
    let dead := decide (c.d = g.d) || !readLater g.d t
    if dead && decide (c.a = g.d) && decide (c.b ≠ g.d) then some c.b
    else if dead && decide (c.b = g.d) && decide (c.a ≠ g.d) then some c.a
    else none
  else none

/-- A sequence in canonical form: each NEG and ADD that make a SUB read as one, marked by z = 1 (R304). -/
def canonB : Nat → List CStep → List CStep
  | 0, l => l
  | _ + 1, [] => []
  | _ + 1, [c] => [c]
  | n + 1, g :: c :: t => match negAdd g c t with
    | some y => { op := 0x09, d := c.d, a := y, b := g.a, k := 0, n := 0, z := 1 } :: canonB n t
    | none => g :: canonB n (c :: t)

/-- A register map extended by x → y where it agrees and stays one to one. -/
def bindReg (m : List (Nat × Nat)) (x y : Nat) : Option (List (Nat × Nat)) :=
  match m.find? fun e => decide (e.1 = x) with
  | some e => if e.2 = y then some m else none
  | none => if m.any fun e => decide (e.2 = y) then none else some ((x, y) :: m)

/-- Every way to match two steps under a register map (R304 rules 2 and 3). -/
def matchStep (m : List (Nat × Nat)) (p q : CStep) : List (List (Nat × Nat)) :=
  match opForm p.op with
  | none => []
  | some f =>
    let subOk := decide (p.op ≠ 0x09) || decide (q.z = 1)
    if p.op ≠ q.op ∨ p.k ≠ q.k ∨ p.n ≠ q.n ∨ subOk = false then []
    else
      let dst (m : List (Nat × Nat)) := if f.d then bindReg m p.d q.d else some m
      let go (qa qb : Nat) : Option (List (Nat × Nat)) :=
        ((if f.a then bindReg m p.a qa else some m).bind fun m => if f.b then bindReg m p.b qb else some m).bind dst
      (go q.a q.b).toList ++ (if f.comm then (go q.b q.a).toList else [])

/-- Two canonical sequences are identical under some register map (R304). -/
def matchSeq : List CStep → List CStep → List (List (Nat × Nat)) → List (List (Nat × Nat))
  | [], [], ms => ms
  | p :: ps, q :: qs, ms => matchSeq ps qs ((ms.flatMap fun m => matchStep m p q).eraseDups)
  | _, _, _ => []

/-- The registers a sequence writes. -/
def writes (l : List CStep) : List Nat := (l.filterMap fun c => if (opForm c.op).any (·.d) then some c.d else none).eraseDups

/-- Path B corresponds to path A: identical canonical forms under a permutation that moves every register path A
writes, every SUB of path A a NEG and ADD in path B (R304). -/
def pathsMatch (wa wb : List Word) : Bool :=
  let a := wa.map cstep
  let b := canonB 64 (wb.map cstep)
  (matchSeq a b [[]]).any fun m => (writes a).all fun r => m.any fun e => decide (e.1 = r ∧ e.2 ≠ r)

/-! Execution (R299 to R302). -/

/-- A list's operand as read: value and quality pairs, and IGNORE_QUALITY. -/
structure COper where
  /-- Value pair. -/
  v : Pair
  /-- Quality code; 4 for INTEGRITY. -/
  q : Nat
  /-- IGNORE_QUALITY. -/
  ign : Bool
  deriving DecidableEq, Repr

/-- Operand word k of a list (R297). -/
def coper (s : State) (w : Word) : COper := match operandOf s (bits w 15 0) with
  | some (v, q) => { v := v, q := if q.ok then bits q.v 2 0 else 4, ign := bit w 31 }
  | none => { v := nanPair, q := 2, ign := bit w 31 }

/-- The operand is usable (R299). -/
def COper.usable (o : COper) : Bool := o.v.ok && decide (o.q ≤ 1)

/-- The value of an operand on a path: path B takes it from the complement. -/
def COper.val (o : COper) (pathB : Bool) : Word := if pathB then ~~~o.v.c else o.v.v

/-- What a path holds as it runs. -/
structure CRun where
  /-- W0 to W7. -/
  w : List (Nat × Word) := []
  /-- Values stored into slots, the last first. -/
  st : List (Nat × Word) := []
  /-- Quality codes and causes contributed. -/
  quals : List (Nat × Nat) := []
  /-- The result. -/
  res : Word := 0
  deriving DecidableEq, Repr

/-- Register i. -/
def CRun.reg (r : CRun) (i : Nat) : Word := ((r.w.find? fun e => decide (e.1 = i)).map Prod.snd).getD fNan

/-- The contribution of an operand that LDP loads: STALE, BAD and INTEGRITY count as BAD with cause OPERAND (R302). -/
def loadQual (o : COper) : List (Nat × Nat) := if o.ign then [] else if 2 ≤ o.q then [(3, 0x16)] else [(o.q, 0)]

/-- What one step of a path needs from the node. -/
structure CEnv where
  /-- Operands. -/
  ops : List COper
  /-- Constants. -/
  cons : List Word
  /-- Slots as they stood. -/
  slots : List Word
  /-- DT. -/
  dt : Word
  /-- Table at a value. -/
  tab : Nat → Word → Word
  /-- A TAB on the table makes the result BAD. -/
  tabBad : Nat → Bool
  /-- Path B. -/
  pathB : Bool

/-- 1.0 for true (R299). -/
def fBool (b : Bool) : Word := if b then f1 else f0

/-- TRUNC (R299, R300). -/
def fTrunc (w : Word) : Word :=
  if !fIsFin w || fLe (fOfNat 8388608) (fAbs w) then fCanon w
  else
    let n := (fUnits w).natAbs / 2 ^ 149
    fRoundUnits (fNegative w) (n * 2 ^ 149) 1

/-- One step of a path (R299, R300). -/
def cexec (e : CEnv) (r : CRun) (c : CStep) : CRun :=
  let a := r.reg c.a
  let b := r.reg c.b
  let op (k : Nat) : COper := e.ops.getD k { v := nanPair, q := 2, ign := true }
  let grp := ((List.range c.n).map fun i => op (c.k + i)).filter COper.usable
  let vs := grp.map fun o => o.val e.pathB
  let put (v : Word) : CRun := { r with w := (c.d, v) :: r.w }
  let putG (v : Word) : CRun := { r with w := (c.d, v) :: r.w, quals := r.quals ++ grp.map fun o => (o.q, 0) }
  if c.op = 0x01 then { r with w := (c.d, (op c.k).val e.pathB) :: r.w, quals := r.quals ++ loadQual (op c.k) }
  else if c.op = 0x02 then put (e.cons.getD c.k fNan)
  else if c.op = 0x03 then put (e.slots.getD c.k f0)
  else if c.op = 0x04 then { r with st := (c.k, a) :: r.st }
  else if c.op = 0x05 then put a
  else if c.op = 0x06 then put e.dt
  else if c.op = 0x08 then put (fAdd a b)
  else if c.op = 0x09 then put (fSub a b)
  else if c.op = 0x0A then put (fMul a b)
  else if c.op = 0x0B then put (fDiv a b)
  else if c.op = 0x0C then put (fNeg a)
  else if c.op = 0x0D then put (fAbs a)
  else if c.op = 0x0E then put (fSqrt a)
  else if c.op = 0x0F then put (fMin a b)
  else if c.op = 0x10 then put (fMax a b)
  else if c.op = 0x11 then put (fTrunc a)
  else if c.op = 0x12 then { put (e.tab c.k a) with quals := r.quals ++ if e.tabBad c.k then [(3, 0x15)] else [] }
  else if c.op = 0x14 then put (fBool (fLt b a))
  else if c.op = 0x15 then put (fBool (fLe b a))
  else if c.op = 0x16 then put (fBool (fEq a b))
  else if c.op = 0x17 then put (if fIsZero (r.reg c.d) then b else a)
  else if c.op = 0x18 then put (fOfNat (if (op c.k).v.ok then (op c.k).q else 4))
  else if c.op = 0x19 then putG (fMeanSeq vs)
  else if c.op = 0x1A then putG (fOfNat vs.length)
  else if c.op = 0x1B then putG (match vs with
    | [] => fNan
    | x :: t => t.foldl fMin x)
  else if c.op = 0x1C then putG (match vs with
    | [] => fNan
    | x :: t => t.foldl fMax x)
  else if c.op = 0x1D then { r with quals := r.quals ++ if fIsZero a then [] else [(3, 0x17)] }
  else if c.op = 0x3F then { r with res := fCanon a }
  else r

/-- A path run to its END (R299). -/
def crun (e : CEnv) (steps : List Word) : CRun := (steps.map cstep).foldl (cexec e) {}

/-- The worst of the contributions: quality code, and the first cause in order among those BAD (R289, R290, R302). -/
def worstOf (qs : List (Nat × Nat)) : Nat × Nat :=
  let q := (qs.map Prod.fst).foldl max 0
  let cs := (qs.filter fun x => decide (x.1 = 3)).map Prod.snd
  (q, match cs with
    | [] => 0
    | c :: t => t.foldl min c)

/-- Operand indices that an LDP step loads (R52, R300). -/
def loaded (steps : List Word) : List Nat := ((steps.map cstep).filter fun c => decide (c.op = 0x01)).map CStep.k

/-- The outcome of a list (R299 to R302). -/
structure CResult where
  /-- Results of the two paths. -/
  a : Word
  /-- Path B's. -/
  b : Word
  /-- Quality code and cause. -/
  qual : Nat × Nat
  /-- Slots stored: number, path A's and path B's last values. -/
  slots : List (Nat × Word × Word)
  /-- Pairs of loaded operands of this node that fail. -/
  bad : List Pair
  /-- Pairs of loaded operands of the replica that fail. -/
  rep : List Pair
  deriving DecidableEq, Repr

/-- Value and quality pairs of an operand point, as held (R52, R60). -/
def operPairs (s : State) (p : Nat) : List Pair := match tget s.points p, tget s.canvas.replica p with
  | some l, _ => [l.pub.value, l.pub.quality]
  | none, some r => [r.pub.value, r.pub.quality]
  | none, none => []

/-- The pairs that fail among the operands an LDP loads, those of this node's points or those of the replica (R52, R60). -/
def operBad (s : State) (l : Nat) (own : Bool) : List Pair :=
  let ws := (loaded (cfgCalcStepsA s l)).eraseDups.filterMap fun k => (cfgCalcOperands s l)[k]?
  ((ws.map fun w => bits w 15 0).filter fun p => (tget s.points p).isSome == own).flatMap (operPairs s) |>.filter fun p => !p.ok

/-- The list that computes point p: the one whose TARGET_POINT names it, of this node or of a duty image in effect
(R286, R287, R403). -/
def listOf (s : State) (p : Nat) : Option Nat :=
  let hit (t : Tab Sect) : Option Nat :=
    match tget t 10 with
    | none => none
    | some c => (c.ents.find? fun e => match tget e.2.fields 1 with
      | some v => decide ((v.ws.headD 0).toNat = p)
      | none => false).map Prod.fst
  match hit s.cfg.run with
  | some l => some l
  | none => s.cfg.duty.findSome? fun d => (hit d.2).map fun l => 65536 * (d.1 + 1) + l

/-- The table that a TAB step of list l names: one of the list's own node (R299, R403). -/
def tableOf (l k : Nat) : Nat := l / 65536 * 65536 + k

/-- The class period in seconds as binary32 (R299). -/
def classSeconds (cls : Nat) : Word := fRat ((classTicks cls : Nat) : Int) 1024000

/-- List l run for a point at tick t (R299 to R302). -/
def calcRun (s : State) (l : Nat) (c : CalcSt) (cls tick : Nat) : CResult :=
  let ops := (cfgCalcOperands s l).map (coper s)
  let dt := match c.lastTick with
    | none => classSeconds cls
    | some t => fRat ((tick - t : Nat) : Int) 1024000
  let env (b : Bool) : CEnv :=
    { ops := ops, cons := cfgCalcConstants s l, slots := c.slots.toList.map fun p => if b then ~~~p.c else p.v, dt := dt
      tab := fun k => tableEval s (tableOf l k), tabBad := fun k => !tableOk s (tableOf l k) || tableSuspect s (tableOf l k)
      pathB := b }
  let ra := crun (env false) (cfgCalcStepsA s l)
  let rb := crun (env true) (cfgCalcStepsB s l)
  let last (r : CRun) (k : Nat) : Option Word := (r.st.find? fun e => decide (e.1 = k)).map Prod.snd
  let fin := if fIsFin ra.res then [] else [(3, 0x17)]
  { a := ra.res, b := rb.res, qual := worstOf (ra.quals ++ fin)
    slots := (List.range 4).filterMap fun k => match last ra k, last rb k with
      | some x, some y => some (k, fCanon x, fCanon y)
      | _, _ => none
    bad := operBad s l true, rep := operBad s l false }

/-- The slots after an evaluation that is no integrity failure (R301). -/
def putSlots (c : CalcSt) (r : CResult) : CalcSt :=
  { c with slots := Vector.ofFn fun i : Fin 4 => match r.slots.find? fun e => decide (e.1 = i.val) with
      | some (_, x, y) => ⟨x, ~~~y⟩
      | none => vat c.slots i }

end Sys2Proof.Machine
end

