-- ==== Sys2Proof/Machine/Drive.lean ====
section
/-! DEFINITION. What each output carries: the ranks of R239 and R269, Felt's safe states and the patterns, and the wake of
the quad that owns a point. -/

namespace Sys2Proof.Machine
open Sys2Proof

/-- UAI n. -/
def uaiAt (s : State) (n : Fin 16) : Uai := vat s.uai n
/-- Loop output n. -/
def aoAt (s : State) (n : Fin 4) : Ao := vat s.ao n
/-- Digital input n. -/
def diAt (s : State) (n : Fin 16) : Di := vat s.disc.di n
/-- Digital output n. -/
def doAt (s : State) (n : Fin 8) : Do := vat s.disc.do_ n
/-- Energy-limited port p. -/
def portAt (s : State) (p : Fin 20) : Port := vat s.field.ports p
/-- Felt's hold on output o: 0 to 3 loop outputs, 4 to 11 digital outputs. -/
def feltAt (s : State) (o : Fin 12) : FeltCmd := vat s.field.felt o

/-- The port of loop output n. -/
def aoPort (n : Fin 4) : Fin 20 := ⟨16 + n.val, by omega⟩
/-- The port of UAI n. -/
def uaiPort (n : Fin 16) : Fin 20 := ⟨n.val, by omega⟩
/-- Felt's number of loop output n. -/
def aoOut (n : Fin 4) : Fin 12 := ⟨n.val, by omega⟩
/-- Felt's number of digital output n. -/
def doOut (n : Fin 8) : Fin 12 := ⟨4 + n.val, by omega⟩
/-- CHANNEL INDEX of Felt's output o (R83). -/
def outChan (o : Fin 12) : Nat := if o.val < 4 then 16 + o.val else 32 + o.val

/-! Safe states (R240, R270; log entry 15). -/

/-- The setting pair of loop output n's safe state: its current, NaN for the last command (R240; log entry 15). -/
def aoSafePair (s : State) (n : Nat) : Pair :=
  Pair.mk0 (match (cfgAoSafeState s n).toNat with
    | 1 => cfgAoFailLowMa s n
    | 2 => cfgAoFailHighMa s n
    | 3 => fNan
    | 4 => cfgAoSafeMa s n
    | _ => 0)

/-- The setting pair of digital output n's safe state: [9:8] SAFE_STATE, [2:0] SAFE_PATTERN (R270; log entry 15). -/
def doSafePair (s : State) (n : Nat) : Pair :=
  Pair.mk0 (at' 8 (bits (cfgDoSafeState s n) 1 0) ||| w32 (bits (cfgDoSafePattern s n) 2 0))

/-- The setting pair of output o. -/
def safePair (s : State) (o : Fin 12) : Pair := if o.val < 4 then aoSafePair s o.val else doSafePair s (o.val - 4)

/-- The mode word loaded for output o: [3:0] ROLE, [4] SAFEN_ACTION (R97, R230, R241). -/
def outMode (s : State) (o : Fin 12) : Word :=
  if o.val < 4 then w32 (bits (cfgAoRole s o.val) 3 0) ||| flag 4 (decide (cfgAoSafenAction s o.val = 1))
  else w32 (bits (cfgDoRole s (o.val - 4)) 3 0) ||| flag 4 (decide (cfgDoSafenAction s (o.val - 4) = 1))

/-- Felt uses the de-energised state in place of a setting that fails its check (R63). -/
def settingFail (f : FeltCmd) : Bool := match f.safe with
  | some p => !p.ok
  | none => false

/-- The last command a safe state continues: the one before SAFEn while that holds the output (R240, R241, R270, R271). -/
def lastCmd (s : State) (f : FeltCmd) (before : Option Pair) : Word :=
  match (if s.disc.dieSafen && bit f.mode 4 then before else f.cmd) with
  | some p => p.v
  | none => 0

/-- The safe current of loop output n (R240, R63). -/
def aoSafe (s : State) (n : Fin 4) : Word :=
  let f := feltAt s (aoOut n)
  match f.safe with
  | none => 0
  | some p => if !p.ok then 0 else if fIsNan p.v then lastCmd s f (aoAt s n).safeBefore else p.v

/-- The safe pattern of digital output n (R270, R63). -/
def doSafe (s : State) (n : Fin 8) : Nat :=
  let f := feltAt s (doOut n)
  match f.safe with
  | none => 0
  | some p =>
    if !p.ok then 0
    else match bits p.v 9 8 with
      | 1 => bits (lastCmd s f (doAt s n).safeBefore) 2 0
      | 2 => bits p.v 2 0
      | _ => 0

/-! What an output carries (R239, R269). -/

/-- Eight milliamperes, the limit of FOLDBACK (R165). -/
def f8mA : Word := fOfNat 8

/-- Ranks 3 to 8 of R239 for loop output n. -/
def aoRankLow (s : State) (n : Fin 4) : AoDrive × Word :=
  let f := feltAt s (aoOut n)
  let a := aoAt s n
  match f.cmd, f.started with
  | some c, true =>
    if s.disc.dieSafen && bit f.mode 4 then (.safen, aoSafe s n)
    else if f.timedOut then (.feltTimeout, aoSafe s n)
    else if a.sent && !chanReady s (16 + n.val) then (.notReady, aoSafe s n)
    else if a.manual then (.manual, c.v)
    else (a.by_, c.v)
  | _, _ => (.noSetting, 0)

/-- The rank of R239 in force for loop output n, and its current; a retry of FOLDBACK restores full current (R165). -/
def aoRank (s : State) (n : Fin 4) : AoDrive × Word :=
  if !s.field.running then (.off, 0)
  else
    let p := portAt s (aoPort n)
    match p.st with
    | .off => (.off, 0)
    | .foldback => (.foldback, if p.retrying then (aoRankLow s n).2 else fMin f8mA (aoRankLow s n).2)
    | _ => aoRankLow s n

/-- exp(−ms / 10 ms), what a first-order filter of 10 ms leaves of a step after so many milliseconds (R248; log entry 101). -/
def decay (ms : Nat) : Word := if 200 ≤ ms then 0 else fRat (904837418 ^ ms : Nat) (10 ^ (9 * ms))

/-- The terminal current of loop output n: the applied current, reached through the filter where it has HART (R248). -/
def termCurrent (s : State) (n : Fin 4) : Word :=
  let a := aoAt s n
  if a.hartFilter then fAdd a.applied (fMul (fSub a.from_ a.applied) (decay (now s - a.changedAt))) else a.applied

/-- A change to the current of this rank bypasses the filter: ranks 1, 3, 4 and 5 of R239 (R248). -/
def AoDrive.bypasses : AoDrive → Bool
  | .off => true
  | .noSetting => true
  | .safen => true
  | .feltTimeout => true
  | _ => false

/-- Loop output n follows the rank in force (R239, R248). -/
def refreshAo (s : State) (n : Fin 4) : State :=
  let r := aoRank s n
  let start := if r.1.bypasses then r.2 else termCurrent s n
  if r.2 = (aoAt s n).applied then (if r.1.bypasses then s.modAo n fun a => { a with from_ := start } else s)
  else s.modAo n fun a => { a with applied := r.2, from_ := start, changedAt := now s }

/-! ACQ_TICK (R211). -/

/-- ACQ_TICK now: 10 000 ticks a millisecond on from where it was last read. -/
def acqNow (s : State) : BitVec 64 := s.disc.acqTick + BitVec.ofNat 64 ((now s - s.disc.acqAt) * 10000)

/-- The field die's count has reached a tick. -/
def acqReach (s : State) (tick : BitVec 64) : State :=
  if (acqNow s).toNat < tick.toNat then { s with disc := { s.disc with acqTick := tick, acqAt := now s } } else s

/-- The pattern is energised at this ACQ_TICK (R268). -/
def patternOn (code tick : Nat) : Bool :=
  let t := tick % 20000000
  match code with
  | 1 => true
  | 2 => decide (t % 10000000 < 5000000)
  | 3 => decide (t % 5000000 < 2500000)
  | 4 => decide (t < 10000000)
  | 5 => decide (t < 2000000)
  | 6 => decide (t < 2000000 ∨ (4000000 ≤ t ∧ t < 6000000))
  | _ => false

/-- SUPPLY_OFF of digital output n, the wait for its turn to restart included (R276). -/
def doSupplyOff (s : State) (n : Fin 8) : Bool := !s.field.suppliesOn || (doAt s n).waitRestart

/-- The DRIVE code of R269 in force for digital output n, and its pattern (R282). -/
def doRank (s : State) (n : Fin 8) : Nat × Nat :=
  let f := feltAt s (doOut n)
  let d := doAt s n
  if !s.field.running || doSupplyOff s n || d.thermal || d.latched || d.shed then (0, 0)
  else match f.cmd, f.started with
    | some c, true =>
      if s.disc.dieSafen && bit f.mode 4 then (2, doSafe s n)
      else if f.timedOut then (3, doSafe s n)
      else if d.sent && !chanReady s (36 + n.val) then (4, doSafe s n)
      else if d.manual then (5, bits c.v 2 0)
      else (d.by_, bits c.v 2 0)
    | _, _ => (1, 0)

/-- Digital output n follows the rank in force at the present phase of its pattern (R268, R275). -/
def refreshDo (s : State) (n : Fin 8) : State :=
  let on := patternOn (doRank s n).2 (acqNow s).toNat && !(doAt s n).reverse
  s.modDo n fun d => { d with energised := on }

/-- Every output follows the rank in force. -/
def refreshOuts (s : State) : State :=
  (List.finRange 8).foldl refreshDo ((List.finRange 4).foldl refreshAo s)

/-- Output o follows the rank in force. -/
def refreshOut (s : State) (o : Fin 12) : State :=
  if h : o.val < 4 then refreshAo s ⟨o.val, h⟩ else refreshDo s ⟨o.val - 4, by omega⟩

/-! SAFEn in the field die (R241, R271). -/

/-- The command each output held before SAFEn was asserted (R241, R271). -/
def keepBefore (s : State) : State :=
  let s1 := (List.finRange 4).foldl (fun s n => s.modAo n fun a => { a with safeBefore := (feltAt s (aoOut n)).cmd }) s
  (List.finRange 8).foldl (fun s n => s.modDo n fun d => { d with safeBefore := (feltAt s (doOut n)).cmd }) s1

/-- The field die receives the qualified state of SAFEn: at an assertion each output's last command is kept (R241, R271). -/
def dieSafenTo (s : State) (low : Bool) : State :=
  let s1 := if low && !s.disc.dieSafen then keepBefore s else s
  { s1 with disc := { s1.disc with dieSafen := low, safenSent := true } }

/-! Wakes (R27, R30). -/

/-- The quad of an engine: four engines to each (R15). -/
def quadOf (e : Fin 16) : Fin 4 := ⟨e.val / 4, by omega⟩

/-- A wake is pending for the quad that owns point p (R30, R257, R277). -/
def wakePoint (s : State) (p : Nat) : State :=
  match s.canvas.tasks.find? fun t => isPointTask s p t.2 with
  | some t => match t.2.primary with
    | some e => { s with gauze := { s.gauze with
        wakes := s.gauze.wakes ||| (1#4 <<< (quadOf e).val), due := if s.gauze.due.contains t.1 then s.gauze.due else s.gauze.due ++ [t.1] } }
    | none => s
  | none => s

/-- The points of this node conditioned from UAI n (R286). -/
def channelPoints (s : State) (n : Nat) : List Nat :=
  (ownPoints s).filter fun p => decide (cfgPtSource s p = 0) && decide ((cfgPtChannel s p).toNat = n)

/-! HART as polled (R200, R208, R248). -/

/-- A channel fed by the loop supplies: LOOP_NODE, IEPE or FREQUENCY (R187). -/
def supplyMode (m : Nat) : Bool := decide (m = 1 ∨ m = 7 ∨ m = 8)

/-- HART channel c. -/
def hartAt (s : State) (c : Fin 20) : HartDev := vat s.hart c

/-- Channel c has a HART device entity (R203). -/
def hartUsed (s : State) (c : Fin 20) : Bool := cfgHas s 18 (c.val * 65536)

/-- Polling is suspended: the port in SL_TRIPPED, SL_PROBING, FOLDBACK or OFF, the supply off, or an output held by rank 1
to 5 of R239 (R200, R248). -/
def hartSuspended (s : State) (c : Fin 20) : Bool :=
  match (portAt s c).st with
  | .off => true
  | .slProbing => true
  | .slTripped => true
  | .foldback => true
  | _ =>
    if h : 16 ≤ c.val then
      match (aoRank s ⟨c.val - 16, by omega⟩).1 with
      | .off => true
      | .foldback => true
      | .noSetting => true
      | .safen => true
      | .feltTimeout => true
      | _ => false
    else supplyMode (bits (uaiAt s ⟨c.val, by omega⟩).mode 3 0) && !s.field.suppliesOn

/-- STATE of channel c as shown (R200, R208). -/
def hartState (s : State) (c : Fin 20) : HartState :=
  if !hartUsed s c || !chanReady s c.val then .off
  else if hartSuspended s c then .suspended
  else (hartAt s c).st


end Sys2Proof.Machine
end

