-- ==== Sys2Proof/Machine/Field.lean ====
section
/-! DEFINITION. The field die: its start and stop, VFLD, the energy-limited ports, and Felt's hold on the outputs
(R62, R63, R95 to R98, R155 to R168). -/

namespace Sys2Proof.Machine
open Sys2Proof

/-! Energy-limited ports (R158 to R165). -/

/-- The code of PORT_STATE (R162). -/
def PortState.code : PortState → Nat
  | .off => 0
  | .passive => 1
  | .slProbing => 2
  | .slOn => 3
  | .slTripped => 4
  | .lockedPassive => 5
  | .foldback => 6

/-- The code of LAST_CAUSE (R162). -/
def tripCode : TripCause → Nat
  | .none_ => 0
  | .currentFall => 1
  | .currentRise => 2
  | .voltageStep => 3
  | .powerLimit => 4
  | .probeFailed => 5
  | .selfTest => 6

/-- ENERGY_STATUS (R162). -/
def energyStatus (p : Port) : Word :=
  at' 16 p.tripCount.toNat ||| at' 8 p.st.code ||| flag 7 p.selfTestFail ||| flag 6 p.cableC ||| w32 (tripCode p.cause)

/-- Some port stands in LOCKED_PASSIVE. -/
def anyLocked (s : State) : Bool := (List.finRange 20).any fun p => (portAt s p).st == .lockedPassive

/-- The record of a transition into SL_TRIPPED or LOCKED_PASSIVE (R160, R490). -/
def energyRec (s : State) (p : Fin 20) : State :=
  if up s && ((portAt s p).st == .slTripped || (portAt s p).st == .lockedPassive) then
    stage s (mkRec s .d 0x46 (subj s 2 p.val) 0 [energyStatus (portAt s p)])
  else s

/-- ENERGY_LOCKED follows the ports (R160, R332). -/
def lockedCond (s : State) : State := if up s then sysSet s 0x0F (anyLocked s) else s

/-- A loop output's current follows its port. -/
def refreshPort (s : State) (p : Fin 20) : State := if h : 16 ≤ p.val then refreshAo s ⟨p.val - 16, by omega⟩ else s

/-- Port p passed through f, with what a change of its state brings (R160). -/
def portTo (s : State) (p : Fin 20) (f : Port → Port) : State :=
  let s1 := s.modPort p f
  refreshPort (lockedCond (if (portAt s1 p).st == (portAt s p).st then s1 else energyRec s1 p)) p

/-- The channel of port p is in use: MODE of a UAI or ROLE of a loop output is not OFF, as loaded into the field die. -/
def portUsed (s : State) (p : Fin 20) : Bool :=
  if h : p.val < 16 then decide (bits (uaiAt s ⟨p.val, h⟩).mode 3 0 ≠ 0)
  else decide (bits (feltAt s ⟨p.val - 16, by omega⟩).mode 3 0 ≠ 0)

/-- A port leaves OFF (R160, R168). -/
def portStart (p : Port) : Port :=
  if p.from_ == .lockedPassive then { p with st := .lockedPassive, from_ := .passive, firstProbeDone := true }
  else if p.mode = 1 then
    { p with st := .slProbing, probing := false, ramping := false, afterTrip := false, probesFailed := 0 }
  else { p with st := .passive, firstProbeDone := true }

/-- A port goes to OFF because the loop supplies are off; a lock outlasts it (R160, R168). -/
def portOff (p : Port) : Port :=
  let lock := p.st == .lockedPassive || (p.st == .foldback && p.from_ == .lockedPassive) ||
    (p.st == .off && p.from_ == .lockedPassive)
  { p with st := .off, from_ := if lock then .lockedPassive else .passive
           probing := false, ramping := false, retrying := false, supplyMv := 0 }

/-- The loop supplies are enabled, and port p leaves OFF where its channel is in use and its settings are loaded (R160). -/
def startPort (s : State) (p : Fin 20) : State :=
  let q := portAt s p
  if q.st == .off && q.loaded && s.field.suppliesOn && portUsed s p then portTo s p portStart else s

/-- Measured capacitance within 1.25 × CABLE_C_NF + 5 nF and within the group's limit (R159, R156). -/
def capOk (p : Port) (pf : Nat) : Bool :=
  decide (4 * pf ≤ 5000 * p.capC + 20000) && decide (pf ≤ if p.gasGroup = 2 then 150000 else 50000)

/-- A trip from SL_ON: counted, and the fifth within 10 s locks the port (R160, R162). -/
def tripPort (s : State) (p : Fin 20) (cause : TripCause) : State :=
  let ts := now s :: (portAt s p).trips.filter fun t => decide (now s < t + 10000)
  let s1 := portTo s p fun q => { q with
    st := .slTripped, tripCount := satInc q.tripCount, cause := cause, trips := ts, probesFailed := 0, tripAt := now s }
  if 5 ≤ ts.length then portTo s1 p fun q => { q with st := .lockedPassive, trips := [], firstProbeDone := true } else s1

/-- The TRIP flag reaches the newest diagnostic word of port p, and the owning quads wake (R30, R158, R187). -/
def tripFlag (s : State) (p : Fin 20) : State :=
  if h : p.val < 16 then
    let n : Fin 16 := ⟨p.val, h⟩
    let s1 := s.modUai n fun u =>
      let w := u.outFlags ||| 0x80
      { u with outFlags := w, dieDiag := ⟨w, ~~~w⟩, absentRun := u.absentRun.set 7 0 }
    if chanReady s p.val then (channelPoints s p.val).foldl wakePoint s1 else s1
  else s

/-- DETECTOR_TRIP; a trip during the ramp is no trip from SL_ON (R155, R158, R160). -/
def execDetectorTrip (port : Fin 20) (cause : TripCause) (s : State) : Host.Outcome State Fault Refusal :=
  match (portAt s port).st with
  | .slOn => .next (tripFlag (tripPort s port cause) port)
  | .slProbing =>
    doIf (portAt s port).ramping s (tripFlag (portTo s port fun q => { q with
      st := .slTripped, ramping := false, cause := cause, tripAt := now s }) port)
  | _ => .next s

/-- The next probe of a tripped port is due: 20 ms on, 1 000 ms once 50 have failed; in a logic-side reset, in which the model's
clock stands, at once (R158, R159; log entry 3). -/
def probeDue (s : State) (p : Port) : Bool :=
  !up s || decide (p.tripAt + (if p.probesFailed < 50 then 20 else 1000) ≤ now s)

/-- PROBE_START (R159, R160). -/
def execProbeStart (port : Fin 20) (s : State) : Host.Outcome State Fault Refusal :=
  match (portAt s port).st with
  | .slTripped => doIf (probeDue s (portAt s port)) s
      (portTo s port fun q => { q with st := .slProbing, afterTrip := true, probing := true })
  | .slProbing =>
    doIf (!(portAt s port).probing && !(portAt s port).ramping) s (s.modPort port fun q => { q with probing := true })
  | _ => .next s

/-- The end of a probe (R159 to R161): the switch check first, then capacitance, then current and voltage. -/
def probeEnd (s : State) (port : Fin 20) (ua mv pf : Nat) (switchOk : Bool) : State :=
  let p := portAt s port
  if !switchOk then
    portTo s port fun q => { q with
      st := .lockedPassive, probing := false, selfTestFail := true, cause := .selfTest, firstProbeDone := true }
  else if !capOk p pf then
    portTo s port fun q => { q with
      st := .lockedPassive, probing := false, cableC := true, cause := .probeFailed, firstProbeDone := true }
  else if ua < 500 ∨ mv < 1000 then
    portTo s port fun q => { q with
      st := .slTripped, probing := false, probesFailed := q.probesFailed + 1, cause := .probeFailed, tripAt := now s }
  else s.modPort port fun q => { q with probing := false, ramping := true, probesFailed := 0, firstProbeDone := true }

/-- PROBE_COMPLETE with the terminal current in µA and voltage in mV at its end, and the capacitance in pF (R159). -/
def execProbeComplete (port : Fin 20) (ua mv pf : Nat) (switchOk : Bool) (s : State) : Host.Outcome State Fault Refusal :=
  doIf ((portAt s port).st == .slProbing && (portAt s port).probing) s (probeEnd s port ua mv pf switchOk)

/-- RAMP_COMPLETE (R159, R160). -/
def execRampComplete (port : Fin 20) (s : State) : Host.Outcome State Fault Refusal :=
  doIf ((portAt s port).st == .slProbing && (portAt s port).ramping) s
    (portTo s port fun q => { q with st := .slOn, ramping := false, afterTrip := false })

/-- A failed self-test locks the port (R161). -/
def lockSelfTest (s : State) (port : Fin 20) : State :=
  portTo s port fun q => { q with
    st := .lockedPassive, selfTestFail := true, cause := .selfTest, probing := false, ramping := false, firstProbeDone := true }

/-- SPARK_SELF_TEST (R161). -/
def execSparkSelfTest (port : Fin 20) (pass : Bool) (s : State) : Host.Outcome State Fault Refusal :=
  doIf (!pass && ((portAt s port).st == .slOn || (portAt s port).st == .slTripped)) s (lockSelfTest s port)

/-- A write that keeps manual control of a loop output or digital output alive (R242). -/
def touchManual (s : State) (o : Fin 12) : State :=
  if h : o.val < 4 then s.modAo ⟨o.val, h⟩ fun a => if a.manual then { a with manualAt := now s } else a
  else s.modDo ⟨o.val - 4, by omega⟩ fun d => if d.manual then { d with manualAt := now s } else d

/-- A write of OUTPUT_CONTROL of the loop output whose port this is. -/
def touchPort (s : State) (p : Fin 20) : State := if h : 16 ≤ p.val then touchManual s ⟨p.val - 16, by omega⟩ else s

/-- RESTORE_ENERGY: clears the two causes; a passing self-test lets a locked port probe again (R160, R162). -/
def restoreEnergy (s : State) (port : Fin 20) (selfTest : Bool) : State :=
  let s := touchPort s port
  if (portAt s port).st == .lockedPassive then
    if selfTest then
      portTo s port fun q => { q with
        st := .slProbing, selfTestFail := false, cableC := false, afterTrip := false, probing := false, ramping := false
        probesFailed := 0, trips := [] }
    else s.modPort port fun q => { q with selfTestFail := true, cableC := false, cause := .selfTest }
  else s.modPort port fun q => { q with selfTestFail := false, cableC := false }

/-- RESTORE_ENERGY (R160, R207, R253). -/
def execRestoreEnergy (r : Req) (port : Fin 20) (selfTest : Bool) (s : State) : Host.Outcome State Fault Refusal :=
  doIf (may s r 2 && chanReady s port.val) s (restoreEnergy s port selfTest)

/-- FOLDBACK_ENTRY (R160, R165). -/
def execFoldbackEntry (port : Fin 20) (s : State) : Host.Outcome State Fault Refusal :=
  let st := (portAt s port).st
  doIf (st == .passive || st == .lockedPassive) s
    (portTo s port fun q => { q with st := .foldback, from_ := q.st, retrying := false })

/-- FOLDBACK_RETRY_START (R165). -/
def execFoldbackRetryStart (port : Fin 20) (s : State) : Host.Outcome State Fault Refusal :=
  doIf ((portAt s port).st == .foldback) s (portTo s port fun q => { q with retrying := true })

/-- FOLDBACK_RETRY_END; `heldCond` says that the condition of R160 held within the retry (R165). -/
def execFoldbackRetryEnd (port : Fin 20) (heldCond : Bool) (s : State) : Host.Outcome State Fault Refusal :=
  doIf ((portAt s port).st == .foldback && (portAt s port).retrying) s
    (if heldCond then portTo s port fun q => { q with retrying := false }
     else portTo s port fun q => { q with st := q.from_, retrying := false, from_ := .passive })

/-- The series element in ohms (R164). -/
def seriesOhms (p : Port) : Nat := match p.st with
  | .slProbing => 4
  | .slOn => 4
  | .slTripped => 4
  | _ => 275

/-- The voltage behind the limiter that R163 asks for, in mV. -/
def supplyTarget (p : Port) (termMv ua head : Nat) : Nat :=
  min (if seriesOhms p = 4 then 25500 else 24800) (termMv + ua * seriesOhms p / 1000 + head)

/-- One adjustment of a loop supply; with HART active it slews at most 0.2 V/ms unless the headroom is below half its
setting (R163). -/
def adjustSupply (p : Port) (termMv ua headMv head : Nat) (hart : Bool) : Port :=
  let t := supplyTarget p termMv ua head
  let v := if hart && !(decide (2 * headMv < head) && decide (p.supplyMv ≤ t)) then
      max (p.supplyMv - 200) (min (p.supplyMv + 200) t) else t
  { p with supplyMv := v }

/-- LOOP_SUPPLY_ADJUST with the measured terminal voltage, current and headroom (R163). -/
def execLoopSupplyAdjust (port : Fin 20) (termMv ua headMv : Nat) (s : State) : Host.Outcome State Fault Refusal :=
  doIf ((portAt s port).st != .off) s
    (s.modPort port fun q =>
      adjustSupply q termMv ua headMv q.headMv (hartState s port == .polling))

/-! Loading settings into the field die (R83, R97, R179, R255). -/

/-- The mode word of a UAI: [3:0] MODE, [7:4] RANGE, [11:8] SENSOR_TYPE, [15:12] WIRING, [19:16] RATE (R174 to R177). -/
def uaiModeWord (s : State) (n : Nat) : Word :=
  w32 (bits (cfgUaiMode s n) 3 0) ||| at' 4 (bits (cfgUaiRange s n) 3 0) ||| at' 8 (bits (cfgUaiSensorType s n) 3 0) |||
    at' 12 (bits (cfgUaiWiring s n) 3 0) ||| at' 16 (bits (cfgUaiRate s n) 3 0)

/-- Energy settings of a port loaded; a port whose energy mode changes or whose channel goes OFF starts from OFF (R160). -/
def loadPort (s : State) (p : Fin 20) : State :=
  let m : BitVec 2 := BitVec.ofNat 2 (cfgPrtEnergyMode s p.val).toNat
  let drop := !portUsed s p || ((portAt s p).loaded && (portAt s p).mode != m)
  let s1 := if drop then portTo s p fun q => { portOff q with from_ := .passive } else s
  startPort (s1.modPort p fun q => { q with
    mode := m, capC := (cfgPrtCableCNf s p.val).toNat, gasGroup := BitVec.ofNat 2 (cfgPrtGasGroup s p.val).toNat
    slPower := (cfgPrtSlPowerMw s p.val).toNat, headMv := (cfgPrtLoopHeadroomMv s p.val).toNat, loaded := true }) p

/-- The next channel the spare visits from n upwards: not OFF, not FREQUENCY, not the channel it has replaced (R189). -/
def spareNext (s : State) (n : Nat) : Option (Fin 16) :=
  ((List.range 16).map fun i => (⟨(n + i) % 16, by omega⟩ : Fin 16)).find? fun c =>
    let m := bits (uaiAt s c).mode 3 0
    decide (m ≠ 0) && decide (m ≠ 8) && decide (s.spare.spared ≠ some c)

/-- The spare begins its next visit where it is at none (R189). -/
def spareStart (s : State) : State :=
  if s.spare.fail || s.spare.at_.isSome then s
  else match spareNext s s.spare.next.val with
    | none => s
    | some c => { s with spare := { s.spare with at_ := some c, phase := 1, visitFail2 := false } }

/-- The settings of a universal input that its diagnostics use (R97, R198). -/
def uaiSettings (s : State) (n : Nat) : UaiSet :=
  { low := cfgUaiNe43Low s n, high := cfgUaiNe43High s n, thr := cfgUaiFreqThreshold s n, timeoutMs := (cfgUaiFreqTimeout s n).toNat }

/-- UAI n's settings loaded; settling begins (R179). -/
def loadUai (s : State) (n : Fin 16) : State :=
  if (uaiAt s n).sent then s
  else loadPort (s.modUai n fun u => { u with
    mode := uaiModeWord s n.val, settlingDone := false, readySample := false, sent := true
    freqOn := false, freqPeak := 0, freqFrom := none, freqLast := none, freqCount := 0 }) (uaiPort n)

/-- The settings of a digital input that the field die holds (R255). -/
def diSettings (s : State) (n : Nat) : List Word :=
  [cfgDiDiMode s n, cfgDiSamplePeriod s n, cfgDiCountLimit s n, cfgDiLineMonitor s n, cfgDiPulseEdge s n]

/-- DI n's settings loaded where they have not been sent or differ; differing ones restart the filter (R255, R256). -/
def loadDi (s : State) (n : Fin 16) : State :=
  let ws := diSettings s n.val
  let d := diAt s n
  if d.loaded && decide (d.settings = ws) then s
  else s.modDi n fun d =>
    if d.settings = ws then { d with loaded := true, settling := true }
    else { d with loaded := true, settling := true, settings := ws, filtered := false, counter := 0 }

/-- Felt holds a checking setting and a checking command together (R62). -/
def FeltCmd.startIf (f : FeltCmd) : FeltCmd :=
  { f with started := f.started || (f.cmd.isSome && (f.safe.map Pair.ok == some true)) }

/-- Output o's mode and safe-state setting loaded, its setting again where an amendment changed it, and its live settings; an
output whose ROLE has become 0 has its port go OFF (R63, R97, R230). -/
def loadOut (s : State) (o : Fin 12) : State :=
  let m := outMode s o
  let f := feltAt s o
  let sent := if h : o.val < 4 then (aoAt s ⟨o.val, h⟩).sent else (doAt s ⟨o.val - 4, by omega⟩).sent
  let due := decide (bits m 3 0 ≠ 0) && (!sent || decide (f.safe.map Pair.v ≠ some (safePair s o).v))
  let s1 := s.modFelt o fun f => { f with mode := m, safe := if due then some (safePair s o) else f.safe }.startIf
  if h : o.val < 4 then
    let n : Fin 4 := ⟨o.val, h⟩
    let s2 := if sent && portUsed s1 (aoPort n) then s1 else loadPort s1 (aoPort n)
    s2.modAo n fun a => { a with
      sent := true, tol := cfgAoReadbackTolerance s n.val, openTest := decide (cfgAoOpenTest s n.val = 1)
      hartFilter := hartUsed s (aoPort n) }
  else
    let n : Fin 8 := ⟨o.val - 4, by omega⟩
    s1.modDo n fun d => { d with sent := true, openTest := BitVec.ofNat 2 (cfgDoOpenLoadTest s n.val).toNat }

/-- Every setting not yet sent, and every live one, goes to the field die (R96, R97). -/
def loadField (s : State) : State :=
  if s.cfg.absent || decide (s.cfg.phasesDone = 0) then s
  else
    let s1 := (List.finRange 16).foldl loadDi ((List.finRange 16).foldl loadUai s)
    let s1 := (List.finRange 16).foldl (fun s n => s.modUai n fun u => { u with set := uaiSettings s n.val }) s1
    let s2 := (List.finRange 12).foldl loadOut s1
    let s3 := (List.finRange 20).foldl
      (fun s p => s.modPort p fun q => { q with
        slPower := (cfgPrtSlPowerMw s p.val).toNat, headMv := (cfgPrtLoopHeadroomMv s p.val).toNat }) s2
    spareStart { s3 with field := { s3.field with feltTimeout := (cfgFldFeltTimeout s).toNat } }

/-! Felt (R62, R63). -/

/-- The command the logic side sends for output o: the manual value in manual, else the command formed unless it is
withheld after integrity failures (R62, R237, R242; log entry 17). -/
def outCmd (s : State) (o : Fin 12) : Option Pair :=
  if h : o.val < 4 then
    let a := aoAt s ⟨o.val, h⟩
    if a.manual then some a.manualMa else if a.haveCmd && !a.stopped then some a.command else none
  else
    let d := doAt s ⟨o.val - 4, by omega⟩
    if d.manual then some d.manualPat else if d.haveCmd && !d.stopped then some d.command else none

/-- Felt takes a copy of output o's command (R62). -/
def takeCmd (s : State) (o : Fin 12) (p : Pair) : State :=
  if p.ok then s.modFelt o fun f => { f with cmd := some p, ageMs := 0, timedOut := false, failRun := false }.startIf
  else
    let s1 := if (feltAt s o).failRun then perfAdd s 0x9B00 1 else pairFail s 11 (subj s 2 (outChan o)) [p]
    s1.modFelt o fun f => { f with failRun := true }

/-- A setting held by Felt is struck: counted as a failing pair where it fails now and did not before (R60, R63). -/
def strikeSafe (s : State) (o : Fin 12) (upset : Word) : State :=
  match (feltAt s o).safe with
  | none => s
  | some p =>
    let q : Pair := ⟨p.v, p.c ^^^ upset⟩
    let s1 := s.modFelt o fun f => { f with safe := some q }
    if p.ok && !q.ok then pairFail s1 11 (subj s 2 (outChan o)) [q] else s1

/-- One frame with every command and setting reaches the field die (R62, R63, R271). -/
def feltFrame (s : State) (out : Fin 12) (upCmd upSafe : Word) : State :=
  let s1 := dieSafenTo (strikeSafe (loadField s) out upSafe) s.disc.safen
  let s2 := (List.finRange 12).foldl (fun s o => match outCmd s o with
    | some p => takeCmd s o (if o = out then ⟨p.v, p.c ^^^ upCmd⟩ else p)
    | none => s) s1
  refreshOuts s2

/-- FELT_FRAME_RECEIVE: `upCmd` and `upSafe` flip bits of the complements of output `out`'s command and held setting
(R62, R63, R68). -/
def execFeltFrameReceive (crcOk : Bool) (out : Fin 12) (upCmd upSafe : Word) (s : State) :
    Host.Outcome State Fault Refusal :=
  doIf (s.field.running && linkReady s) s (if crcOk then feltFrame s out upCmd upSafe else perfAdd s 0x6001 1)

/-- LINK_HEARTBEAT_SEND: one frame more on the link, and Felt's command ages grow by its 1 ms (R62). -/
def execLinkHeartbeatSend (s : State) : Host.Outcome State Fault Refusal :=
  doIf (linkReady s) s
    (let s1 := perfAdd s 0x6000 1
     { s1 with field := { s1.field with felt := s1.field.felt.map fun f =>
        if f.started then { f with ageMs := f.ageMs + 1 } else f } })

/-- FELT_TIMEOUT; with the logic side in reset the field die then takes SAFEn as released (R62, R271). -/
def execFeltTimeout (out : Fin 12) (s : State) : Host.Outcome State Fault Refusal :=
  let f := feltAt s out
  doIf (s.field.running && f.started && !f.timedOut) s
    (let s1 := s.modFelt out fun f => { f with timedOut := true, ageMs := max f.ageMs s.field.feltTimeout }
     if up s then refreshOut s1 out else refreshOuts { s1 with disc := { s1.disc with dieSafen := false } })

/-- SAFE_STATE_REWRITE: every setting in use is written again (R63). -/
def execSafeStateRewrite (s : State) : Host.Outcome State Fault Refusal :=
  doIf (s.field.running && linkReady s) s
    (refreshOuts ((List.finRange 12).foldl (fun s o => s.modFelt o fun f =>
      if f.safe.isSome then { f with safe := some (safePair s o) }.startIf else f) s))

/-! VFLD and the field die as a whole (R96, R98, R167, R168). -/

/-- The band of VFLD (R167). -/
def bandOf (mv : Nat) : VfldBand :=
  if mv < 10000 then .below10
  else if mv < 12000 then .off10to12
  else if mv < 16000 then .low12to16
  else if mv ≤ 36000 then .normal
  else .above36

/-- Loop supplies and outputs are off in the band (R167). -/
def VfldBand.off (b : VfldBand) : Bool := match b with
  | .below10 => true
  | .off10to12 => true
  | .above36 => true
  | _ => false

/-- VFLD is below 12.0 V. -/
def VfldBand.low (b : VfldBand) : Bool := match b with
  | .below10 => true
  | .off10to12 => true
  | _ => false

/-- The conditions VFLD_LOW, VFLD_OFF and VFLD_HIGH while the link has been READY (R167, R332). -/
def vfldConds (s : State) : State :=
  if up s && (fnAt s (fnKey 0x03 0)).everReady then
    let s1 := sysSet s 0x0C (s.field.band == .low12to16)
    let s2 := if s.field.band.low then sysRaise s1 0x0D else s1
    if s.field.band == .above36 then sysRaise s2 0x0E else s2
  else s

/-- Loop supplies and outputs go off (R160, R167). -/
def suppliesOff (s : State) : State :=
  let s1 := { s with field := { s.field with suppliesOn := false } }
  refreshOuts ((List.finRange 20).foldl (fun s p => portTo s p portOff) s1)

/-- A fall below 12.0 V is noted; the third within 60 s slows restarts (R276). -/
def noteDip (s : State) : State :=
  let ds := now s :: s.disc.dips.filter fun t => decide (now s < t + 60000)
  { s with disc := { s.disc with dips := ds, slowed := s.disc.slowed || decide (3 ≤ ds.length) } }

/-- VFLD crosses a threshold (R167, R276). -/
def vfldCross (s : State) (mv : Nat) : State :=
  let old := s.field.band
  let s1 := { s with field := { s.field with
    vfldMv := mv, band := bandOf mv, offHigh := if (bandOf mv).off then bandOf mv == .above36 else s.field.offHigh } }
  let s2 := if (bandOf mv).low && !old.low then noteDip s1 else s1
  vfldConds (if (bandOf mv).off then suppliesOff s2 else refreshOuts s2)

/-- VFLD_THRESHOLD_CROSS to `mv` millivolts (R167). -/
def execVfldThresholdCross (mv : Nat) (s : State) : Host.Outcome State Fault Refusal :=
  if s.field.running then .next (vfldCross s mv)
  else .next { s with field := { s.field with vfldMv := mv, band := bandOf mv } }

/-- Channels fed by the loop supplies settle again after their return (R179). -/
def resettle (s : State) : State :=
  { s with uai := s.uai.map fun u =>
      if supplyMode (bits u.mode 3 0) then { u with settlingDone := false, readySample := false } else u }

/-- Loop supplies and outputs return (R168, R276). -/
def vfldRestore (s : State) (mv : Nat) : State :=
  let s1 := { s with field := { s.field with suppliesOn := true, vfldMv := mv, band := bandOf mv }
                     disc := { s.disc with do_ := s.disc.do_.map fun d => { d with waitRestart := true } } }
  let s2 := (List.finRange 20).foldl startPort (resettle s1)
  let s3 := { s2 with field := { s2.field with ports := s2.field.ports.map fun p =>
                if p.st == .slProbing then { p with probing := true } else p } }
  let s4 := refreshOuts s3
  if up s4 then sysClear (sysClear (sysSet s4 0x0C (s4.field.band == .low12to16)) 0x0D) 0x0E else s4

/-- VFLD_RESTORE (R168): above 17.0 V after an undervoltage, below 34.0 V after an overvoltage. -/
def execVfldRestore (mv : Nat) (s : State) : Host.Outcome State Fault Refusal :=
  doIf (s.field.running && !s.field.suppliesOn && !(bandOf mv).off &&
    (if s.field.offHigh then decide (mv < 34000) else decide (17000 < mv))) s (vfldRestore s mv)

/-- The UAI as its converter finds it when the field die starts; what the logic side holds stays (R96). -/
def uaiDieReset (u : Uai) : Uai :=
  { u with settlingDone := false, outFlags := 0x00010000, absentRun := Vector.replicate 32 0, headLow := 0
           dieSample := Pair.mk0 0, dieDiag := ⟨0x00010000, 0xFFFEFFFF⟩, openTc := false, convFail := false, mode := 0
           readySample := false, sent := false, dieNew := false, set := {}, freqOn := false, freqPeak := 0
           freqFrom := none, freqLast := none, freqCount := 0 }

/-- The input as the filter finds it when the field die starts: totals lost (R255, R264). -/
def diDieReset (d : Di) : Di :=
  { d with filtered := false, counter := 0, raw := false, openFlag := false, dieTotal := Pair.mk0 0, dieWrapped := false
           restarted := true, settling := true, presets := [], settings := [], loaded := false
           edgeTicks := [], lastCounted := d.lastCounted.map fun _ => 0, pressAt := none, press := none, pressDone := true }

/-- The output as the field die starts it: no latch, no cut-off (R272). -/
def doDieReset (d : Do) : Do :=
  { d with energised := false, overload := false, thermal := false, latched := false, shed := false, extDrive := false
           openLoad := false, reverse := false, waitRestart := false, cutoffs := [], testsClear := 0, extClear := 0
           openGone := 0, extGone := 0, safeBefore := none, sent := false }

/-- The field die from its start: every output de-energised, no setting held, a Felt timeout of 50 ms (R96). -/
def fieldDieReset (s : State) (f : FieldDie) : State :=
  { s with
    field := f
    uai := s.uai.map uaiDieReset
    ao := s.ao.map fun a => { a with applied := 0, from_ := 0, runs := Vector.replicate 16 0, gone := Vector.replicate 16 0
                                     dieDiag := 0, diag := Pair.mk0 0, safeBefore := none, sent := false }
    disc := { s.disc with di := s.disc.di.map diDieReset, do_ := s.disc.do_.map doDieReset, acqTick := 0, acqAt := now s
                          dieSafen := false, safenSent := false, shedding := false }
    spare := { s.spare with at_ := none, phase := 0, fail := false, spared := none, failed2 := 0, failed3 := 0
                            visitFail2 := false, next := 0 } }

/-- The conditions that a restart of the field die clears, and those that follow from it (R332, R272). -/
def dieConds (s : State) : State :=
  if up s then lockedCond (sysClear (sysClear (sysClear s 0x10) 0x11) 0x16) else s

/-- The field die starts: VFLD has been above 17.0 V for 100 ms, and the conditions of VFLD follow it (R96, R167). -/
def dieStart (s : State) : State :=
  let mv := max s.field.vfldMv 17001
  let b := bandOf mv
  let s1 := dieConds (fieldDieReset s
    { running := true, vfldMv := mv, band := b, suppliesOn := !b.off, offHigh := b == .above36 })
  if up s then sysClear (sysClear s1 0x0C) 0x0D else s1

/-- FIELD_DIE_START (R96). -/
def execFieldDieStart (s : State) : Host.Outcome State Fault Refusal := doIf (!s.field.running) s (dieStart s)

/-- HART on every channel stops with its channel (R200). -/
def hartOff (s : State) : State :=
  { s with hart := s.hart.map fun h => { h with st := .off, retries := 0, failRun := 0, want48 := false }
           modems := s.modems.map fun m => { m with active := none } }

/-- FIELD_LINK and every field CHANNEL leave service, and their settings are to be sent again (R98). -/
def fieldLost (s : State) : State :=
  let s1 := (List.range 44).foldl (fun s i => setLost s 0x04 i) (setLost s 0x03 0)
  hartOff { s1 with
    field := { s1.field with linkSynced := false }
    uai := s1.uai.map fun u => { u with sent := false }
    ao := s1.ao.map fun a => { a with sent := false }
    disc := { s1.disc with di := s1.disc.di.map fun d => { d with loaded := false }
                           do_ := s1.disc.do_.map fun d => { d with sent := false }, safenSent := false } }

/-- FIELD_DIE_STOP: the field die stops, and R98 applies (R75, R167). -/
def execFieldDieStop (s : State) : Host.Outcome State Fault Refusal :=
  doIf s.field.running s
    (let s1 := if up s && (fnAt s (fnKey 0x03 0)).everReady then sysClear (sysRaise s 0x0D) 0x0C else s
     let s2 := if up s then fieldLost s1 else s1
     dieConds (fieldDieReset s2 { vfldMv := s.field.vfldMv, band := .below10 }))

/-- FIELD_DIE_RESTART_DETECTED: LOST for the link and every channel; waveforms carry DISCONTINUITY (R98, R211). -/
def execFieldDieRestartDetected (s : State) : Host.Outcome State Fault Refusal :=
  doIf (up s) s
    (let s1 := fieldLost s
     { s1 with vib := { s1.vib with ch := s1.vib.ch.map fun c => { c with discont := true } } })

end Sys2Proof.Machine
end

