-- ==== Sys2Proof/Machine/Inputs.lean ====
section
/-! DEFINITION. The universal analogue inputs: raw codes, input values and diagnostic flags, the converter checks and the
trim captures (R174 to R198, R204 to R209). -/

namespace Sys2Proof.Machine
open Sys2Proof

/-! Modes (R174, R176). -/

/-- What the field die holds of a channel's mode: mode, range, sensor type and wiring. -/
structure ChanMode where
  /-- MODE. -/
  mode : Nat
  /-- RANGE. -/
  range : Nat
  /-- SENSOR_TYPE. -/
  sensor : Nat
  /-- WIRING. -/
  wiring : Nat
  deriving DecidableEq, Repr

/-- The channel's mode as loaded. -/
def chanMode (w : Word) : ChanMode := { mode := bits w 3 0, range := bits w 7 4, sensor := bits w 11 8, wiring := bits w 15 12 }

/-- Converter full scale as a ratio of natural numbers, in the unit measured (R176). -/
def fullScale (m : ChanMode) : Nat × Nat := match m.mode with
  | 1 => (25, 1)
  | 2 => (25, 1)
  | 3 => if m.range = 0 then (1, 8) else if m.range = 1 then (5, 4) else (25, 2)
  | 4 => if m.sensor = 0 then (400, 1) else (4000, 1)
  | 5 => (1, 8)
  | 6 => if m.range = 0 then (400, 1) else if m.range = 1 then (4000, 1) else (40000, 1)
  | _ => (25, 1)

/-- A rational rounded to the nearest integer, halves away from zero (log entry 42). -/
def roundRat (q : Rat) : Int :=
  let r : Int := (((2 * q.num.natAbs + q.den) / (2 * q.den) : Nat) : Int)
  if q.num < 0 then -r else r

/-- What a binary32 measures as a rational; a value that is not finite beyond every limit. -/
def measRat (e : Word) : Rat := if fIsFin e then fToRat e else if fNegative e then -(2 ^ 60) else 2 ^ 60

/-- An integer kept within lo to hi. -/
def iClamp (lo hi i : Int) : Int := max lo (min hi i)

/-- The raw code of a measured quantity of a converter mode (R176). -/
def rawCode (m : ChanMode) (e : Rat) : Word :=
  let f := fullScale m
  wInt (iClamp (-8388608) 8388607 (roundRat (e * mkRat (8388608 * f.2 : Nat) f.1)))

/-! Resistances (R183). -/

/-- A voltage over the excitation current, averaged over the two half-samples (R183). -/
def halfMean (m : Meas) (volts : Half → Word) : Rat :=
  (measRat (volts m.h1) / measRat m.h1.cur + measRat (volts m.h2) / measRat m.h2.cur) / 2

/-- V(XA − HI) / I of a sample (R183). -/
def leadOf (m : Meas) : Rat := halfMean m Half.lead

/-- The resistance e of a sample: V(HI − LO) / I, in 3-wire less V(XA − HI) / I, in 2-wire V(XA − LO) / I (R183). -/
def ohmsOf (k : ChanMode) (m : Meas) : Rat := halfMean m Half.v - if k.wiring = 3 then leadOf m else 0

/-- A half-sample finds no current at all. -/
def noCurrent (m : Meas) : Bool := fIsZero m.h1.cur || fIsZero m.h2.cur

/-- Nominal excitation current in µA (R176). -/
def excitation (k : ChanMode) : Nat :=
  if k.mode = 4 then (if k.sensor = 0 then 1000 else if k.sensor = 1 then 500 else 250)
  else if k.range = 0 then 1000 else if k.range = 1 then 250 else 25

/-- The excitation source stands at its 10 V compliance with more than 10 % of its current missing (R187). -/
def currentMissing (k : ChanMode) (m : Meas) : Bool :=
  let less (c : Word) : Bool := decide (10 * fToRat (fAbs c) * 1000000 < 9 * (excitation k : Nat))
  fLe (fOfNat 10) m.srcV && (less m.h1.cur || less m.h2.cur)

/-! Frequency (R186). -/

/-- No edge has arrived for FREQ_TIMEOUT; with no edge since loading, settling ends at that moment (R179, R186). -/
def noEdges (u : Uai) (tick : BitVec 64) : Bool := match u.freqLast with
  | none => u.settlingDone
  | some t => decide (u.set.timeoutMs * 10000 ≤ (tick - t).toNat)

/-- Periods of the 10 MHz time base as mHz (R176, R186; log entry 103). -/
def perPeriods (n ticks : Nat) : Nat := min 25000000 ((2 * n * 10000000000 + ticks) / (2 * ticks))

/-- The frequency in mHz at the end of an output interval: the periods completed in it over their duration, else the last
frequency, no higher than the time since the last edge allows (R186; log entry 103). -/
def freqCode (u : Uai) (tick : BitVec 64) : Word :=
  if noEdges u tick then 0
  else match u.freqFrom, u.freqLast with
    | some a, some b =>
      if 0 < u.freqCount then w32 (perPeriods u.freqCount (b - a).toNat)
      else w32 (min u.dieSample.v.toNat (perPeriods 1 (tick - b).toNat))
    | _, _ => u.dieSample.v

/-- The switched state of a FREQUENCY input after the signal reaches a level that it holds for so many ticks: a NAMUR current
in mA, a contact's voltage, or the peak of a magnetic sensor's half wave before its zero crossing (R186; log entry 104). -/
def freqSwitch (sensor : Nat) (u : Uai) (level : Word) (held : Nat) : Bool := match sensor with
  | 0 => if fLe (fRat 21 10) level then true else if fLe level (fRat 12 10) then false else u.freqOn
  | 1 => fLe (fMax (fDiv u.freqPeak (fOfNat 3)) u.set.thr) level
  | _ => if held < 500 then u.freqOn else if fLe level (fRat 35 10) then true else if fLe (fRat 45 10) level then false else u.freqOn

/-- The signal gives an on transition (R186). -/
def freqRises (sensor : Nat) (u : Uai) (level : Word) (held : Nat) : Bool :=
  freqSwitch sensor u level held && (decide (sensor = 1) || !u.freqOn)

/-- The edge counter after a signal event (R186). -/
def freqTake (sensor : Nat) (u : Uai) (tick : BitVec 64) (level : Word) (held : Nat) : Uai :=
  let u1 := { u with freqOn := freqSwitch sensor u level held, freqPeak := if sensor = 1 then level else u.freqPeak }
  if freqRises sensor u level held then
    { u1 with freqLast := some tick, freqFrom := some (u.freqFrom.getD tick)
              freqCount := if u.freqFrom.isSome then u.freqCount + 1 else 0 }
  else u1

/-! Temperatures (R176, R184). -/

/-- R(t) / R0 of IEC 60751 (R176; log entry 9). -/
def rtdRatio (t : Rat) : Rat :=
  let r := 1 + mkRat 39083 10000000 * t - mkRat 5775 10000000000 * t * t
  if t < 0 then r - mkRat 4183 1000000000000000 * (t - 100) * t * t * t else r

/-- The greatest t = lo + n / 2⁶⁰ with R(t) / R0 at most q, by bisection over k bits. -/
def rtdGo (q : Rat) (lo : Int) : Nat → Nat → Nat
  | 0, n => n
  | k + 1, n => rtdGo q lo k (if rtdRatio (lo + mkRat (n + 2 ^ k : Nat) (2 ^ 60)) ≤ q then n + 2 ^ k else n)

/-- The temperature of an RTD at a resistance: where the equation gives that resistance (R176; log entry 9). -/
def rtdTemp (sensor : Nat) (r : Word) : Word :=
  let q := measRat r / (if sensor = 0 then 100 else if sensor = 1 then 500 else 1000)
  if !fIsFin r then fNan
  else if rtdRatio 3383 < q then Config.rtdBeyond sensor r
  else
    let lo : Int := if q < 1 then -4096 else 0
    let t : Rat := lo + mkRat (rtdGo q lo 72 0) (2 ^ 60)
    fOfRat (if rtdRatio t = q then t else t + mkRat 1 (2 ^ 62))

/-- A raw code as a quantity in the measured unit (R176). -/
def codeQuantity (m : ChanMode) (code : Word) : Word :=
  if m.mode = 8 then fRat code.toNat 1000
  else
    let f := fullScale m
    fRat (sInt code * (f.1 : Nat)) (f.2 * 8388608)

/-- The input value of a raw code: the quantity in the Unit column of R176, with the lead resistance of a 2-wire sensor
taken off (R183), and the voltage of the cold junction at temperature `cj` added (R184). -/
def inputValue (m : ChanMode) (lead cj code : Word) : Word :=
  let q := codeQuantity m code
  let r := if m.wiring = 2 then fSub q lead else q
  match m.mode with
  | 4 => fCanon (rtdTemp m.sensor r)
  | 5 => fCanon (Config.tcTemp m.sensor (fAdd q (fCanon (Config.tcVolt m.sensor cj))))
  | 6 => r
  | _ => q

/-- Input limits (R176); none for OFF. -/
def inputLimits (m : ChanMode) : Option (Word × Word) :=
  let mk (lo hi : Int) : Option (Word × Word) := some (fOfInt lo, fOfInt hi)
  match m.mode with
  | 1 => mk 0 25
  | 2 => mk 0 25
  | 3 =>
    let f := fullScale m
    some (fRat (-(f.1 : Int)) f.2, fRat f.1 f.2)
  | 4 => mk (-200) 850
  | 5 => match m.sensor with
    | 0 => mk 250 1820
    | 1 => mk (-200) 1000
    | 2 => mk (-210) 1200
    | 3 => mk (-200) 1372
    | 4 => mk (-200) 1300
    | 5 => mk (-50) 1768
    | 6 => mk (-50) 1768
    | _ => mk (-200) 400
  | 6 => some (0, fOfNat (fullScale m).1)
  | 7 => mk 0 25
  | 8 => mk 0 25000
  | _ => none

/-! Quality from the flags (R188). -/

/-- Quality code and FLT cause that a diagnostic word gives (R188, R290). -/
def flagsQuality (w : Word) : Nat × Nat :=
  if bit w 7 then (3, 0x03)
  else if bit w 10 then (3, 0x04)
  else if bit w 0 then (3, 0x05)
  else if bit w 1 || bit w 9 then (3, 0x06)
  else if bit w 2 then (3, 0x07)
  else if bit w 3 then (3, 0x08)
  else if bit w 13 then (3, 0x09)
  else if bit w 11 then (3, 0x0A)
  else if bit w 4 || bit w 5 then (3, 0x0B)
  else if bit w 17 || bit w 6 || bit w 12 || bit w 15 || bit w 16 then (1, 0)
  else (0, 0)

/-- A field of a UAI as a pair: as configured, or its default. -/
def cfgPair (s : State) (n fld : Nat) (d : Word) : Pair :=
  match (cfgEnt s 5 (some n)).bind fun e => tget e.fields fld with
  | some v => ⟨v.ws.headD d, v.cs.headD (~~~(v.ws.headD d))⟩
  | none => Pair.mk0 d

/-- The cold-junction temperature of UAI n and whether its source is usable: a channel's quality is neither BAD nor INTEGRITY
(R184, R289). -/
def coldJunction (s : State) (n : Fin 16) (dieTemp : Word) : Pair × Bool :=
  match (cfgUaiCjcSource s n.val).toNat with
  | 0 => (cfgPair s n.val 0x32 (fOfNat 25), true)
  | 1 =>
    let c : Fin 16 := ⟨(cfgUaiCjcChannel s n.val).toNat % 16, by omega⟩
    let u := uaiAt s c
    (u.inputValue, chanReady s c.val && u.inputValue.ok && u.sample.ok && u.diag.ok &&
      decide ((flagsQuality u.diag.v).1 ≤ 1))
  | _ => (Pair.mk0 dieTemp, fLe (fOfInt (-40)) dieTemp && fLe dieTemp (fOfInt 125))

/-! The field die's sample (R176, R177, R182, R187). -/

/-- Half of LOOP_HEADROOM_MV in volts, as the field die holds it (R97, R182). -/
def halfHeadroom (s : State) (n : Fin 16) : Word := fRat (portAt s (uaiPort n)).headMv 2000

/-- Consecutive samples at the cap with the headroom below half its setting, at most three (R182). -/
def headLowNext (s : State) (n : Fin 16) (u : Uai) (m : Meas) : BitVec 2 :=
  if m.atCap && fLt m.headroom (halfHeadroom s n) then (if u.headLow = 3 then 3 else u.headLow + 1) else 0

/-- The nominal resistance's 15 %, or 0.1 % of full scale (R187). -/
def shortOhms (m : ChanMode) : Word :=
  if m.mode = 4 then (if m.sensor = 0 then fOfNat 15 else if m.sensor = 1 then fOfNat 75 else fOfNat 150)
  else fRat (fullScale m).1 1000

/-- Condition of flag i of UAI n in this sample (R182 to R187, R190, R191). -/
def flagCond (s : State) (n : Fin 16) (u : Uai) (m : Meas) (code : Word) (i : Nat) : Bool :=
  let k := chanMode u.mode
  let loop := decide (k.mode = 1 ∨ k.mode = 2)
  let ohm := decide (k.mode = 4 ∨ k.mode = 6)
  let conv := decide (k.mode ≠ 8)
  let st := (portAt s (uaiPort n)).st
  let q := codeQuantity k code
  let lead := cfgUaiLeadOhms s n.val
  let ohms := if k.wiring = 2 then fSub q lead else q
  let cj := coldJunction s n m.dieTemp
  let v := inputValue k lead cj.1.v code
  let lowMa := u.set.low
  let highMa := u.set.high
  let namur := decide (k.mode = 8 ∧ k.sensor = 0)
  match i with
  | 0 => (loop && fLt q (fRat 1 10)) || (ohm && currentMissing k m) || (decide (k.mode = 5) && u.openTc) ||
      (decide (k.mode = 7) && fLt (fOfNat 22) q) || (namur && fLt m.e (fRat 15 100))
  | 1 => (decide (k.mode = 1) && st == .foldback) || (ohm && fLt ohms (shortOhms k)) ||
      (decide (k.mode = 7) && fLt q f1) || (namur && fLt (fOfNat 6) m.e)
  | 2 => loop && fLe q lowMa
  | 3 => loop && fLe highMa q
  | 4 => conv && (decide (code = 0xFF800000) || (match inputLimits k with
      | some l => fLt v l.1
      | none => false))
  | 5 => conv && (decide (code = 0x007FFFFF) || (match inputLimits k with
      | some l => fLt l.2 v
      | none => false))
  | 6 => decide (k.mode = 1) &&
      (decide (headLowNext s n u m = 3) || (bit u.outFlags 6 && !fLt (halfHeadroom s n) m.headroom))
  | 7 => st == .slTripped || (st == .slProbing && (portAt s (uaiPort n)).afterTrip)
  | 8 => st == .lockedPassive
  | 9 => supplyMode k.mode && st == .foldback
  | 10 => supplyMode k.mode && !s.field.suppliesOn
  | 11 => decide (k.mode = 5) && !cj.2
  | 12 => ohm && decide (k.wiring = 3) && decide (20 < leadOf m)
  | 13 => conv && u.convFail
  | 14 => conv && decide (s.spare.spared = some n)
  | 15 => conv && s.spare.refFail
  | 16 => !u.settlingDone
  | 17 => loop && ((fLt lowMa q && fLt q (fRat 38 10)) || (fLt (fRat 205 10) q && fLt q highMa))
  | 18 => decide (k.mode = 8) && noEdges u m.tick
  | _ => false

/-- One flag and its count of samples without the condition: raised at once, cleared in the first sample after three
without it; SETTLING follows its condition (R187). -/
def flagStep (cond : Bool) (i : Nat) (was : Bool) (run : BitVec 2) : Bool × BitVec 2 :=
  if cond then (true, 0)
  else if !was || i = 16 || run = 3 then (false, 0)
  else (true, run + 1)

/-- The flags of a sample and their counts (R187). -/
def flagsNext (s : State) (n : Fin 16) (u : Uai) (m : Meas) (code : Word) : Word × Vector (BitVec 2) 32 :=
  (List.finRange 19).foldl (fun a i =>
    let r := flagStep (flagCond s n u m code i.val) i.val (bit u.outFlags i.val) (vat u.absentRun (i.castLE (by omega)))
    (a.1 ||| flag i.val r.1, a.2.set i.val r.2 (by omega))) ((0 : Word), u.absentRun)

/-- The raw code of a sample in the channel's mode (R176, R183, R186). -/
def sampleCode (u : Uai) (m : Meas) : Word :=
  let k := chanMode u.mode
  if k.mode = 8 then freqCode u m.tick
  else if k.mode = 4 ∨ k.mode = 6 then
    if noCurrent m then (Config.noCurrentCode m.h1.v m.h2.v).signExtend 32 else rawCode k (ohmsOf k m)
  else rawCode k (measRat m.e)

/-- The field die forms a sample (R176, R177, R183, R186, R187). -/
def sampleUai (s : State) (n : Fin 16) (m : Meas) : State :=
  let u := uaiAt s n
  let code := sampleCode u m
  let fl := flagsNext s n u m code
  s.modUai n fun u => { u with
    dieSample := pairUpset code m.upset, dieDiag := ⟨fl.1, ~~~fl.1⟩, outFlags := fl.1, absentRun := fl.2
    headLow := headLowNext s n u m, dieTemp := m.dieTemp, dieLead := fOfRat (leadOf m), dieHead := m.headroom
    freqFrom := u.freqLast, freqCount := 0
    dieNew := true, dieAt := stampNow s, readySample := u.settlingDone }

/-- CONVERTER_SAMPLE with the field die's measurement (R177, R187; log entry 12). -/
def execConverterSample (ch : Fin 16) (m : Meas) (s : State) : Host.Outcome State Fault Refusal :=
  doIf (s.field.running && decide (bits (uaiAt s ch).mode 3 0 ≠ 0)) s (sampleUai s ch m)

/-- SETTLING_END of a universal input or of a digital input (R179, R256). -/
def execSettlingEnd (di : Bool) (ch : Fin 16) (s : State) : Host.Outcome State Fault Refusal :=
  if di then doIf (s.field.running && (diAt s ch).loaded) s (s.modDi ch fun d => { d with settling := false })
  else doIf (s.field.running && (uaiAt s ch).sent) s (s.modUai ch fun u => { u with settlingDone := true })

/-- The open test of a thermocouple raises OPEN at once; the sample that holds the test repeats the previous one (R187). -/
def tcTest (s : State) (n : Fin 16) (ohms : Nat) : State :=
  s.modUai n fun u =>
    let o := decide (20000 < ohms)
    let w := if o then u.outFlags ||| 1 else u.outFlags
    { u with openTc := o, outFlags := w, dieDiag := ⟨w, ~~~w⟩, dieNew := true
             absentRun := if o then u.absentRun.set 0 0 else u.absentRun }

/-- TC_OPEN_TEST with the loop resistance found (R187). -/
def execTcOpenTest (ch : Fin 16) (ohms : Nat) (s : State) : Host.Outcome State Fault Refusal :=
  doIf (s.field.running && decide (bits (uaiAt s ch).mode 3 0 = 5)) s (tcTest s ch ohms)

/-! The spare converter and the references (R189 to R191). -/

/-- The record of a failed phase (R190, R490). -/
def phaseRec (s : State) (c : Fin 16) : State :=
  if up s then stage s (mkRec s .d 0x47 (subj s 2 c.val) 0 [w32 s.spare.phase.toNat]) else s

/-- The spare is retired (R190). -/
def retireSpare (s : State) : State :=
  let s1 := { s with spare := { s.spare with fail := true, at_ := none, phase := 0 } }
  if up s1 then sysRaise s1 0x10 else s1

/-- The visit of channel c is over, and the next channel's begins (R189). -/
def visitNext (s : State) (c : Fin 16) : State :=
  spareStart { s with spare := { s.spare with
    at_ := none, phase := 0, failed2 := 0, failed3 := 0, visitFail2 := false, next := ⟨(c.val + 1) % 16, by omega⟩ } }

/-- The visit of channel c begins again (R190). -/
def visitAgain (s : State) : State := { s with spare := { s.spare with phase := 1, visitFail2 := false } }

/-- Channel c's own converter has failed (R190). -/
def convFailed (s : State) (c : Fin 16) : State :=
  if s.spare.spared.isNone && !s.spare.fail then
    let s1 := { s with spare := { s.spare with spared := some c } }
    visitNext (if up s1 then sysRaise s1 0x11 else s1) c
  else visitNext (s.modUai c fun u => { u with convFail := true }) c

/-- A phase of the visit to channel c ends (R189, R190). -/
def visitPhase (s : State) (c : Fin 16) (pass : Bool) : State :=
  let p := s.spare
  match p.phase.toNat with
  | 1 => if pass then { s with spare := { p with phase := 2 } } else retireSpare (phaseRec s c)
  | 2 =>
    let s1 := if pass then s else phaseRec s c
    { s1 with spare := { s1.spare with phase := 3, visitFail2 := !pass } }
  | _ =>
    if pass then
      if p.visitFail2 then
        if 1 ≤ p.failed2 then retireSpare s
        else visitAgain { s with spare := { p with failed2 := p.failed2 + 1, failed3 := 0 } }
      else visitNext s c
    else
      let s1 := phaseRec s c
      if 1 ≤ p.failed3 then convFailed s1 c
      else visitAgain { s1 with spare := { s1.spare with
        failed3 := p.failed3 + 1, failed2 := if p.visitFail2 then p.failed2 + 1 else 0 } }

/-- A code of REF_B at −0.9, 0 or +0.9 of full scale within 0.02 % of full scale of the one expected (R189). -/
def refCodeOk (r : Fin 3 × Int) : Bool :=
  decide (1000 * (10 * r.2 - 9 * 8388608 * ((r.1.val : Int) - 1)).natAbs ≤ 2 * 8388608)

/-- A phase passes: every reference conversion is right, and the parallel conversions differ on average by no more than
0.02 % of full scale (R189; log entry 105). -/
def phasePasses (refs : List (Fin 3 × Int)) (diffs : List Int) : Bool :=
  refs.all refCodeOk && decide (10000 * (diffs.map Int.natAbs).sum ≤ 2 * 8388608 * diffs.length)

/-- Whether a condition stands, and when its cause last stood: it clears when the cause has been absent for 24 h of operating
time (R191; log entry 18). -/
def refStep (s : State) (cause was : Bool) (at_ : Nat) : Bool × Nat :=
  if cause then (true, opMs s) else (was && decide (opMs s < at_ + 86400000), at_)

/-- The ratio of the references as the cycle finds it: REF_DEVIATION, REF_DRIFT and REF_FAIL follow (R191). -/
def refMeasure (s : State) (ppm : Word) : State :=
  let d := refStep s (fLt (fOfNat 500) (fAbs ppm)) s.spare.refDrift s.spare.driftAt
  let f := refStep s (fLt (fOfNat 2500) (fAbs ppm)) s.spare.refFail s.spare.failAt
  let s1 := { s with spare := { s.spare with
    refDeviation := ppm, refDrift := d.1, driftAt := d.2, refFail := f.1, failAt := f.2 } }
  if up s then sysSet s1 0x12 d.1 else s1

/-- SPARE_VISIT_PHASE_END: the reference conversions of the phase, its parallel differences in codes, and the ratio of the
references where this cycle's was measured in it (R189 to R191). -/
def execSpareVisitPhaseEnd (refs : List (Fin 3 × Int)) (diffs : List Int) (ppm : Option Word) (s : State) :
    Host.Outcome State Fault Refusal :=
  match s.spare.at_ with
  | some c => doIf (s.field.running && !s.spare.fail) s
      (let s1 := match ppm with
        | some p => refMeasure s p
        | none => s
       visitPhase s1 c (phasePasses refs diffs))
  | none => .next s

/-- The least-squares slope of the records in ppm per year of 365 days; 0.0 where they lie on fewer than two days (R191;
log entry 18). -/
def refSlopeOf (h : List (Nat × Word)) : Word :=
  let h := h.filter fun e => fIsFin e.2
  let n : Int := ((h.length : Nat) : Int)
  let sx : Int := (h.map fun e => ((e.1 : Nat) : Int)).sum
  let sy : Int := (h.map fun e => fUnits e.2).sum
  let sxy : Int := (h.map fun e => ((e.1 : Nat) : Int) * fUnits e.2).sum
  let sxx : Int := (h.map fun e => ((e.1 : Nat) : Int) * ((e.1 : Nat) : Int)).sum
  let den := n * sxx - sx * sx
  if den ≤ 0 then 0 else fOfUnits ((n * sxy - sx * sy) * 365) den.natAbs

/-- One record of REF_DEVIATION, and REF_SLOPE and REF_AGEING from the last 365 (R191). -/
def refRecord (s : State) : State :=
  let ppm := s.spare.refDeviation
  let h := ((opMs s / 86400000, ppm) :: s.spare.history).take 365
  let slope := refSlopeOf h
  let lim := fOfNat 500
  let ahead := fAdd ppm (fMul (fOfNat 2) slope)
  let s1 := refMeasure (stage s (mkRec s .d 0x47 (subj s 7 0) (at' 24 1) [ppm])) ppm
  let a := refStep s (fLe lim (fAbs ppm) || fLe lim (fAbs ahead)) s.spare.refAgeing s.spare.ageAt
  sysSet { s1 with spare := { s1.spare with refSlope := slope, history := h, refAgeing := a.1, ageAt := a.2 } } 0x13 a.1

/-- The conditions of the spare and the references as the field die holds them (R190, R191, R332). -/
def spareConds (s : State) : State :=
  if up s then sysSet (sysSet (sysSet s 0x10 s.spare.fail) 0x11 s.spare.spared.isSome) 0x12 s.spare.refDrift else s

/-- REF_DEVIATION_RECORD, every 24 h of operating time (R191). -/
def execRefDeviationRecord (s : State) : Host.Outcome State Fault Refusal := doIf (linkReady s) s (refRecord s)

/-! Conditioning (R192, R193). -/

/-- CHARACTERISTIC TABLE falls back to LINEAR (R193). -/
def tableFallback (s : State) (n : Nat) : Bool :=
  decide (cfgUaiCharacteristic s n = 2) &&
  (decide (cfgUaiTable s n = 0xFFFFFFFF) || !tableOk s (cfgUaiTable s n).toNat || tableSuspect s (cfgUaiTable s n).toNat)

/-- y of UAI n at input value e (R192). -/
def characteristic (s : State) (n : Nat) (e : Word) : Word :=
  let lo := cfgUaiEuLow s n
  let sp := fSub (cfgUaiEuHigh s n) lo
  let x := fDiv (fSub e (cfgUaiInLow s n)) (fSub (cfgUaiInHigh s n) (cfgUaiInLow s n))
  let lin := fAdd lo (fMul x sp)
  match (cfgUaiCharacteristic s n).toNat with
  | 1 => if fLt x (cfgUaiSqrtCutoff s n) then lo else fAdd lo (fMul (fSqrt x) sp)
  | 2 => if tableFallback s n then lin else tableEval s (cfgUaiTable s n).toNat e
  | _ => lin

/-- The value of a point conditioned from UAI n with input value e, on a path whose trims are `zero` and `span` (R192). -/
def conditioned (s : State) (n : Nat) (e zero span : Word) : Word :=
  let lo := cfgUaiEuLow s n
  fAdd (fAdd lo (fMul span (fSub (characteristic s n e) lo))) zero

/-! Trim (R194 to R197). -/

/-- A field of an entity put into the values in effect and the working copy, as a critical field (R132, R197). -/
def sectPut (t : Tab Sect) (sec key fld : Nat) (p : Pair) : Tab Sect :=
  let c := tgetD t sec {}
  let e := tgetD c.ents key {}
  tset t sec { c with ents := tset c.ents key { e with fields := tset e.fields fld { ws := [p.v], cs := [p.c] } } }

/-- A trim applied to UAI n: in effect, in the working copy, and its commit queued (R197). -/
def putTrim (s : State) (n fld : Nat) (p : Pair) : State :=
  { s with cfg := { s.cfg with run := sectPut s.cfg.run 5 n fld p, work := sectPut s.cfg.work 5 n fld p } }

/-- A trim commit waits its turn (R197). -/
def queueTrim (s : State) : State :=
  { s with nor := { s.nor with waiting :=
      if s.nor.waiting.contains .trim then s.nor.waiting else s.nor.waiting ++ [.trim] } }

/-- ZERO_TRIM in use (R205). -/
def zeroTrim (s : State) (n : Nat) : Pair := cfgPair s n 0x2C 0
/-- SPAN_TRIM in use (R205). -/
def spanTrim (s : State) (n : Nat) : Pair := cfgPair s n 0x2D f1

/-- A capture starts unless one runs (R194). -/
def startTrim (s : State) (n : Fin 16) (k : TrimKind) : State :=
  let u := uaiAt s n
  if u.trimBusy.isSome then s
  else
    let r := if u.trimRef.ok && !fIsNan u.trimRef.v then u.trimRef.v
      else if k == .zero then cfgUaiEuLow s n.val else cfgUaiEuHigh s n.val
    s.modUai n fun u => { u with
      trimBusy := some k, trimRefUsed := r, trimAt := now s, trimCount := 0, trimSum := Pair.mk0 0, trimLow := fNan
      trimHigh := fNan, trimFlagged := decide ((flagsQuality u.diag.v).1 ≠ 0) }

/-- TRIM_CLEAR: the trims take 0.0 and 1.0 at once (R194). -/
def clearTrim (s : State) (n : Fin 16) : State :=
  queueTrim (putTrim (putTrim s n.val 0x2C (Pair.mk0 0)) n.val 0x2D (Pair.mk0 f1))

/-- TRIM_ZERO (R194, R207). -/
def execTrimZero (r : Req) (ch : Fin 16) (s : State) : Host.Outcome State Fault Refusal :=
  doIf (may s r 2 && chanReady s ch.val) s (startTrim s ch .zero)

/-- TRIM_SPAN (R194, R207). -/
def execTrimSpan (r : Req) (ch : Fin 16) (s : State) : Host.Outcome State Fault Refusal :=
  doIf (may s r 2 && chanReady s ch.val) s (startTrim s ch .span)

/-- TRIM_CLEAR (R194, R207). -/
def execTrimClear (r : Req) (ch : Fin 16) (s : State) : Host.Outcome State Fault Refusal :=
  doIf (may s r 2 && chanReady s ch.val) s (clearTrim s ch)

/-- The new trim of a capture on one path, whose mean of y and trims in use are given (R194). -/
def trimResult (s : State) (n : Fin 16) (k : TrimKind) (mean zero span : Word) : Word :=
  let lo := cfgUaiEuLow s n.val
  let r := (uaiAt s n).trimRefUsed
  match k with
  | .zero => fSub (fSub r lo) (fMul span (fSub mean lo))
  | .span => fDiv (fSub (fSub r zero) lo) (fSub mean lo)

/-- The mean of y over the window on one path, whose sum is given (R194; log entry 106). -/
def trimMean (u : Uai) (sum : Word) : Word := fDiv sum (fOfNat u.trimCount)

/-- The new trim as a pair, path B's result flipped by an upset (R52, R194). -/
def trimPair (s : State) (n : Fin 16) (k : TrimKind) (bUpset : Word) : Pair :=
  let u := uaiAt s n
  let z := zeroTrim s n.val
  let g := spanTrim s n.val
  ⟨trimResult s n k (trimMean u u.trimSum.v) z.v g.v,
   ~~~(trimResult s n k (trimMean u (~~~u.trimSum.c)) (~~~z.c) (~~~g.c) ^^^ bUpset)⟩

/-- |EU_HIGH − EU_LOW| (R195, R198). -/
def euSpan (s : State) (n : Nat) : Word := fAbs (fSub (cfgUaiEuHigh s n) (cfgUaiEuLow s n))

/-- The capture is accepted (R195). -/
def trimOk (s : State) (n : Fin 16) (k : TrimKind) (t : Pair) : Bool :=
  let u := uaiAt s n
  let inSpan := fAbs (fSub (cfgUaiInHigh s n.val) (cfgUaiInLow s n.val))
  !u.trimFlagged && fLe (fSub u.trimHigh u.trimLow) (fMul (fRat 1 1000) inSpan) && t.ok &&
  (s.nor.image == .idle || s.nor.image == .rejected) &&
  (match k with
    | .zero => fLe (fAbs t.v) (fMul (fRat 1 10) (euSpan s n.val))
    | .span => fLe (fRat 9 10) t.v && fLe t.v (fRat 11 10) &&
        fLe (fMul (fRat 1 2) (euSpan s n.val)) (fAbs (fSub (trimMean u u.trimSum.v) (cfgUaiEuLow s n.val))))

/-- The end of a capture (R194, R195, R197). -/
def endTrim (s : State) (n : Fin 16) (k : TrimKind) (bUpset : Word) : State :=
  let new := trimPair s n k bUpset
  let ok := trimOk s n k new
  let old := if k == .zero then zeroTrim s n.val else spanTrim s n.val
  let fld := if k == .zero then 0x2C else 0x2D
  let s1 := stage s (mkRec s .e 0x12 (subj s 2 n.val) (flag 0 (k == .span) ||| flag 1 ok) (pws old ++ pws new))
  let s2 := s1.modUai n fun u => { u with
    trimBusy := none, trimRef := nanPair, trimResult := if ok then 1 else 2 }
  if ok then queueTrim (putTrim s2 n.val fld new) else s2

/-- A sample of UAI n joins the running capture: y on both paths, the travel of the input value and the flags (R194, R195). -/
def trimTake (s : State) (n : Fin 16) : State :=
  let u := uaiAt s n
  if u.trimBusy.isSome && decide (now s < u.trimAt + 2000) then
    let a := characteristic s n.val u.inputValue.v
    let b := characteristic s n.val (~~~u.inputValue.c)
    s.modUai n fun u => { u with
      trimCount := u.trimCount + 1, trimSum := ⟨fAdd u.trimSum.v a, ~~~(fAdd (~~~u.trimSum.c) b)⟩
      trimLow := if u.trimCount = 0 then u.inputValue.v else fMin u.trimLow u.inputValue.v
      trimHigh := if u.trimCount = 0 then u.inputValue.v else fMax u.trimHigh u.inputValue.v
      trimFlagged := u.trimFlagged || decide ((flagsQuality u.diag.v).1 ≠ 0) || decide ((flagsQuality (~~~u.diag.c)).1 ≠ 0) }
  else s

/-- TRIM_CAPTURE_END, 2 s after the capture began, with bits flipped in path B (R194, R195). -/
def execTrimCaptureEnd (ch : Fin 16) (bUpset : Word) (s : State) : Host.Outcome State Fault Refusal :=
  match (uaiAt s ch).trimBusy with
  | some k => doIf (up s && decide ((uaiAt s ch).trimAt + 2000 ≤ now s)) s (endTrim s ch k bUpset)
  | none => .next s

/-- A press of `other`, under way or last, overlaps the press [a, b] (R196). -/
def pressOverlaps (other : Di) (a b : BitVec 64) : Bool :=
  (match other.pressAt with
    | some t => decide (t.toNat ≤ b.toNat)
    | none => false) ||
  (match other.press with
    | some p => decide (p.1.toNat ≤ b.toNat ∧ a.toNat ≤ p.2.toNat)
    | none => false)

/-- What a press of UAI n's trim button of `k` does at its release, by its length in ticks of 100 ns (R196). -/
def trimPress (s : State) (n : Fin 16) (k : TrimKind) (ticks : Nat) : State :=
  if ticks < 30000000 then s else if ticks ≤ 100000000 then startTrim s n k else clearTrim s n

/-- TRIM_BUTTON_RELEASE: the last press of the button, unless it overlaps one of the channel's other button (R196; log entry
107). -/
def trimButton (s : State) (n : Fin 16) (span : Bool) : State :=
  let di (b : Bool) : Nat := if b then (cfgUaiTrimSpanDi s n.val).toNat else (cfgUaiTrimZeroDi s n.val).toNat
  if h : di span < 16 then
    let d := diAt s ⟨di span, h⟩
    match d.press with
    | some p =>
      let clash := if h2 : di (!span) < 16 then pressOverlaps (diAt s ⟨di (!span), h2⟩) p.1 p.2 else false
      if d.pressDone || clash then s
      else trimPress (s.modDi ⟨di span, h⟩ fun d => { d with pressDone := true }) n (if span then .span else .zero) (p.2 - p.1).toNat
    | none => s
  else s

/-- TRIM_BUTTON_RELEASE (R196). -/
def execTrimButtonRelease (ch : Fin 16) (span : Bool) (s : State) : Host.Outcome State Fault Refusal :=
  doIf (chanReady s ch.val) s (trimButton s ch span)

end Sys2Proof.Machine
end

