-- ==== Sys2Proof/Machine/Hart.lean ====
section
/-! DEFINITION. The HART master: modems, transactions, device status and mapped variables (R199 to R203, R208, R247,
R248). -/

namespace Sys2Proof.Machine
open Sys2Proof

/-- The modem that serves channel c: c mod 4, or the next working one in ascending order, 0 after 3 (R199). -/
def modemOf (s : State) (c : Fin 20) : Option (Fin 4) :=
  ((List.range 4).map fun i => (⟨(c.val + i) % 4, by omega⟩ : Fin 4)).find? fun k => !(vat s.modems k).fail

/-- The state with modem k passed through f. -/
def State.modModem (s : State) (k : Fin 4) (f : Modem → Modem) : State := { s with modems := vmod s.modems k f }

/-- Mapped variables of channel c that command 9 reads, in ascending key (R200, R203). -/
def devVars (s : State) (c : Nat) : List Nat :=
  ((List.range 8).map (· + 1)).filter fun k => cfgHas s 18 (c * 65536 + k) && decide ((cfgHvarSource s c k).toNat < 0x100)

/-- The command of channel c's next transaction (R200). -/
def hartNext (s : State) (c : Fin 20) : BitVec 8 :=
  let h := hartAt s c
  if h.st != .polling then 0
  else if h.want48 then 48
  else if h.turn = 3 && !(devVars s c.val).isEmpty then 9
  else 3

/-- Channel c has a transaction to make: polled, and in COMM_FAIL or ID_MISMATCH 30 s after its last command 0 (R200). -/
def hartDue (s : State) (c : Fin 20) : Bool :=
  let h := hartAt s c
  hartUsed s c && chanReady s c.val && !hartSuspended s c &&
    (!(h.commFail || h.idMis) || decide (1 ≤ h.retries) || decide (h.idAt + 30000 ≤ now s))

/-- Channel c's turn has not ended: a retry, command 48, or command 9 after command 3 is to follow (R200). -/
def hartGoesOn (s : State) (c : Fin 20) : Bool :=
  let h := hartAt s c
  decide (1 ≤ h.retries) || (h.st == .polling && (h.want48 || (decide (h.turn = 3) && !(devVars s c.val).isEmpty)))

/-- The channel that modem k serves next: the one whose turn goes on, else the next due in ascending order (R199). -/
def modemNext (s : State) (k : Fin 4) : Option (Fin 20) :=
  let l := (List.finRange 20).filter fun c => decide (modemOf s c = some k) && hartDue s c
  match (vat s.modems k).last with
  | none => l.head?
  | some p =>
    if l.contains p && hartGoesOn s p then some p
    else match l.find? fun c => decide (p < c) with
      | some c => some c
      | none => l.head?

/-- HART_TRANSACTION_START (R199 to R201). -/
def execHartTransactionStart (c : Fin 20) (s : State) : Host.Outcome State Fault Refusal :=
  match modemOf s c with
  | none => .next s
  | some k =>
    doIf (decide (modemNext s k = some c) && (vat s.modems k).active.isNone) s
      (let cmd := if (hartAt s c).retries = 0 then hartNext s c else (hartAt s c).cmd
       (s.modHart c fun h => { h with cmd := cmd, st := if h.st == .off then .identifying else h.st
                                      turn := if cmd = 48 then h.turn else cmd
                                      idAt := if cmd = 0 then now s else h.idAt
                                      want48 := if cmd = 48 then false else h.want48 }).modModem k
         fun m => { m with active := some c, last := some c })

/-- The modem that has channel c in transaction. -/
def modemBusy (s : State) (c : Fin 20) : Option (Fin 4) :=
  (List.finRange 4).find? fun k => decide ((vat s.modems k).active = some c)

/-- A transaction without a valid response: two retries, then a failure; the third failure in a row sets COMM_FAIL
(R200). -/
def hartFail (h : HartDev) : HartDev :=
  if h.retries < 2 then { h with retries := h.retries + 1 }
  else
    let n := h.failRun + 1
    { h with retries := 0, failures := satInc h.failures, failRun := n
             commFail := h.commFail || decide (3 ≤ n), st := if 3 ≤ n then .identifying else h.st }

/-- The device of a command 0 reply is the expected one (R200, R203). -/
def idMatches (s : State) (c : Nat) (r : HartResp) : Bool :=
  let e := cfgHartExpectedId s c
  let w0 := e.getD 0 0
  let w1 := e.getD 1 0
  decide (w0 = 0 ∧ w1 = 0) || (decide (bits w0 15 0 = r.devType.toNat) && decide (bits w1 23 0 = r.devId.toNat))

/-- Where a reply to command `cmd` carries mapped variable k (R200, R203). -/
def varIndex (s : State) (c k : Nat) (cmd : BitVec 8) : Option Nat :=
  let src := (cfgHvarSource s c k).toNat
  if !cfgHas s 18 (c * 65536 + k) then none
  else if cmd = 3 then (if 0x100 ≤ src ∧ src < 0x104 then some (src - 0x100) else none)
  else if cmd = 9 then (if src < 0x100 then (devVars s c).findIdx? fun j => decide (j = k) else none)
  else none

/-- The mapped variables take what a reply carries for them (R199, R202). -/
def takeVars (s : State) (c : Nat) (r : HartResp) (h : HartDev) : HartDev :=
  (List.finRange 8).foldl (fun h i => match varIndex s c (i.val + 1) h.cmd with
    | none => h
    | some j =>
      let unit := (cfgHvarUnitsCode s c (i.val + 1)).toNat
      let mis := decide (unit ≠ 0) && decide ((r.units.getD j 0).toNat ≠ unit)
      { h with
        vars := h.vars.set i.val (Pair.mk0 (fCanon (r.vars.getD j fNan)))
        varAt := h.varAt.set i.val (stampNow s)
        varStat := h.varStat.set i.val (if h.cmd = 9 then r.stats.getD j 0xC0 else 0xC0)
        varUnits := h.varUnits.set i.val mis }) h

/-- The loop current as this node measures it: the channel's input value or the output's readback (R202, R247). -/
def loopMeasured (s : State) (c : Fin 20) : Word :=
  if h : c.val < 16 then (uaiAt s ⟨c.val, h⟩).inputValue.v else (aoAt s ⟨c.val - 16, by omega⟩).readback.v

/-- The loop current of the reply differs from the measured one by more than LOOP_TOLERANCE (R202). -/
def loopDiffers (s : State) (c : Fin 20) (ma : Word) : Bool :=
  fLt (cfgHartLoopTolerance s c.val) (fAbs (fSub ma (loopMeasured s c)))

/-- What a valid response leaves in the master (R200 to R202, R208). -/
def hartTake (s : State) (c : Fin 20) (r : HartResp) (h : HartDev) : HartDev :=
  let h := { h with
    retries := 0, failRun := 0, transactions := satInc h.transactions, devStatus := r.status, respCode := r.code
    at_ := stampNow s
    want48 := h.want48 || (r.status.getLsbD 4 && decide (h.cmd ≠ 48)) }
  match h.cmd.toNat with
  | 0 =>
    let ok := idMatches s c.val r
    { h with devType := r.devType, devId := r.devId, idMis := !ok, commFail := false
             st := if ok then .polling else .identifying }
  | 3 =>
    let h := takeVars s c.val r h
    { h with loopMa := r.loopMa, loopMis := loopDiffers s c r.loopMa
             unitsMis := (List.finRange 8).any fun i => vat h.varUnits i }
  | 9 =>
    let h := takeVars s c.val r h
    { h with unitsMis := (List.finRange 8).any fun i => vat h.varUnits i }
  | _ => h

/-- Status bits newly set in a reply. -/
def newBits (h : HartDev) (r : HartResp) (i : Nat) : Bool := r.status.getLsbD i && !h.devStatus.getLsbD i

/-- Records of a response: configuration changed or cold start newly set, a malfunction newly set, command 48's bytes
(R200, R202, R490; log entry 19). -/
def hartRecs (s : State) (c : Fin 20) (r : HartResp) : State :=
  let h := hartAt s c
  let p0 : Word := at' 24 r.status.toNat ||| at' 16 r.code.toNat
  let s1 := if newBits h r 6 || newBits h r 5 then
      stage s (mkRec s .e 0x18 (subj s 2 c.val) 0 [p0, h.devType.setWidth 32, h.devId.setWidth 32]) else s
  let s2 := if newBits h r 7 then stage s1 (mkRec s .d 0x49 (subj s 2 c.val) 0 [p0]) else s1
  if h.cmd = 48 then stage s2 (mkRec s .d 0x49 (subj s 2 c.val) 0 (p0 :: r.vars.take 5)) else s2

/-- Another master was heard (R200, R208). -/
def hartHears (s : State) (other : Bool) (h : HartDev) : HartDev :=
  if other then { h with otherMaster := true, otherAt := now s } else h

/-- HART_TRANSACTION_END with the reply, if a valid one came, and whether another master was heard; suspended time counts
toward no failure (R200 to R202). -/
def execHartTransactionEnd (c : Fin 20) (resp : Option HartResp) (other : Bool) (s : State) : Host.Outcome State Fault Refusal :=
  match modemBusy s c with
  | none => .next s
  | some k =>
    let s1 := (s.modModem k fun m => { m with active := none }).modHart c (hartHears s other)
    doIf (up s) s (match resp with
      | none => if hartSuspended s c then s1 else s1.modHart c hartFail
      | some r => (hartRecs s1 c r).modHart c (hartTake s1 c r))

/-- HART_MODEM_SELF_TEST; a modem that fails gives up the transaction it holds (R199). -/
def execHartModemSelfTest (k : Fin 4) (pass : Bool) (s : State) : Host.Outcome State Fault Refusal :=
  doIf s.field.running s (s.modModem k fun m => { m with fail := !pass, active := if pass then m.active else none })

/-- HART_REDISCOVER clears COMM_FAIL and ID_MISMATCH; command 0 is next (R207, R253). -/
def rediscover (s : State) (c : Fin 20) : State :=
  (touchPort s c).modHart c fun h => { h with
    commFail := false, idMis := false, st := if h.st == .off then .off else .identifying
    retries := 0, failRun := 0, want48 := false }

/-- HART_REDISCOVER (R207, R253). -/
def execHartRediscover (r : Req) (c : Fin 20) (s : State) : Host.Outcome State Fault Refusal :=
  doIf (may s r 2 && chanReady s c.val) s (rediscover s c)

/-- OTHER_MASTER_CLEAR after 10 min without another master (R208). -/
def execOtherMasterClear (c : Fin 20) (s : State) : Host.Outcome State Fault Refusal :=
  let h := hartAt s c
  doIf (h.otherMaster && decide (h.otherAt + 600000 ≤ now s)) s (s.modHart c fun h => { h with otherMaster := false })

/-! Quality from HART (R202). -/

/-- What HART status contributes to the points conditioned from, or read back with, the loop current of channel c
(R202, R247). -/
def hartLoopQuality (s : State) (c : Fin 20) : Nat × Nat :=
  let h := hartAt s c
  if hartState s c != .polling then (0, 0)
  else if h.devStatus.getLsbD 7 then (3, 0x11)
  else if h.devStatus.getLsbD 3 || h.devStatus.getLsbD 2 || h.devStatus.getLsbD 0 || h.loopMis then (1, 0)
  else (0, 0)

/-- What HART status contributes to a point mapped from variable k of channel c (R202; log entry 93); `v` is its value. -/
def hartVarQuality (s : State) (c : Fin 20) (k : Nat) (v : Word) : List (Nat × Nat) :=
  let h := hartAt s c
  let i : Fin 8 := ⟨(k - 1) % 8, by omega⟩
  let src := (cfgHvarSource s c.val k).toNat
  let lim := if src = 0x100 then h.devStatus.getLsbD 0 else h.devStatus.getLsbD 1
  let dev : List (Nat × Nat) := match (vat h.varStat i).toNat / 64 with
    | 0 => [(3, 0x11)]
    | 1 => [(1, 0)]
    | 2 => [(1, 0)]
    | _ => []
  (if h.commFail || h.idMis then [(3, 0x12)] else []) ++ (if h.devStatus.getLsbD 7 then [(3, 0x11)] else []) ++
  (if lim then [(1, 0)] else []) ++ dev ++ (if vat h.varUnits i then [(3, 0x13)] else []) ++
  (if fIsNan v then [(3, 0x11)] else [])

end Sys2Proof.Machine
end

