-- ==== Sys2Proof/Machine/LoopOut.lean ====
section
/-! DEFINITION. Loop outputs: the command, readback and its flags, manual control and the open test (R230 to R253). -/

namespace Sys2Proof.Machine
open Sys2Proof

/-! The command of a commanding point (R235 to R237, R267). -/

/-- The mapped current of value v, within the clamps (R235). -/
def aoMapped (s : State) (n : Nat) (v : Word) : Word :=
  let lo := cfgAoOutLowMa s n
  let m := fAdd lo (fMul (fDiv (fSub v (cfgAoEuLow s n)) (fSub (cfgAoEuHigh s n) (cfgAoEuLow s n)))
    (fSub (cfgAoOutHighMa s n) lo))
  fClamp (cfgAoClampLowMa s n) (cfgAoClampHighMa s n) m

/-- The last command Felt received for output o, 0 where there is none since the field die started (R240, R270). -/
def feltLast (s : State) (o : Fin 12) : Word := ((feltAt s o).cmd.map Pair.v).getD 0

/-- The safe current a FAIL_ACTION of SAFE commands: the last command Felt holds where the safe state is the last one (R236,
R240; log entry 20). -/
def aoSafeCommand (s : State) (n : Fin 4) : Word :=
  let p := aoSafePair s n.val
  if fIsNan p.v then feltLast s (aoOut n) else p.v

/-- The command loop output n takes from its commanding point: value and quality code (R236). -/
def aoCommand (s : State) (n : Fin 4) (v : Word) (q : Nat) : AoDrive × Option Word :=
  if q ≤ 1 && !fIsNan v then (.value, some (aoMapped s n.val v))
  else match (cfgAoFailAction s n.val).toNat with
    | 0 => (.hold, if (aoAt s n).haveCmd then none else some (aoSafeCommand s n))
    | 1 => (.failLow, some (cfgAoFailLowMa s n.val))
    | 2 => (.failHigh, some (cfgAoFailHighMa s n.val))
    | _ => (.failSafe, some (aoSafeCommand s n))

/-- Loop output n's command formed from the agreeing results of both paths (R56, R235); a disagreement is an integrity failure
of the evaluation, which forms none (R58, `failAo`). -/
def formAo (s : State) (n : Fin 4) (v : Word) (q : Nat) : State :=
  let c := aoCommand s n v q
  s.modAo n fun a => { a with
    command := match c.2 with
      | some w => Pair.mk0 w
      | none => a.command
    by_ := c.1, haveCmd := true, integrityRun := 0, stopped := false }

/-- An integrity failure of the commanding point: none is formed, and after three in a row none is sent (R236, R237). -/
def failAo (s : State) (n : Fin 4) : State :=
  s.modAo n fun a => { a with
    integrityRun := satInc a.integrityRun, stopped := a.stopped || decide (2 ≤ a.integrityRun.toNat) }

/-- Pattern code of a value: rounded and limited to 0 to 6 (R267). -/
def patternOf (v : Word) : Nat :=
  if fIsFin v then (iClamp 0 6 (fToInt v)).toNat else if fNegative v then 0 else 6

/-- The pattern a FAIL_ACTION of SAFE commands (R267, R270; log entry 20). -/
def doSafeCommand (s : State) (n : Fin 8) : Nat := match (cfgDoSafeState s n.val).toNat with
  | 1 => bits (feltLast s (doOut n)) 2 0
  | 2 => bits (cfgDoSafePattern s n.val) 2 0
  | _ => 0

/-- The command digital output n takes from its commanding point (R267). -/
def doCommand (s : State) (n : Fin 8) (v : Word) (q : Nat) : Nat × Option Nat :=
  if q ≤ 1 && !fIsNan v then (6, some (patternOf v))
  else match (cfgDoFailAction s n.val).toNat with
    | 0 => (7, if (doAt s n).haveCmd then none else some (doSafeCommand s n))
    | 1 => (8, some 0)
    | _ => (9, some (doSafeCommand s n))

/-- Digital output n's command formed (R267). -/
def formDo (s : State) (n : Fin 8) (v : Word) (q : Nat) : State :=
  let c := doCommand s n v q
  s.modDo n fun d => { d with
    command := match c.2 with
      | some w => Pair.mk0 (w32 w)
      | none => d.command
    by_ := c.1, haveCmd := true, integrityRun := 0, stopped := false }

/-- As for a loop output (R237, R267). -/
def failDo (s : State) (n : Fin 8) : State :=
  s.modDo n fun d => { d with
    integrityRun := satInc d.integrityRun, stopped := d.stopped || decide (2 ≤ d.integrityRun.toNat) }

/-! Readback (R234, R243). -/

/-- A SOURCE output. -/
def aoSource (s : State) (n : Fin 4) : Bool := decide (bits (feltAt s (aoOut n)).mode 3 0 = 1)

/-- The checks for COMPLIANCE and DEVIATION are suspended: 5 ms after a change, 80 ms with the HART filter (R243, R248). -/
def aoSettling (s : State) (n : Fin 4) : Bool :=
  decide (now s < (aoAt s n).changedAt + if (aoAt s n).hartFilter then 80 else 5)

/-- Readback is at least 0.1 mA, and below the applied current by more than READBACK_TOLERANCE (R243). -/
def aoShort (s : State) (n : Fin 4) (ma : Word) : Bool :=
  fLe (fRat 1 10) ma && fLt (aoAt s n).tol (fSub (aoAt s n).applied ma)

/-- V_SINK_MIN = 4.0 V + 50 Ω × I (R231). -/
def sinkMin (ma : Word) : Word := fAdd (fOfNat 4) (fMul (fRat 1 20) ma)

/-- Condition of AO_DIAG flag i in one readback sample (R243). -/
def aoCond (s : State) (n : Fin 4) (ma volts : Word) (atCap : Bool) (i : Nat) : Bool :=
  let a := aoAt s n
  let src := aoSource s n
  let st := (portAt s (aoPort n)).st
  let fold := st == .foldback
  let rank := (aoRank s n).1
  let high := fLe f1 a.applied && fLt ma (fRat 1 10)
  match i with
  | 0 => !fold && high && (if src then atCap else fLt volts f1)
  | 1 => !fold && aoShort s n ma && (if src then atCap else fLt volts (sinkMin ma))
  | 2 => fLt a.tol (fAbs (fSub ma a.applied)) && !bit a.dieDiag 0 && !bit a.dieDiag 1
  | 3 => src && fold
  | 4 => src && (st == .slTripped || (st == .slProbing && (portAt s (aoPort n)).afterTrip))
  | 5 => src && st == .lockedPassive
  | 6 => !s.field.suppliesOn
  | 7 => rank == .noSetting || rank == .feltTimeout || rank == .notReady
  | 8 => rank == .safen
  | 9 => settingFail (feltAt s (aoOut n))
  | _ => false

/-- Consecutive samples a flag's condition must hold: three for OPEN and COMPLIANCE, 100 ms for DEVIATION (R243). -/
def aoNeed (i : Nat) : Nat := match i with
  | 0 => 3
  | 1 => 3
  | 2 => 100
  | _ => 1

/-- One flag with its two counts: raised after the samples it needs, cleared after three samples without (R243). -/
def aoFlagStep (cond held was : Bool) (need run gone : Nat) : Bool × Nat × Nat :=
  if held then (was, run, gone)
  else if cond then (was || decide (need ≤ run + 1), min (run + 1) need, 0)
  else if was then (if 3 ≤ gone + 1 then (false, 0, 0) else (true, 0, gone + 1))
  else (false, 0, 0)

/-- OPEN is judged by the test pulses alone: a tested SOURCE output below 1.0 mA (R244; log entry 23). -/
def aoPulsed (s : State) (n : Fin 4) : Bool :=
  aoSource s n && (aoAt s n).openTest && fLt (aoAt s n).applied f1

/-- The flags of a readback sample; COMPLIANCE and DEVIATION stand still within the settling window, and OPEN between test
pulses (R243, R244). -/
def aoFlags (s : State) (n : Fin 4) (ma volts : Word) (atCap : Bool) : Word × Vector Nat 16 × Vector Nat 16 :=
  let a := aoAt s n
  (List.finRange 11).foldl (fun acc i =>
    let j : Fin 16 := i.castLE (by omega)
    let held := (aoSettling s n && decide (i.val = 1 ∨ i.val = 2)) || (decide (i.val = 0) && aoPulsed s n)
    let r := aoFlagStep (aoCond s n ma volts atCap i.val) held (bit a.dieDiag i.val) (aoNeed i.val) (vat a.runs j) (vat a.gone j)
    (acc.1 ||| flag i.val r.1, acc.2.1.set j.val r.2.1, acc.2.2.set j.val r.2.2)) ((0 : Word), a.runs, a.gone)

/-- Headroom measured at a readback sample: the supply less the drop of the series element and the terminal voltage (R250;
log entry 21). -/
def aoHeadroom (s : State) (n : Fin 4) (ma volts : Word) : Word :=
  let p := portAt s (aoPort n)
  fSub (fSub (fRat p.supplyMv 1000) (fMul (fRat (seriesOhms p) 1000) ma)) volts

/-- The logic side's copy of what the field die found in a sample: the pairs cross a link that is READY (R234). -/
def linkAo (s : State) (n : Fin 4) (ma volts upset : Word) : State :=
  if linkReady s then s.modAo n fun a => { a with
    readback := pairUpset ma upset, diag := Pair.mk0 a.dieDiag, termV := volts
    headroom := if aoSource s n then aoHeadroom s n ma volts else 0, at_ := stampNow s }
  else s

/-- A readback sample (R234, R243). -/
def aoSample (s : State) (n : Fin 4) (ma volts : Word) (atCap : Bool) (upset : Word) : State :=
  let f := aoFlags s n ma volts atCap
  let rises := bit f.1 1 && !bit (aoAt s n).dieDiag 1
  linkAo (s.modAo n fun a => { a with
    dieDiag := f.1, runs := f.2.1, gone := f.2.2, complAt := if rises then now s else a.complAt }) n ma volts upset

/-- AO_READBACK_SAMPLE; `upset` bits flipped in the complement of the readback (R234, R243; log entry 12). -/
def execAoReadbackSample (n : Fin 4) (ma volts : Word) (atCap : Bool) (upset : Word) (s : State) :
    Host.Outcome State Fault Refusal :=
  doIf (s.field.running && decide (bits (feltAt s (aoOut n)).mode 3 0 ≠ 0)) s (aoSample s n ma volts atCap upset)

/-- A test pulse: OPEN_TEST shows, and the OPEN rule applies to its last 3 ms, but for a port in FOLDBACK (R165, R243, R244). -/
def openTest (s : State) (n : Fin 4) (ma : Word) (atCap : Bool) : State :=
  let o := atCap && fLt ma (fRat 1 10) && !((portAt s (aoPort n)).st == .foldback)
  s.modAo n fun a =>
    let w := (if o then a.dieDiag ||| 1 else a.dieDiag &&& ~~~(1 : Word)) ||| flag 10 true
    { a with dieDiag := w, diag := if linkReady s then Pair.mk0 w else a.diag
             runs := a.runs.set 0 (if o then 3 else 0), gone := (a.gone.set 0 0).set 10 0 }

/-- No test pulse is driven: the port is OFF, or the output is held de-energised for want of a setting (R96, R239). -/
def AoDrive.dead : AoDrive → Bool
  | .off => true
  | .noSetting => true
  | _ => false

/-- OPEN_TEST_PULSE with the current read back and whether the supply stood at its cap (R244). -/
def execOpenTestPulse (n : Fin 4) (ma : Word) (atCap : Bool) (s : State) : Host.Outcome State Fault Refusal :=
  doIf (s.field.running && aoPulsed s n && !(aoRank s n).1.dead) s (openTest s n ma atCap)

/-! Manual control of loop outputs and digital outputs (R242, R271). -/

/-- A manual value that MANUAL_ON accepts (R242, R271). -/
def manualOk (o : Fin 12) (p : Pair) : Bool :=
  p.ok && (if o.val < 4 then fLe f0 p.v && fLe p.v (fOfNat 24) else decide (p.v.toNat ≤ 6))

/-- The manual value pair of output o. -/
def manualPair (s : State) (o : Fin 12) : Pair :=
  if h : o.val < 4 then (aoAt s ⟨o.val, h⟩).manualMa else (doAt s ⟨o.val - 4, by omega⟩).manualPat

/-- Output o is in manual. -/
def inManual (s : State) (o : Fin 12) : Bool :=
  if h : o.val < 4 then (aoAt s ⟨o.val, h⟩).manual else (doAt s ⟨o.val - 4, by omega⟩).manual

/-- Some output is in manual. -/
def anyManual (s : State) : Bool := (List.finRange 12).any (inManual s)

/-- The state with output o's manual flag set to b and its time noted. -/
def putManual (s : State) (o : Fin 12) (b : Bool) : State :=
  if h : o.val < 4 then s.modAo ⟨o.val, h⟩ fun a => { a with manual := b, manualAt := now s }
  else s.modDo ⟨o.val - 4, by omega⟩ fun d => { d with manual := b, manualAt := now s }

/-- Manual begins or ends: recorded, and shown in the SYSTEM group (R242, R490). -/
def setManual (s : State) (o : Fin 12) (b : Bool) : State :=
  if inManual s o = b then touchManual s o
  else
    let s1 := putManual s o b
    let s2 := stage s1 (mkRec s1 .e 0x14 (subj s1 2 (outChan o)) (if b then 1 else 2) (pws (manualPair s1 o)))
    sysSet s2 0x15 (anyManual s2)

/-- MANUAL_ON (R242, R253, R271, R282). -/
def execManualOn (r : Req) (out : Fin 12) (s : State) : Host.Outcome State Fault Refusal :=
  doIf (may s r 2 && chanReady s (outChan out)) s
    (if manualOk out (manualPair s out) then setManual s out true else touchManual s out)

/-- MANUAL_OFF (R242). -/
def execManualOff (r : Req) (out : Fin 12) (s : State) : Host.Outcome State Fault Refusal :=
  doIf (may s r 2 && chanReady s (outChan out)) s (setManual s out false)

/-- The manual value of output o written; in manual an unacceptable one is not followed (R242; log entry 22). -/
def putManualValue (s : State) (o : Fin 12) (v : Pair) : State :=
  let s := touchManual s o
  if inManual s o && !manualOk o v then s
  else if h : o.val < 4 then s.modAo ⟨o.val, h⟩ fun a => { a with manualMa := v }
  else s.modDo ⟨o.val - 4, by omega⟩ fun d => { d with manualPat := v }

/-- MANUAL_VALUE_WRITE; a pair that fails its check is ignored and counted (R12, R60, R242). -/
def execManualValueWrite (r : Req) (out : Fin 12) (v : Pair) (s : State) : Host.Outcome State Fault Refusal :=
  doIf (may s r 2 && chanReady s (outChan out)) s
    (if v.ok then putManualValue s out v else pairFail s 5 (subj s 2 (outChan out)) [v])

/-- MANUAL_TIMEOUT after 30 min without a write (R242). -/
def execManualTimeout (out : Fin 12) (s : State) : Host.Outcome State Fault Refusal :=
  let t := if h : out.val < 4 then (aoAt s ⟨out.val, h⟩).manualAt else (doAt s ⟨out.val - 4, by omega⟩).manualAt
  doIf (up s && inManual s out && decide (t + 1800000 ≤ now s)) s (setManual s out false)

/-! Quality of the readback point (R246). -/

/-- Quality code and FLT cause that AO_DIAG gives; COMPLIANCE counts once it has stood for 1 s (R246). -/
def aoQuality (s : State) (n : Fin 4) : Nat × Nat :=
  let a := aoAt s n
  let w := a.diag.v
  if bit w 4 then (3, 0x03)
  else if bit w 6 then (3, 0x04)
  else if bit w 0 then (3, 0x05)
  else if bit w 3 then (3, 0x06)
  else if bit w 1 && decide (a.complAt + 1000 ≤ now s) then (3, 0x0D)
  else if bit w 2 then (3, 0x0E)
  else if bit w 7 || bit w 8 || bit w 9 then (1, 0)
  else (0, 0)

end Sys2Proof.Machine
end

