-- ==== Sys2Proof/Machine/Disc.lean ====
section
/-! DEFINITION. Discrete inputs and outputs, SAFEn, and the field-to-logic link frame (R254 to R282, R30). -/

namespace Sys2Proof.Machine
open Sys2Proof

/-! Digital inputs (R255 to R265). -/

/-- Word of BACKUP_RAM that holds the value half of DIn's total; its complement follows (R264; log entry 24). -/
def totalSlot (n : Fin 16) : Fin 256 := ⟨32 + 2 * n.val, by omega⟩

/-- The value half of DI_STATE (R281). -/
def diStateWord (d : Di) : Word :=
  at' 16 d.transitions.toNat ||| at' 8 d.counter.toNat ||| flag 2 d.openFlag ||| flag 1 d.raw ||| flag 0 d.filtered

/-- The total counts one edge, wrapping past 0xFFFF_FFFF (R260, R261). -/
def countEdge (d : Di) (tick : BitVec 64) : Di :=
  { d with dieTotal := Pair.mk0 (d.dieTotal.v + 1), dieWrapped := d.dieWrapped || decide (d.dieTotal.v = 0xFFFFFFFF)
           edgeTicks := tick :: d.edgeTicks, lastCounted := some tick }

/-- A transition held for evaluation: at most 16, a seventeenth overwrites the newest (R257). -/
def holdEdge (d : Di) (e : DiEdge) : Di :=
  if d.held.length < 16 then { d with held := d.held ++ [e] }
  else { d with held := d.held.dropLast ++ [e], merged := satInc d.merged }

/-- The settings held by the field die, by place (R255). -/
def diSet (d : Di) (i : Nat) : Nat := (d.settings.getD i 0).toNat

/-- The filter of input n turns (R255, R257, R260). -/
def diTurn (s : State) (n : Fin 16) (on : Bool) (tick : BitVec 64) : State :=
  let d := diAt s n
  let mode := diSet d 0
  let counts := decide (mode = 2) && (match diSet d 4 with
    | 0 => on
    | 1 => !on
    | _ => true)
  let s1 := s.modDi n fun d =>
    let d := { d with filtered := on, transitions := d.transitions + 1, lastEdge := tick }
    let d := if on then { d with pressAt := some tick } else { d with
      pressAt := none, press := d.pressAt.map fun t => (t, tick), pressDone := d.pressAt.isNone }
    if counts then countEdge d tick else d
  let s2 := acqReach s1 tick
  if chanReady s (20 + n.val) then
    let st := (cfgDiStatePoint s n.val).toNat
    let s3 := if st < 65536 then s2.modDi n fun d => holdEdge d { on := Pair.mk0 (w32 (b2n on)), tick := tick, at_ := stampNow s } else s2
    wakePoint (wakePoint s3 st) (cfgDiTotalPoint s n.val).toNat
  else s2

/-- SAMPLE_PERIOD in ticks of ACQ_TICK (R255). -/
def diPeriod (d : Di) : Nat := match diSet d 1 with
  | 0 => 500
  | 1 => 2500
  | 2 => 10000
  | _ => 50000

/-- One raw sample of input n at a tick: the counter rises or falls within 0 and COUNT_LIMIT, and the filter turns where it
reaches an end (R255). -/
def diSample (s : State) (n : Fin 16) (on : Bool) (tick : BitVec 64) : State :=
  let d := diAt s n
  let lim := diSet d 2
  let c := if on then min lim (d.counter.toNat + 1) else d.counter.toNat - 1
  let s1 := s.modDi n fun d => { d with counter := BitVec.ofNat 8 c, raw := on }
  if on && decide (c = lim) && !d.filtered || !on && decide (c = 0) && d.filtered then diTurn s1 n on tick else s1

/-- Raw samples in their order, the first at a tick. -/
def diSamples (n : Fin 16) : List Bool → BitVec 64 → State → State
  | [], _, s => s
  | r :: t, tick, s => diSamples n t (tick + BitVec.ofNat 64 (diPeriod (diAt s n))) (diSample s n r tick)

/-- The filter is at the end of its count at which it turns over: what a transition that passes in this sample finds. -/
def diFlip (s : State) (n : Fin 16) : State :=
  let on := !(diAt s n).filtered
  let s1 := s.modDi n fun d => { d with counter := if on then BitVec.ofNat 8 (diSet d 2) else 0, raw := on }
  diTurn s1 n on (acqNow s)

/-- DI_FILTER_TRANSITION: raw samples of input n, the first at `tick` (R255, R257, R260). -/
def execDiFilterTransition (n : Fin 16) (raw : List Bool) (tick : BitVec 64) (s : State) : Host.Outcome State Fault Refusal :=
  doIf (s.field.running && decide (diSet (diAt s n) 0 ≠ 0)) s (diSamples n raw tick s)

/-- DI_LINE_OPEN: 100 ms below 0.30 mA with LINE_MONITOR 1, or 300 ms above 0.60 mA (R258). -/
def execDiLineOpen (n : Fin 16) (isOpen : Bool) (s : State) : Host.Outcome State Fault Refusal :=
  let d := diAt s n
  doIf (s.field.running && (!isOpen || decide (diSet d 0 ≠ 0) && decide (diSet d 3 = 1))) s
    (s.modDi n fun d => { d with openFlag := isOpen })

/-- TOTAL_PRESET: a checking pair is queued for the field die; a failing one is ignored and counted (R263, R60). -/
def execTotalPreset (r : Req) (n : Fin 16) (v : Pair) (s : State) : Host.Outcome State Fault Refusal :=
  doIf (may s r 2 && chanReady s (20 + n.val)) s
    (if v.ok then s.modDi n fun d => { d with presets := d.presets ++ [v] }
     else pairFail s 5 (subj s 2 (20 + n.val)) [v])

/-- The oldest waiting preset replaces the total; an edge in the same sample counts after it (R263). -/
def applyPreset (s : State) (n : Fin 16) (edge : Bool) : State :=
  let d := diAt s n
  match d.presets with
  | [] => s
  | v :: t =>
    let r := mkRec s .e 0x13 (subj s 2 (20 + n.val)) (flag 0 d.dieWrapped) (pws d.dieTotal ++ pws v)
    let s1 := s.modDi n fun d => { d with presets := t, dieTotal := v, dieWrapped := false }
    let s2 := if up s then stage s1 r else s1
    if edge then diFlip s2 n else s2

/-- TOTAL_PRESET_APPLY at a sample boundary; `edge`: a transition passes the filter in the same sample (R263). -/
def execTotalPresetApply (n : Fin 16) (edge : Bool) (s : State) : Host.Outcome State Fault Refusal :=
  doIf s.field.running s (applyPreset s n edge)

/-- CLEAR_WRAP at a sample boundary; a wrap in the same sample leaves WRAPPED at 1 (R261, R281). -/
def clearWrap (s : State) (n : Fin 16) (edge : Bool) : State :=
  let s1 := s.modDi n fun d => { d with dieWrapped := false, totalGap := false, merged := 0 }
  if edge then diFlip s1 n else s1

/-- CLEAR_WRAP (R261, R281). -/
def execClearWrap (r : Req) (n : Fin 16) (edge : Bool) (s : State) : Host.Outcome State Fault Refusal :=
  doIf (may s r 2 && chanReady s (20 + n.val)) s (clearWrap s n edge)

/-- DIn's total pair in backup RAM, where it is in pulse mode. -/
def backTotal (s : State) (m : Vector Word 256) (n : Fin 16) : Vector Word 256 :=
  if cfgDiDiMode s n.val = 2 then
    let p := (diAt s n).total
    vmod (vmod m (totalSlot n) fun _ => p.v) ⟨33 + 2 * n.val, by omega⟩ fun _ => p.c
  else m

/-- TOTAL_BACKUP_WRITE: each total of an input in pulse mode into backup RAM (R264; log entry 24). -/
def execTotalBackupWrite (s : State) : Host.Outcome State Fault Refusal :=
  doIf (linkReady s) s { s with bkup := { s.bkup with ram := (List.finRange 16).foldl (backTotal s) s.bkup.ram } }

/-- At the READY of input n in pulse mode: a total the field die lost is preset from backup RAM, or to 0 where no checking
pair is saved there, with the preset's record, and TOTAL_GAP is set (R263, R264, R524). -/
def restoreTotal (s : State) (n : Fin 16) : State :=
  let d := diAt s n
  if d.restarted && decide (cfgDiDiMode s n.val = 2) then
    let p : Pair := ⟨vat s.bkup.ram (totalSlot n), vat s.bkup.ram ⟨33 + 2 * n.val, by omega⟩⟩
    let w := if p.ok then p else Pair.mk0 0
    stage (s.modDi n fun d => { d with dieTotal := w, dieWrapped := false, restarted := false, totalGap := true })
      (mkRec s .e 0x13 (subj s 2 (20 + n.val)) (flag 0 d.dieWrapped) (pws d.dieTotal ++ pws w))
  else s.modDi n fun d => { d with restarted := false }

/-! Digital outputs (R266 to R277). -/

/-- Cut-offs of the last 60 s. -/
def recentCuts (s : State) (d : Do) : List Nat := d.cutoffs.filter fun t => decide (now s < t + 60000)

/-- The value half of DO_DIAG (R282). -/
def doDiagWord (s : State) (n : Fin 8) : Word :=
  let d := doAt s n
  let r := doRank s n
  at' 16 (min (recentCuts s d).length 255) ||| at' 11 r.2 ||| flag 10 d.energised |||
    flag 9 (settingFail (feltAt s (doOut n))) ||| flag 8 (decide (r.1 = 2)) ||| flag 7 (decide (r.1 = 1 ∨ r.1 = 3 ∨ r.1 = 4)) |||
    flag 6 (doSupplyOff s n) ||| flag 5 d.extDrive ||| flag 4 d.shed ||| flag 3 d.latched ||| flag 2 d.thermal |||
    flag 1 d.overload ||| flag 0 d.openLoad

/-- DO_LATCHED follows the outputs (R272, R332). -/
def latchedCond (s : State) : State :=
  if up s then sysSet s 0x16 ((List.finRange 8).any fun n => (doAt s n).latched) else s

/-- A cut-off of output n: the ninth within 60 s latches it (R272, R273). -/
def cutOff (s : State) (n : Fin 8) : State :=
  let d := doAt s n
  let cs := now s :: recentCuts s d
  let s1 := s.modDo n fun d => { d with cutoffs := cs, cutAt := now s }
  if 9 ≤ cs.length ∧ d.latched = false then
    let s2 := refreshDo (s1.modDo n fun d => { d with latched := true }) n
    latchedCond (if up s2 then stage s2 (mkRec s2 .d 0x48 (subj s2 2 (36 + n.val)) 0 [doDiagWord s2 n]) else s2)
  else refreshDo s1 n

/-- DO_CURRENT_LIMIT: OVERLOAD while the output is in current limit (R272). -/
def execDoCurrentLimit (n : Fin 8) (isLimiting : Bool) (s : State) : Host.Outcome State Fault Refusal :=
  doIf s.field.running s (s.modDo n fun d => { d with overload := isLimiting })

/-- DO_THERMAL_CUTOFF (R272). -/
def execDoThermalCutoff (n : Fin 8) (s : State) : Host.Outcome State Fault Refusal :=
  doIf (s.field.running && (doAt s n).energised) s (cutOff (s.modDo n fun d => { d with thermal := true }) n)

/-- DO_THERMAL_RESTART: cooled, and 2 s after the cut-off (R272). -/
def execDoThermalRestart (n : Fin 8) (s : State) : Host.Outcome State Fault Refusal :=
  let d := doAt s n
  doIf (s.field.running && d.thermal && !d.latched && (!up s || decide (d.cutAt + 2000 ≤ now s))) s
    (refreshDo (s.modDo n fun d => { d with thermal := false }) n)

/-- RESET_LATCH releases a latched output, which restarts as after any cut-off; the history of cut-offs stays (R272; log
entry 25). -/
def resetLatch (s : State) (n : Fin 8) : State :=
  let s1 := touchManual s (doOut n)
  if (doAt s n).latched then
    latchedCond (refreshDo (s1.modDo n fun d => { d with latched := false }) n)
  else s1

/-- RESET_LATCH (R272, R282). -/
def execResetLatch (r : Req) (n : Fin 8) (s : State) : Host.Outcome State Fault Refusal :=
  doIf (may s r 2 && chanReady s (36 + n.val)) s (resetLatch s n)

/-- The highest-numbered energised output. -/
def topEnergised (s : State) : Option (Fin 8) := (List.finRange 8).reverse.find? fun n => (doAt s n).energised

/-- One look at the summed current: above 3.6 A shedding begins, and goes on until it is at most 3.0 A; each shedding is a
cut-off (R273). -/
def groupShed (s : State) (ma : Nat) : State :=
  let go := decide (3600 < ma) || (s.disc.shedding && decide (3000 < ma))
  let s1 := { s with disc := { s.disc with groupMa := BitVec.ofNat 16 (min ma 65535), shedding := go } }
  match topEnergised s1 with
  | some n => if go then cutOff (s1.modDo n fun d => { d with shed := true, shedAt := now s }) n else s1
  | none => s1

/-- DO_GROUP_SHED with the summed current in mA as it has stood for 20 ms (R273). -/
def execDoGroupShed (ma : Nat) (s : State) : Host.Outcome State Fault Refusal := doIf s.field.running s (groupShed s ma)

/-- DO_SHED_RESTART: the lowest-numbered output shed 2 s ago restarts (R273). -/
def execDoShedRestart (s : State) : Host.Outcome State Fault Refusal :=
  match (List.finRange 8).find? fun n => (doAt s n).shed && decide ((doAt s n).shedAt + 2000 ≤ now s) with
  | none => .next s
  | some n => doIf s.field.running s (refreshDo (s.modDo n fun d => { d with shed := false }) n)

/-- The BAD causes of R277 that DO_DIAG shows: SUPPLY, SHORT, OVERLOAD, EXT_DRIVE, OPEN. -/
def doCauses (w : Word) : BitVec 5 :=
  BitVec.ofNat 5 (b2n (bit w 6) + 2 * b2n (bit w 1 || bit w 2 || bit w 3) + 4 * b2n (bit w 4) + 8 * b2n (bit w 5) +
    16 * b2n (bit w 0))

/-- One off-state test: EXT_DRIVE above 10.0 V without a source, OPEN_LOAD above 3.5 V with it; a flag clears after three
tests without its condition. A BAD cause that DO_DIAG w does not show has been absent for one second more (R274, R277). -/
def offTest (w : Word) (d : Do) (extMv testMv : Int) : Do :=
  let e := decide (10000 < extMv)
  let o := decide (3500 < testMv)
  { d with
    extDrive := e || (d.extDrive && decide (d.extClear < 2)), extClear := if e then 0 else d.extClear + 1
    openLoad := o || (d.openLoad && decide (d.testsClear < 2)), testsClear := if o then 0 else d.testsClear + 1
    causeGone := Vector.ofFn fun i : Fin 5 =>
      let there := if i = 3 then e else if i = 4 then o else (doCauses w).getLsbD i.val
      if there then 0 else vat d.causeGone i + 1000 }

/-- DO_OFF_TEST with the terminal voltages of its two parts, while VFLD is above 16.0 V (R274, R276). -/
def execDoOffTest (n : Fin 8) (extMv testMv : Int) (s : State) : Host.Outcome State Fault Refusal :=
  let d := doAt s n
  doIf (s.field.running && !d.energised && s.field.band == .normal && decide (16000 < s.field.vfldMv) && d.openTest == 2) s
    (s.modDo n fun d => offTest (doDiagWord s n) d extMv testMv)

/-- DO_OPEN_LOAD_DETECT (R274). -/
def execDoOpenLoadDetect (n : Fin 8) (s : State) : Host.Outcome State Fault Refusal :=
  let t := (doAt s n).openTest
  doIf (s.field.running && (doAt s n).energised && (t == 1 || t == 2)) s
    (s.modDo n fun d => { d with openLoad := true, testsClear := 0, openGone := 0 })

/-- DO_REVERSE_BLOCK: the terminal found above VFLD, or no longer at a retry (R275). -/
def execDoReverseBlock (n : Fin 8) (above : Bool) (s : State) : Host.Outcome State Fault Refusal :=
  let d := doAt s n
  doIf (s.field.running && (d.energised || d.reverse)) s
    (refreshDo (s.modDo n fun d =>
      if above then { d with reverse := true, extDrive := true, extClear := 0, extGone := 0 }
      else { d with reverse := false }) n)

/-- DO_STAGGERED_RESTART: the lowest-numbered waiting output restarts (R276). -/
def execDoStaggeredRestart (s : State) : Host.Outcome State Fault Refusal :=
  match (List.finRange 8).find? fun n => (doAt s n).waitRestart with
  | none => .next s
  | some n => doIf (s.field.running && s.field.suppliesOn) s
      (refreshDo (s.modDo n fun d => { d with waitRestart := false }) n)

/-- RESTART_SLOWED_END: VFLD has stayed above 12.0 V for 60 s (R276). -/
def execRestartSlowedEnd (s : State) : Host.Outcome State Fault Refusal :=
  doIf (!s.field.band.low) s { s with disc := { s.disc with slowed := false } }

/-- DO_PATTERN_EDGE at an ACQ_TICK (R268). -/
def execDoPatternEdge (tick : BitVec 64) (s : State) : Host.Outcome State Fault Refusal :=
  doIf s.field.running s
    ((List.finRange 8).foldl refreshDo { s with disc := { s.disc with acqTick := tick, acqAt := now s } })

/-! SAFEn (R241, R271). -/

/-- The qualified state of SAFEn changes and crosses the link; on release outputs wait for the next command (R271). -/
def safenTo (s : State) (low : Bool) : State :=
  let s1 := { s with disc := { s.disc with safen := low } }
  let s2 := stage s1 (mkRec s1 .e 0x15 (subj s1 7 0) (flag 0 low) [])
  if s.field.running && linkReady s && low then refreshOuts (dieSafenTo s2 true) else s2

/-- SAFEN_CHANGE: the pin goes to a level, which qualifies once it has stood for 1 ms without a break (R271, R282). -/
def execSafenChange (low stood : Bool) (s : State) : Host.Outcome State Fault Refusal :=
  doIf (up s) s
    (let s1 := { s with disc := { s.disc with safenPin := low } }
     if stood && (s.disc.safen != low) then safenTo s1 low else s1)

/-! The field-to-logic frame (R30, R49, R257, R262, R277). -/

/-- The frame's copy of a pair with its complement struck. -/
def strike (p : Pair) (upset : Word) : Pair := ⟨p.v, p.c ^^^ upset⟩

/-- Gauze's wake decision on UAI n's sample: outside its bounds, a pair that fails, or a flag (R30). -/
def boundWake (s : State) (n : Fin 16) : Bool :=
  let u := uaiAt s n
  let lo := vat s.gauze.low n
  let hi := vat s.gauze.high n
  let m := bits u.mode 3 0
  decide (m ≠ 7) && decide (m ≠ 8) &&
  (!u.sample.ok || !lo.ok || !hi.ok || decide (sInt u.sample.v < sInt lo.v) || decide (sInt hi.v < sInt u.sample.v) ||
    decide (u.diag.v ≠ 0))

/-- A bound wake of the quad that owns point p (R30, R545). -/
def boundWakePoint (s : State) (p : Nat) : State := match pointEngine s p with
  | some e => wakePoint (perfAdd (perfAdd s 0x8002 1) (0x1006 + 256 * (quadOf e).val) 1) p
  | none => s

/-- Gauze acts on a new sample of UAI n (R30, R60). -/
def gauzeSample (s : State) (n : Fin 16) : State :=
  let u := uaiAt s n
  let m := bits u.mode 3 0
  if m = 7 ∨ m = 8 then s
  else
    let bad := [u.sample, vat s.gauze.low n, vat s.gauze.high n].filter fun p => !p.ok
    let s1 := if bad.isEmpty then s else pairFail s 0 (subj s 2 n.val) bad
    if boundWake s n then (channelPoints s1 n.val).foldl boundWakePoint s1 else s1

/-- UAI n's newest sample crosses the link, and goes to the channel's ring in Canvas task state (R39, R204, R390). -/
def linkUai (s : State) (n : Fin 16) (upSample upDiag : Word) : State :=
  if (uaiAt s n).dieNew then
    let cj := coldJunction s n (uaiAt s n).dieTemp
    let lead := cfgUaiLeadOhms s n.val
    let s1 := s.modUai n fun u =>
      let k := chanMode u.mode
      let smp := strike u.dieSample upSample
      { u with
        dieNew := false, sample := smp, diag := strike u.dieDiag upDiag, at_ := u.dieAt
        leadOhms := if (k.mode = 4 ∨ k.mode = 6) ∧ k.wiring = 3 then u.dieLead
          else if (k.mode = 4 ∨ k.mode = 6) ∧ k.wiring = 2 then lead else 0
        headroom := if k.mode = 1 then u.dieHead else 0
        cjc := if k.mode = 5 then cj.1 else nanPair
        inputValue := ⟨inputValue k lead cj.1.v smp.v, ~~~(inputValue k lead (~~~cj.1.c) (~~~smp.c))⟩ }
    let s2 := { s1 with canvas := { s1.canvas with rings := vmod s1.canvas.rings n fun l =>
      (((uaiAt s1 n).sample, (uaiAt s1 n).diag) :: l).take 16 } }
    let s3 := s2.modVib n fun v =>
      if (chanMode (uaiAt s n).mode).mode = 7 then
        { v with bias := ((v.writeIndex.toNat, (uaiAt s1 n).diag.v) :: v.bias).take 8192 } else v
    gauzeSample (perfAdd (trimTake s3 n) 0x6002 1) n
  else s

/-- The entity is suspect (R122). -/
def entSuspect (s : State) (sec key : Nat) : Bool := (cfgEnt s sec (some key)).any Ent.suspect

/-- DI_STATUS (R281). -/
def diStatusWord (s : State) (n : Fin 16) : Word :=
  let d := diAt s n
  at' 28 ((cfgDiDiMode s n.val).toNat % 16) ||| at' 8 d.merged.toNat ||| flag 4 (entSuspect s 5 (20 + n.val)) |||
    flag 3 d.totalGap ||| flag 2 d.restarted ||| flag 1 d.settling ||| flag 0 d.dieWrapped

/-- DIn's state, total and status as the frame carries them, together (R257, R262). -/
def linkDi (s : State) (n : Fin 16) (ua : Int) : State :=
  s.modDi n fun d => { d with
    state := Pair.mk0 (diStateWord d), total := d.dieTotal, status := diStatusWord s n
    current := fRat ua 1000, at_ := stampNow s }

/-- OPEN_LOAD and EXT_DRIVE clear after 300 ms energised without their conditions (R274). -/
def doAge (d : Do) (dt ma : Nat) : Do :=
  let og := if d.energised && decide (5 ≤ ma) then d.openGone + dt else 0
  let eg := if d.energised && !d.reverse then d.extGone + dt else 0
  { d with openGone := og, openLoad := d.openLoad && decide (og < 300)
           extGone := eg, extDrive := d.extDrive && decide (eg < 300) }

/-- A BAD cause stands until the output has been energised, or tested off, for 1 s without it (R277). -/
def doCauseAge (d : Do) (w : Word) (dt : Nat) : Do :=
  let cs := doCauses w
  let gone := (Vector.finRange 5).map fun i =>
    if cs.getLsbD i.val then 0 else vat d.causeGone i + (if d.energised then dt else 0)
  { d with causeGone := gone
           causeHold := BitVec.ofNat 5 (maskOf 5 fun i => cs.getLsbD i || (d.causeHold.getLsbD i && decide (gone.toList.getD i 0 < 1000))) }

/-- DOn's status as the frame carries it; a change wakes the owner of its STATUS_POINT (R277). -/
def linkDo (s : State) (n : Fin 8) (ma : Nat) (mv : Int) : State :=
  let dt := now s - (doAt s n).causeAt
  let s1 := s.modDo n fun d => doAge d dt ma
  let w := doDiagWord s1 n
  let changed := decide ((doAt s n).diag.v ≠ w)
  let s2 := s1.modDo n fun d => { doCauseAge d w dt with
    diag := Pair.mk0 w, current := fRat ma 1000, termV := fRat mv 1000, causeAt := now s, at_ := stampNow s }
  if changed && chanReady s (36 + n.val) then wakePoint s2 (cfgDoStatusPoint s n.val).toNat else s2

/-- A frame from the field die with its check sum right (R30, R49). `ch` names the input whose sample and diagnostic
complements `upSample` and `upDiag` strike. -/
def linkFrame (s : State) (ch : Fin 16) (upSample upDiag : Word) (doMa : List Nat) (doMv diUa : List Int) : State :=
  let s0 := perfAdd s 0x6000 1
  let s1 := (List.finRange 16).foldl (fun s n =>
    if n = ch then linkUai s n upSample upDiag else linkUai s n 0 0) s0
  let s2 := (List.finRange 16).foldl (fun s n => linkDi s n (diUa.getD n.val 0)) s1
  let s3 := (List.finRange 8).foldl (fun s n => linkDo s n (doMa.getD n.val 0) (doMv.getD n.val 0)) s2
  { s3 with disc := { s3.disc with groupMa := BitVec.ofNat 16 (min doMa.sum 65535) } }

/-- LINK_FRAME_RECEIVE: a frame with a wrong check sum is discarded (R30, R68); `doMa`, `doMv` and `diUa` are the currents
and voltages it carries, in mA, mV and µA, the last two signed (R266, R280; log entry 12). -/
def execLinkFrameReceive (crcOk : Bool) (ch : Fin 16) (upSample upDiag : Word) (doMa : List Nat) (doMv diUa : List Int) (s : State) :
    Host.Outcome State Fault Refusal :=
  doIf (s.field.running && linkReady s) s
    (if crcOk then linkFrame s ch upSample upDiag doMa doMv diUa else perfAdd (perfAdd s 0x6000 1) 0x6001 1)

/-! Quality of discrete points (R259, R277). -/

/-- Quality code and FLT cause of a digital output's STATUS_POINT (R277). -/
def doQuality (d : Do) : Nat × Nat :=
  let h (i : Nat) : Bool := d.causeHold.getLsbD i
  let w := d.diag.v
  if h 0 then (3, 0x04)
  else if h 4 then (3, 0x05)
  else if h 1 then (3, 0x06)
  else if h 2 then (3, 0x0F)
  else if h 3 then (3, 0x10)
  else if bit w 7 || bit w 8 || bit w 9 then (1, 0)
  else (0, 0)

end Sys2Proof.Machine
end

