-- ==== Sys2Proof/Machine/CfgTable.lean ====
section
/-! DEFINITION. The range tables of VERSION 1 (R117): for each field of each section its words, whether it is critical
and live, its range and its default. -/

namespace Sys2Proof.Machine
open Sys2Proof

/-- The range of a field's words. -/
inductive FKind where
  | anyW | anyF | uint (lo hi : Nat) | flt (lo hi : Word) | enum_ (vs : List Nat) | ref_ | prios | hartSource
  deriving DecidableEq, Repr

/-- One row of a field table (R110, R120). -/
structure FieldSpec where
  /-- FIELD_ID. -/
  fld : Nat
  /-- Least number of words. -/
  lo : Nat
  /-- Greatest number of words. -/
  hi : Nat
  /-- Critical. -/
  crit : Bool
  /-- Live. -/
  live : Bool
  /-- Range. -/
  kind : FKind
  /-- Default, none where the table gives none. -/
  dflt : Option (List Word)
  deriving DecidableEq, Repr

/-- Field table of R114. -/
def specId : List FieldSpec := [
  ⟨0x1, 1, 1, true, false, .uint 0 63, none⟩ /- NODE_NUMBER -/,
  ⟨0x2, 1, 1, true, false, .uint 0 65535, none⟩ /- OWN_FIRST -/,
  ⟨0x3, 1, 1, true, false, .uint 0 65535, none⟩ /- OWN_LAST -/,
  ⟨0x4, 1, 1, false, false, .uint 5000 120000, some [0x7530]⟩ /- READY_DEADLINE -/,
  ⟨0x5, 8, 8, false, true, .anyW, some [0, 0, 0, 0, 0, 0, 0, 0]⟩ /- NODE_LABEL -/]

/-- Field table of R115. -/
def specPlc : List FieldSpec := [
  ⟨0x1, 1, 1, true, true, .ref_, some [0xFFFFFFFF]⟩ /- POWER_POINT -/,
  ⟨0x2, 1, 1, false, true, .uint 1 3650, some [0x5A]⟩ /- ROTATION_DAYS -/]

/-- Field table of R115. -/
def specPin : List FieldSpec := [
  ⟨0x10, 1, 1, true, false, .uint 0 15, none⟩ /- PIN_ENGINE -/]

/-- Field table of R147. -/
def specFld : List FieldSpec := [
  ⟨0x1, 1, 1, true, true, .uint 5 1000, some [0x32]⟩ /- FELT_TIMEOUT -/,
  ⟨0x2, 1, 1, true, false, .uint 0 16000, some [0x3E80]⟩ /- SL_BUDGET_MW -/]

/-- Field table of R147. -/
def specPrt : List FieldSpec := [
  ⟨0x10, 1, 1, true, false, .enum_ [0, 1], some [0x0]⟩ /- ENERGY_MODE -/,
  ⟨0x11, 1, 1, true, false, .enum_ [0, 1, 2], some [0x0]⟩ /- GAS_GROUP -/,
  ⟨0x12, 1, 1, true, false, .uint 0 10000, some [0x2710]⟩ /- CABLE_C_NF -/,
  ⟨0x13, 1, 1, true, false, .uint 0 100000, some [0x186A0]⟩ /- CABLE_L_UH -/,
  ⟨0x14, 1, 1, true, true, .uint 600 2400, some [0x960]⟩ /- SL_POWER_MW -/,
  ⟨0x15, 1, 1, false, true, .uint 500 4000, some [0x3E8]⟩ /- LOOP_HEADROOM_MV -/]

/-- Field table of R198. -/
def specUai : List FieldSpec := [
  ⟨0x20, 1, 1, true, false, .enum_ [0, 1, 2, 3, 4, 5, 6, 7, 8], some [0x0]⟩ /- MODE -/,
  ⟨0x21, 1, 1, true, false, .enum_ [0, 1, 2], some [0x0]⟩ /- RANGE -/,
  ⟨0x22, 1, 1, true, false, .enum_ [2, 3, 4], some [0x2]⟩ /- WIRING -/,
  ⟨0x23, 1, 1, true, false, .enum_ [0, 1, 2, 3, 4, 5, 6, 7], some [0x0]⟩ /- SENSOR_TYPE -/,
  ⟨0x24, 1, 1, false, false, .enum_ [0, 1, 2, 3, 4], some [0x0]⟩ /- RATE -/,
  ⟨0x25, 1, 1, true, true, .anyF, some [0x00000000]⟩ /- IN_LOW -/,
  ⟨0x26, 1, 1, true, true, .anyF, some [0x3F800000]⟩ /- IN_HIGH -/,
  ⟨0x27, 1, 1, true, true, .enum_ [0, 1, 2], some [0x0]⟩ /- CHARACTERISTIC -/,
  ⟨0x28, 1, 1, true, true, .ref_, some [0xFFFFFFFF]⟩ /- TABLE -/,
  ⟨0x29, 1, 1, true, true, .anyF, some [0x0]⟩ /- EU_LOW -/,
  ⟨0x2A, 1, 1, true, true, .anyF, some [0x42C80000]⟩ /- EU_HIGH -/,
  ⟨0x2B, 1, 1, true, true, .flt 0x00000000 0x3DCCCCCD, some [0x3C23D70A]⟩ /- SQRT_CUTOFF -/,
  ⟨0x2C, 1, 1, true, true, .anyF, some [0x0]⟩ /- ZERO_TRIM -/,
  ⟨0x2D, 1, 1, true, true, .flt 0x3F666666 0x3F8CCCCD, some [0x3F800000]⟩ /- SPAN_TRIM -/,
  ⟨0x2E, 1, 1, true, true, .flt 0x00000000 0x40666666, some [0x40600000]⟩ /- NE43_LOW -/,
  ⟨0x2F, 1, 1, true, true, .flt 0x41A80000 0x41B80000, some [0x41AC0000]⟩ /- NE43_HIGH -/,
  ⟨0x30, 1, 1, true, false, .enum_ [0, 1, 2], some [0x2]⟩ /- CJC_SOURCE -/,
  ⟨0x31, 1, 1, true, false, .ref_, some [0xFFFFFFFF]⟩ /- CJC_CHANNEL -/,
  ⟨0x32, 1, 1, true, true, .flt 0xC2480000 0x42C80000, some [0x41C80000]⟩ /- CJC_FIXED -/,
  ⟨0x33, 1, 1, true, true, .flt 0x00000000 0x42C80000, some [0x0]⟩ /- LEAD_OHMS -/,
  ⟨0x34, 1, 1, false, true, .ref_, some [0xFF]⟩ /- TRIM_ZERO_DI -/,
  ⟨0x35, 1, 1, false, true, .ref_, some [0xFF]⟩ /- TRIM_SPAN_DI -/,
  ⟨0x36, 1, 1, false, true, .flt 0x3CA3D70A 0x40000000, some [0x3DCCCCCD]⟩ /- FREQ_THRESHOLD -/,
  ⟨0x37, 1, 1, false, true, .uint 100 60000, some [0x7D0]⟩ /- FREQ_TIMEOUT -/]

/-- Field table of R203. -/
def specHart : List FieldSpec := [
  ⟨0x1, 1, 1, false, false, .enum_ [0, 1], some [0x0]⟩ /- ROLE -/,
  ⟨0x2, 1, 1, false, false, .uint 0 63, some [0x0]⟩ /- POLL_ADDRESS -/,
  ⟨0x3, 2, 2, false, false, .anyW, some [0, 0]⟩ /- EXPECTED_ID -/,
  ⟨0x4, 1, 1, false, true, .flt 0x3D4CCCCD 0x3F800000, some [0x3E4CCCCD]⟩ /- LOOP_TOLERANCE -/]

/-- Field table of R203. -/
def specHvar : List FieldSpec := [
  ⟨0x10, 1, 1, true, false, .hartSource, none⟩ /- SOURCE -/,
  ⟨0x11, 1, 1, true, false, .ref_, none⟩ /- TARGET_POINT -/,
  ⟨0x12, 1, 1, false, true, .uint 0 255, some [0x0]⟩ /- UNITS_CODE -/]

/-- Field table of R226. -/
def specCap : List FieldSpec := [
  ⟨0x1, 1, 1, false, false, .enum_ [0, 1, 2], some [0x0]⟩ /- CAPTURE_RATE -/,
  ⟨0x2, 1, 1, true, true, .flt 0x3DCCCCCD 0x461C4000, some [0x41200000]⟩ /- SENSITIVITY -/,
  ⟨0x3, 1, 1, false, false, .enum_ [0, 1, 2], some [0x1]⟩ /- HIGHPASS -/,
  ⟨0x4, 1, 1, true, false, .ref_, some [0xFFFFFFFF]⟩ /- SPEED_CHANNEL -/,
  ⟨0x5, 1, 1, true, false, .uint 1 1024, some [0x1]⟩ /- PULSES_PER_REV -/,
  ⟨0x6, 1, 1, false, true, .uint 0 1048575, some [0x6400]⟩ /- PRE_SAMPLES -/,
  ⟨0x7, 1, 1, false, true, .uint 1024 1048576, some [0x19000]⟩ /- CAPTURE_LENGTH -/,
  ⟨0x8, 1, 1, false, true, .ref_, some [0xFFFFFFFF]⟩ /- TRIGGER_POINT -/,
  ⟨0x9, 1, 1, false, true, .uint 0 10080, some [0x0]⟩ /- SCHEDULE_MIN -/,
  ⟨0xA, 1, 1, false, true, .enum_ [0, 1], some [0x0]⟩ /- STREAM_ALLOWED -/,
  ⟨0xB, 1, 1, false, false, .enum_ [0, 1], some [0x0]⟩ /- EDGE_LOG -/]

/-- Field table of R227. -/
def specFeat : List FieldSpec := [
  ⟨0x20, 1, 1, true, false, .enum_ [0, 1, 2, 3, 4, 5, 6], none⟩ /- FEATURE_TYPE -/,
  ⟨0x21, 1, 1, true, false, .ref_, none⟩ /- TARGET_POINT -/,
  ⟨0x22, 1, 1, true, true, .flt 0x3F000000 0x471C4000, some [0x41200000]⟩ /- BAND_LOW -/,
  ⟨0x23, 1, 1, true, true, .flt 0x3F800000 0x471C4000, some [0x447A0000]⟩ /- BAND_HIGH -/,
  ⟨0x24, 1, 1, true, true, .enum_ [512, 1024, 2048, 4096, 8192, 16384, 32768], some [0x400]⟩ /- LINES -/,
  ⟨0x25, 1, 1, true, true, .uint 1 16, some [0x4]⟩ /- AVERAGES -/,
  ⟨0x26, 1, 1, false, true, .uint 100 60000, some [0x3E8]⟩ /- UPDATE_MS -/,
  ⟨0x27, 1, 1, true, true, .flt 0x3E800000 0x42800000, some [0x3F800000]⟩ /- ORDER -/,
  ⟨0x28, 1, 1, true, true, .enum_ [0, 1, 2], some [0x0]⟩ /- ENV_FILTER -/,
  ⟨0x29, 1, 1, false, true, .enum_ [0, 1, 2], some [0x1]⟩ /- KEEP -/]

/-- Field table of R249. -/
def specAo : List FieldSpec := [
  ⟨0x40, 1, 1, true, false, .enum_ [0, 1, 2], some [0x0]⟩ /- ROLE -/,
  ⟨0x41, 1, 1, true, false, .ref_, some [0xFFFFFFFF]⟩ /- COMMAND_POINT -/,
  ⟨0x42, 1, 1, true, true, .anyF, some [0x0]⟩ /- EU_LOW -/,
  ⟨0x43, 1, 1, true, true, .anyF, some [0x42C80000]⟩ /- EU_HIGH -/,
  ⟨0x44, 1, 1, true, true, .flt 0x00000000 0x41C00000, some [0x40800000]⟩ /- OUT_LOW_MA -/,
  ⟨0x45, 1, 1, true, true, .flt 0x00000000 0x41C00000, some [0x41A00000]⟩ /- OUT_HIGH_MA -/,
  ⟨0x46, 1, 1, true, true, .flt 0x00000000 0x41C00000, some [0x40733333]⟩ /- CLAMP_LOW_MA -/,
  ⟨0x47, 1, 1, true, true, .flt 0x00000000 0x41C00000, some [0x41A40000]⟩ /- CLAMP_HIGH_MA -/,
  ⟨0x48, 1, 1, true, true, .enum_ [0, 1, 2, 3], some [0x1]⟩ /- FAIL_ACTION -/,
  ⟨0x49, 1, 1, true, true, .flt 0x00000000 0x40666666, some [0x40600000]⟩ /- FAIL_LOW_MA -/,
  ⟨0x4A, 1, 1, true, true, .flt 0x41A80000 0x41B80000, some [0x41AC0000]⟩ /- FAIL_HIGH_MA -/,
  ⟨0x4B, 1, 1, true, true, .enum_ [0, 1, 2, 3, 4], some [0x0]⟩ /- SAFE_STATE -/,
  ⟨0x4C, 1, 1, true, true, .flt 0x00000000 0x41C00000, some [0x0]⟩ /- SAFE_MA -/,
  ⟨0x4D, 1, 1, true, true, .enum_ [0, 1], some [0x1]⟩ /- SAFEN_ACTION -/,
  ⟨0x4E, 1, 1, true, false, .ref_, some [0xFFFFFFFF]⟩ /- READBACK_POINT -/,
  ⟨0x4F, 1, 1, false, true, .flt 0x3CA3D70A 0x3F800000, some [0x3DCCCCCD]⟩ /- READBACK_TOLERANCE -/,
  ⟨0x50, 1, 1, false, true, .enum_ [0, 1], some [0x1]⟩ /- OPEN_TEST -/]

/-- Field table of R278. -/
def specDi : List FieldSpec := [
  ⟨0x60, 1, 1, true, false, .enum_ [0, 1, 2], some [0x0]⟩ /- DI_MODE -/,
  ⟨0x61, 1, 1, true, true, .enum_ [0, 1, 2, 3], some [0x2]⟩ /- SAMPLE_PERIOD -/,
  ⟨0x62, 1, 1, true, true, .uint 1 255, some [0x3]⟩ /- COUNT_LIMIT -/,
  ⟨0x63, 1, 1, true, true, .enum_ [0, 1], some [0x0]⟩ /- INVERT -/,
  ⟨0x64, 1, 1, true, false, .enum_ [0, 1], some [0x0]⟩ /- LINE_MONITOR -/,
  ⟨0x65, 1, 1, true, false, .ref_, some [0xFFFFFFFF]⟩ /- STATE_POINT -/,
  ⟨0x66, 1, 1, true, false, .enum_ [0, 1, 2], some [0x0]⟩ /- PULSE_EDGE -/,
  ⟨0x67, 1, 1, true, true, .anyF, some [0x3F800000]⟩ /- PULSE_SCALE -/,
  ⟨0x68, 1, 1, true, false, .ref_, some [0xFFFFFFFF]⟩ /- TOTAL_POINT -/,
  ⟨0x69, 1, 1, true, false, .ref_, some [0xFFFFFFFF]⟩ /- RATE_POINT -/,
  ⟨0x6A, 1, 1, false, true, .uint 100 600000, some [0x2710]⟩ /- RATE_TIMEOUT -/]

/-- Field table of R279. -/
def specDo : List FieldSpec := [
  ⟨0x80, 1, 1, true, false, .enum_ [0, 1], some [0x0]⟩ /- ROLE -/,
  ⟨0x81, 1, 1, true, false, .ref_, some [0xFFFFFFFF]⟩ /- COMMAND_POINT -/,
  ⟨0x82, 1, 1, true, true, .enum_ [0, 1, 2], some [0x1]⟩ /- FAIL_ACTION -/,
  ⟨0x83, 1, 1, true, true, .enum_ [0, 1, 2], some [0x0]⟩ /- SAFE_STATE -/,
  ⟨0x84, 1, 1, true, true, .uint 0 6, some [0x0]⟩ /- SAFE_PATTERN -/,
  ⟨0x85, 1, 1, true, true, .enum_ [0, 1], some [0x1]⟩ /- SAFEN_ACTION -/,
  ⟨0x86, 1, 1, true, false, .ref_, some [0xFFFFFFFF]⟩ /- STATUS_POINT -/,
  ⟨0x87, 1, 1, false, true, .enum_ [0, 1, 2], some [0x1]⟩ /- OPEN_LOAD_TEST -/]

/-- Field table of R297. -/
def specCalc : List FieldSpec := [
  ⟨0x1, 1, 1, true, false, .ref_, none⟩ /- TARGET_POINT -/,
  ⟨0x2, 1, 32, true, false, .anyW, some []⟩ /- OPERANDS -/,
  ⟨0x3, 1, 32, true, true, .anyF, some []⟩ /- CONSTANTS -/,
  ⟨0x4, 2, 64, true, false, .anyW, none⟩ /- STEPS_A -/,
  ⟨0x5, 2, 64, true, false, .anyW, none⟩ /- STEPS_B -/]

/-- Field table of R305. -/
def specTab : List FieldSpec := [
  ⟨0x1, 2, 64, true, true, .anyF, none⟩ /- X -/,
  ⟨0x2, 2, 64, true, true, .anyF, none⟩ /- Y -/,
  ⟨0x3, 1, 1, true, true, .enum_ [0, 1], some [0x0]⟩ /- EXTEND -/]

/-- Field table of R309. -/
def specPt : List FieldSpec := [
  ⟨0x1, 1, 1, true, false, .enum_ [0, 1, 2], some [0x0]⟩ /- TYPE -/,
  ⟨0x2, 1, 1, true, false, .enum_ [0, 1, 2], some [0x1]⟩ /- CLASS -/,
  ⟨0x3, 1, 1, true, false, .enum_ [0, 1, 2, 3], none⟩ /- SOURCE -/,
  ⟨0x4, 1, 1, true, false, .ref_, some [0xFFFFFFFF]⟩ /- CHANNEL -/,
  ⟨0x5, 1, 1, true, false, .ref_, none⟩ /- GROUP -/,
  ⟨0x6, 1, 1, false, false, .uint 2 16, some [0x2]⟩ /- STATE_COUNT -/,
  ⟨0x7, 1, 1, true, true, .anyF, some [0x0]⟩ /- INITIAL_VALUE -/,
  ⟨0x8, 1, 1, false, true, .flt 0x00000000 0x49742400, some [0x0]⟩ /- DELTA_BAND -/,
  ⟨0x9, 2, 2, false, true, .anyW, some [0, 0]⟩ /- UNITS_TEXT -/,
  ⟨0xA, 8, 8, false, true, .anyW, some [0, 0, 0, 0, 0, 0, 0, 0]⟩ /- TAG -/,
  ⟨0xB, 1, 1, false, true, .uint 0 6, some [0x1]⟩ /- DECIMALS -/]

/-- Field table of R344. -/
def specLim : List FieldSpec := [
  ⟨0x1, 1, 1, true, true, .uint 0 127, some [0x40]⟩ /- LIMIT_ENABLE -/,
  ⟨0x2, 1, 1, true, true, .anyF, some [0x0]⟩ /- LL -/,
  ⟨0x3, 1, 1, true, true, .anyF, some [0x0]⟩ /- L -/,
  ⟨0x4, 1, 1, true, true, .anyF, some [0x0]⟩ /- H -/,
  ⟨0x5, 1, 1, true, true, .anyF, some [0x0]⟩ /- HH -/,
  ⟨0x6, 1, 1, true, true, .flt 0x00000000 0x49742400, some [0x0]⟩ /- DEADBAND -/,
  ⟨0x7, 1, 1, true, true, .uint 0 600000, some [0x0]⟩ /- ON_DELAY -/,
  ⟨0x8, 1, 1, true, true, .uint 0 600000, some [0x0]⟩ /- OFF_DELAY -/,
  ⟨0x9, 1, 1, true, true, .uint 0 600000, some [0x0]⟩ /- FLT_ON_DELAY -/,
  ⟨0xA, 1, 1, true, true, .uint 0 600000, some [0x0]⟩ /- FLT_OFF_DELAY -/,
  ⟨0xB, 1, 1, true, true, .flt 0x358637BD 0x4E6E6B28, some [0x3F800000]⟩ /- ROC_LIMIT -/,
  ⟨0xC, 1, 1, true, true, .flt 0x00000000 0x4E6E6B28, some [0x0]⟩ /- ROC_DEADBAND -/,
  ⟨0xD, 1, 1, true, true, .uint 10 64000, some [0x3E8]⟩ /- ROC_WINDOW -/,
  ⟨0xE, 1, 1, true, true, .enum_ [0, 1, 2], some [0x0]⟩ /- ROC_DIRECTION -/,
  ⟨0xF, 1, 16, true, false, .ref_, some []⟩ /- DEV_POINTS -/,
  ⟨0x10, 1, 1, true, true, .flt 0x358637BD 0x4E6E6B28, some [0x3F800000]⟩ /- DEV_LIMIT -/,
  ⟨0x11, 1, 1, true, true, .uint 1 16, some [0x2]⟩ /- DEV_MIN_COUNT -/,
  ⟨0x12, 1, 1, true, true, .prios, some [0x2223223]⟩ /- PRIORITIES -/,
  ⟨0x13, 1, 1, true, false, .enum_ [0, 1], some [0x0]⟩ /- ADAPTIVE -/,
  ⟨0x14, 1, 1, true, true, .uint 0 600000, some [0x7D0]⟩ /- ADAPT_MIN -/,
  ⟨0x15, 1, 1, true, true, .uint 0 600000, some [0xEA60]⟩ /- ADAPT_MAX -/,
  ⟨0x16, 1, 1, true, true, .flt 0x3F000000 0x40400000, some [0x3F800000]⟩ /- ADAPT_FACTOR -/,
  ⟨0x17, 1, 1, true, true, .ref_, some [0xFFFFFFFF]⟩ /- SUPPRESS_POINT -/,
  ⟨0x18, 1, 1, true, true, .enum_ [0, 1], some [0x0]⟩ /- SUPPRESS_SENSE -/,
  ⟨0x19, 1, 1, true, true, .uint 0 600000, some [0x0]⟩ /- RELEASE_DELAY -/,
  ⟨0x1A, 1, 1, true, true, .enum_ [0, 1], some [0x0]⟩ /- LIMITS_ON_BAD -/,
  ⟨0x1B, 1, 1, false, true, .uint 0 4095, some [0x1E0]⟩ /- SHELVE_MAX_MIN -/,
  ⟨0x1C, 1, 8, false, true, .ref_, some []⟩ /- FOLD_UNDER -/,
  ⟨0x1D, 1, 1, false, true, .enum_ [0, 1], some [0x0]⟩ /- NEVER_FOLD -/,
  ⟨0x1E, 1, 1, false, true, .uint 5000 600000, some [0x1388]⟩ /- FOLD_WINDOW -/]

/-- Field table of R345, R375. -/
def specGrp : List FieldSpec := [
  ⟨0x1, 8, 8, false, true, .anyW, some [0, 0, 0, 0, 0, 0, 0, 0]⟩ /- GROUP_NAME -/,
  ⟨0x2, 1, 1, false, true, .enum_ [0, 1], some [0x0]⟩ /- FIRST_OUT -/,
  ⟨0x3, 1, 1, true, true, .enum_ [0, 1, 2, 3], some [0x0]⟩ /- DAMASK_MODE -/,
  ⟨0x4, 1, 8, true, true, .ref_, some []⟩ /- ROOT_GROUPS -/,
  ⟨0x5, 1, 1, true, true, .ref_, some [0xFFFFFFFF]⟩ /- SUPPRESS_POINT -/,
  ⟨0x6, 1, 1, true, true, .enum_ [0, 1], some [0x0]⟩ /- SUPPRESS_SENSE -/,
  ⟨0x7, 1, 1, true, true, .uint 0 600000, some [0x0]⟩ /- RELEASE_DELAY -/,
  ⟨0x40, 1, 1, true, true, .enum_ [0, 1], some [0x1]⟩ /- CALL_ENABLE -/,
  ⟨0x41, 1, 1, true, true, .uint 1 3, some [0x2]⟩ /- CALL_MIN_PRIORITY -/,
  ⟨0x42, 1, 1, true, true, .enum_ [0, 1], some [0x1]⟩ /- BRIDGE -/]

/-- Field table of R373. -/
def specCall : List FieldSpec := [
  ⟨0x1, 1, 1, true, true, .enum_ [0, 1, 2], some [0x2]⟩ /- MODE_AT_START -/,
  ⟨0x2, 1, 1, true, true, .uint 30 900, some [0xB4]⟩ /- ACCEPT_TIME -/,
  ⟨0x3, 1, 1, true, true, .uint 30 900, some [0x78]⟩ /- BACKUP_TIME -/,
  ⟨0x4, 1, 1, true, true, .uint 60 1800, some [0x12C]⟩ /- ATTEND_TIME -/,
  ⟨0x5, 1, 1, true, true, .uint 10 600, some [0x3C]⟩ /- HANDOVER_TIMEOUT -/,
  ⟨0x6, 1, 1, true, true, .uint 300 3600, some [0x708]⟩ /- DEADMAN_PERIOD -/,
  ⟨0x7, 1, 1, true, true, .uint 30 600, some [0xB4]⟩ /- DEADMAN_PREWARN -/,
  ⟨0x8, 1, 1, true, true, .uint 0 1800, some [0x0]⟩ /- MANNED_ESCALATE -/,
  ⟨0x9, 1, 1, true, true, .enum_ [0, 1], some [0x1]⟩ /- BACKUP_STAGE -/]

/-- Field table of R373. -/
def specEng : List FieldSpec := [
  ⟨0x10, 8, 8, false, true, .anyW, some [0, 0, 0, 0, 0, 0, 0, 0]⟩ /- ENG_NAME -/,
  ⟨0x11, 1, 1, true, true, .uint 0 15, none⟩ /- ROTA_ORDER -/,
  ⟨0x12, 1, 1, true, true, .enum_ [0, 1], some [0x1]⟩ /- ON_ROTA -/]

/-- Field table of R374. -/
def specPan : List FieldSpec := [
  ⟨0x1, 1, 1, true, false, .enum_ [0, 1, 2, 3, 4], none⟩ /- KIND -/,
  ⟨0x2, 8, 8, true, true, .anyW, some [0xFFFFFFFF, 0xFFFFFFFF, 0xFFFFFFFF, 0xFFFFFFFF, 0xFFFFFFFF, 0xFFFFFFFF, 0xFFFFFFFF, 0xFFFFFFFF]⟩ /- GROUP_MASK -/,
  ⟨0x3, 1, 1, true, true, .ref_, some [0xFF]⟩ /- ENGINEER -/,
  ⟨0x4, 1, 1, false, true, .uint 2000 30000, some [0x1388]⟩ /- HEARTBEAT_TIMEOUT -/,
  ⟨0x5, 8, 8, false, true, .anyW, some [0, 0, 0, 0, 0, 0, 0, 0]⟩ /- PANEL_LABEL -/]

/-- Field table of R458. -/
def specHost : List FieldSpec := [
  ⟨0x1, 2, 2, true, false, .anyW, none⟩ /- MAC -/,
  ⟨0x2, 1, 1, true, true, .uint 0 3, some [0x0]⟩ /- LEVEL -/,
  ⟨0x3, 8, 8, false, true, .anyW, some [0, 0, 0, 0, 0, 0, 0, 0]⟩ /- HOST_LABEL -/]

/-- Field table of R459. -/
def specRing : List FieldSpec := [
  ⟨0x1, 2, 2, true, false, .anyW, some []⟩ /- NODE_MAC -/,
  ⟨0x2, 2, 2, true, false, .anyW, some [0x0300, 0x4B440000]⟩ /- GROUP_MAC -/,
  ⟨0x3, 1, 1, true, false, .uint 1536 65535, some [0x88B5]⟩ /- ETHERTYPE -/,
  ⟨0x4, 1, 1, false, false, .enum_ [0, 1], some [0x1]⟩ /- PTP_ENABLE -/,
  ⟨0x5, 1, 1, false, false, .uint 0 127, some [0x0]⟩ /- PTP_DOMAIN -/,
  ⟨0x6, 1, 1, false, true, .uint 0 500, some [0x64]⟩ /- STATION_C3_MBPS -/]

/-- Field table of R459. -/
def specLink : List FieldSpec := [
  ⟨0x10, 1, 1, true, false, .enum_ [0, 1, 2, 3], some [0x3]⟩ /- PORT_MODE -/,
  ⟨0x11, 1, 1, false, false, .enum_ [0, 1], some [0x1]⟩ /- AUTONEG -/,
  ⟨0x12, 1, 1, false, false, .enum_ [0, 1], some [0x1]⟩ /- PREEMPTION -/]

/-- Field table of R467. -/
def specCan : List FieldSpec := [
  ⟨0x1, 1, 1, true, false, .uint 0 31, none⟩ /- SEGMENT -/,
  ⟨0x2, 1, 1, false, false, .enum_ [0, 1], some [0x1]⟩ /- FD_ENABLE -/,
  ⟨0x3, 1, 1, false, false, .uint 1 32, some [0x1]⟩ /- NBRP -/,
  ⟨0x4, 1, 1, false, false, .uint 2 256, some [0x7F]⟩ /- NTSEG1 -/,
  ⟨0x5, 1, 1, false, false, .uint 2 128, some [0x20]⟩ /- NTSEG2 -/,
  ⟨0x6, 1, 1, false, false, .uint 1 128, some [0x20]⟩ /- NSJW -/,
  ⟨0x7, 1, 1, false, false, .uint 1 32, some [0x1]⟩ /- DBRP -/,
  ⟨0x8, 1, 1, false, false, .uint 1 32, some [0x1D]⟩ /- DTSEG1 -/,
  ⟨0x9, 1, 1, false, false, .uint 1 16, some [0xA]⟩ /- DTSEG2 -/,
  ⟨0xA, 1, 1, false, false, .uint 1 16, some [0xA]⟩ /- DSJW -/,
  ⟨0xB, 1, 1, false, false, .enum_ [0, 1], some [0x1]⟩ /- TDC_ENABLE -/,
  ⟨0xC, 1, 1, false, false, .uint 0 127, some [0x1E]⟩ /- TDCO -/]

/-- Field table of R482. -/
def specMap : List FieldSpec := [
  ⟨0x10, 1, 1, true, false, .uint 0 536870911, none⟩ /- IDENTIFIER -/,
  ⟨0x11, 1, 1, true, false, .enum_ [0, 1], some [0x1]⟩ /- IDE -/,
  ⟨0x12, 1, 1, true, false, .enum_ [0, 1], some [0x0]⟩ /- BYTE_ORDER -/,
  ⟨0x13, 1, 1, true, false, .uint 0 511, some [0x0]⟩ /- START_BIT -/,
  ⟨0x14, 1, 1, true, false, .uint 1 32, some [0x10]⟩ /- LENGTH -/,
  ⟨0x15, 1, 1, true, false, .enum_ [0, 1, 2], some [0x0]⟩ /- FORMAT -/,
  ⟨0x16, 1, 1, true, true, .anyF, some [0x3F800000]⟩ /- SCALE -/,
  ⟨0x17, 1, 1, true, true, .anyF, some [0x0]⟩ /- OFFSET -/,
  ⟨0x18, 1, 1, true, false, .ref_, none⟩ /- TARGET_POINT -/,
  ⟨0x19, 1, 1, false, true, .uint 10 600000, some [0xBB8]⟩ /- TIMEOUT_MS -/,
  ⟨0x1A, 1, 1, false, false, .enum_ [0, 1], some [0x0]⟩ /- HIGH_PRIORITY -/]

/-- Field table of R516. -/
def specHist : List FieldSpec := [
  ⟨0x1, 1, 1, false, false, .uint 1 60, some [0x1]⟩ /- TREND_PERIOD_S -/,
  ⟨0x2, 1, 1, false, false, .uint 10 3600, some [0x3C]⟩ /- ARCHIVE_PERIOD_S -/,
  ⟨0x3, 1, 1, false, true, .uint 0 200000, some [0x4E20]⟩ /- HISTORY_READ_KBPS -/,
  ⟨0x4, 1, 1, false, true, .uint 50 99, some [0x5A]⟩ /- PERMANENT_WARN -/]

/-- Field table of R541. -/
def specTime : List FieldSpec := [
  ⟨0x1, 1, 1, false, false, .enum_ [0, 1], some [0x1]⟩ /- TIME_SOURCE -/,
  ⟨0x2, 1, 1, false, true, .uint 1 900, some [0x1F4]⟩ /- STEP_THRESHOLD_MS -/,
  ⟨0x3, 1, 1, false, true, .uint 0 31, some [0x10]⟩ /- RTC_TRIM -/,
  ⟨0x4, 1, 1, false, true, .enum_ [0, 1], some [0x1]⟩ /- AUTO_TRIM -/,
  ⟨0x5, 1, 1, false, true, .uint 2200 3000, some [0x960]⟩ /- VBAT_LOW_MV -/,
  ⟨0x6, 1, 1, false, true, .uint 10 3600, some [0x3C]⟩ /- TIME_BROADCAST_S -/]

/-- Field table of R561. -/
def specCtr : List FieldSpec := [
  ⟨0x1, 1, 1, false, true, .uint 0 86400, some [0x3C]⟩ /- DUMP_PERIOD_S -/]

/-- Field table of R561. -/
def specSmp : List FieldSpec := [
  ⟨0x10, 1, 1, false, true, .uint 0 65535, some [0x0]⟩ /- EVENT -/,
  ⟨0x11, 1, 1, false, true, .enum_ [0, 1], some [0x0]⟩ /- ENABLE -/,
  ⟨0x12, 1, 1, false, true, .enum_ [0, 1], some [0x0]⟩ /- CHAIN -/,
  ⟨0x13, 1, 1, false, true, .enum_ [0, 1], some [0x0]⟩ /- SAMPLE -/,
  ⟨0x14, 1, 1, false, true, .anyW, some [0x0]⟩ /- PRELOAD -/]

end Sys2Proof.Machine
end

