-- ==== Sys2Proof/Machine/CfgRead.lean ====
section
/-! DEFINITION. Reading a configuration: field records, their checks, the rules between fields, and what is checked when
the read ends at T_C (R107 to R122, R588 and the rules of each field table). -/

namespace Sys2Proof.Machine
open Sys2Proof

/-! Reasons of a report entry (R126). -/

/-- MISSING. -/
def rMissing : BitVec 8 := 1
/-- PAIR_FAIL. -/
def rPair : BitVec 8 := 2
/-- BELOW_MIN. -/
def rBelow : BitVec 8 := 3
/-- ABOVE_MAX. -/
def rAbove : BitVec 8 := 4
/-- BAD_ENUM. -/
def rEnum : BitVec 8 := 5
/-- SECTION_CRC. -/
def rSection : BitVec 8 := 6

/-- "None" as a word. -/
def wNone : Word := 0xFFFFFFFF

/-- The key word of an entity, 0xFFFF_FFFF for section fields (R126). -/
def keyWord : Option Nat → Word
  | some k => w32 k
  | none => wNone

/-- A report entry (R126). -/
def repEntry (sec : Nat) (key : Option Nat) (reason : BitVec 8) (fld : Nat) (found applied : Word) : RepEntry :=
  { sec := BitVec.ofNat 8 sec, reason := reason, fld := BitVec.ofNat 16 fld, key := keyWord key, found := found, applied := applied }

/-! Entities of a table of sections. -/

/-- The entity, the section's own fields for no key. -/
def tabEnt (t : Tab Sect) (sec : Nat) (key : Option Nat) : Option Ent := match tget t sec, key with
  | none, _ => none
  | some c, none => some c.top
  | some c, some k => tget c.ents k

/-- The value words of a field. -/
def Ent.ws? (e : Ent) (fld : Nat) : Option (List Word) := (tget e.fields fld).map FieldVal.ws

/-- The first value word of a field, d where it has none. -/
def Ent.w (e : Ent) (fld : Nat) (d : Word) : Word := ((e.ws? fld).getD [d]).headD d

/-- A word of an entity of a table. -/
def tabW (t : Tab Sect) (sec : Nat) (key : Option Nat) (fld : Nat) (d : Word) : Word := match tabEnt t sec key with
  | some e => e.w fld d
  | none => d

/-- The entities of a section with their keys, rising. -/
def tabEnts (t : Tab Sect) (sec : Nat) : Tab Ent := match tget t sec with
  | some c => c.ents
  | none => []

/-- The entity exists. -/
def tabHas (t : Tab Sect) (sec key : Nat) : Bool := (tabEnt t sec (some key)).isSome

/-! Field tables (R113, R117). -/

/-- MODE of UAI n in a table. -/
def tabMode (t : Tab Sect) (n : Nat) : Nat := (tabW t 5 (some n) 0x20 0).toNat

/-- The fields of an entity, or of a section's own fields (R113, R147, R198, R226, R249, R278, R279, R459). -/
def specsOf (t : Tab Sect) (sec : Nat) (key : Option Nat) : List FieldSpec := match key with
  | none => match sec with
    | 1 => specId
    | 3 => specRing
    | 4 => specTime
    | 5 => specFld
    | 11 => specCall
    | 14 => specHist
    | 15 => specCtr
    | 16 => specPlc
    | _ => []
  | some k => match sec with
    | 2 => specHost
    | 3 => if k = 2 then specLink.filter fun f => decide (f.fld ≠ 0x12) else specLink
    | 5 => if k < 16 then specPrt ++ specUai else if k < 20 then specPrt ++ specAo else if k < 36 then specDi else specDo
    | 6 => specTab
    | 7 => specPt
    | 8 => specLim
    | 9 => specGrp
    | 10 => specCalc
    | 11 => specEng
    | 12 => if k % 65536 = 0 then specCan else specMap
    | 13 => specPan
    | 15 => specSmp
    | 16 => specPin
    | 17 =>
      if k % 65536 ≠ 0 then specFeat
      else if tabMode t (k / 65536) = 7 then specCap.filter fun f => decide (f.fld ≠ 5 ∧ f.fld ≠ 0xB)
      else specCap.filter fun f => decide (f.fld = 5 ∨ f.fld = 0xA ∨ f.fld = 0xB)
    | 18 => if k % 65536 = 0 then specHart else specHvar
    | _ => []

/-- The row of a field. -/
def specOf (t : Tab Sect) (sec : Nat) (key : Option Nat) (fld : Nat) : Option FieldSpec :=
  (specsOf t sec key).find? fun f => decide (f.fld = fld)

/-- The key lies in its range (R113, R226). -/
def keyOk (t : Tab Sect) (sec k : Nat) : Bool :=
  let hi := k / 65536
  let lo := k % 65536
  match sec with
  | 2 => decide (k < 16)
  | 3 => decide (k < 3)
  | 5 => decide (k < 44)
  | 6 => decide (k < 256)
  | 7 => decide ((tabW t 1 none 2 0).toNat ≤ k ∧ k ≤ (tabW t 1 none 3 0).toNat)
  | 8 => tabHas t 7 k
  | 9 => decide (k < 256)
  | 10 => decide (k < 1024)
  | 11 => decide (k < 16)
  | 12 => decide (hi < 2 ∧ lo ≤ 512)
  | 13 => decide (hi < 2 ∧ lo < 48)
  | 15 => decide (k < 16)
  | 16 => decide (k < 65536)
  | 17 => decide (hi < 16 ∧ lo ≤ 64) && decide (tabMode t hi = 7 ∨ tabMode t hi = 8)
  | 18 => decide (hi < 20 ∧ lo ≤ 8)
  | _ => false

/-- The greatest number of entities (R113). -/
def maxEnts (sec : Nat) : Nat := if sec = 16 then 64 else 4096

/-- The default of a field, where the table gives one; IN_LOW and IN_HIGH default to their mode's figures (R176, R198). -/
def defaultOf (sec : Nat) (key : Option Nat) (e : Ent) (f : FieldSpec) : Option (List Word) :=
  if sec = 5 ∧ (f.fld = 0x25 ∨ f.fld = 0x26) ∧ (key.getD 99) < 16 then
    let d := uaiInDefault (e.w 0x20 0).toNat (e.w 0x21 0).toNat (e.w 0x23 0).toNat
    some [if f.fld = 0x25 then d.1 else d.2]
  else if sec = 3 ∧ f.fld = 1 then some (macWords Config.factoryMac)
  else f.dflt

/-- The first value word of a field as read, none for an absent one (R126). -/
def Ent.read? (e : Ent) (fld : Nat) : Option Word := (tget e.fields fld).bind FieldVal.found

/-- FOUND of a field (R126). -/
def Ent.foundW (e : Ent) (fld : Nat) : Word := (e.read? fld).getD wNone

/-- The entity with a field set, its complements with it where the field is critical, and what was read of it (R111,
R126). -/
def Ent.take (e : Ent) (f : FieldSpec) (ws : List Word) (found : Option Word) : Ent :=
  { e with fields := tset e.fields f.fld { ws := ws, cs := if f.crit then ws.map (~~~·) else [], found := found } }

/-- The entity with a field set; what was read of it stays (R111). -/
def Ent.put (e : Ent) (f : FieldSpec) (ws : List Word) : Ent := e.take f ws (e.read? f.fld)

/-! Checks of one value (R120). -/

/-- A ref checked as its record arrives: its field and the entity it names, none for one checked later (R120, R121). -/
def refNow (t : Tab Sect) (sec fld : Nat) (w : Word) : Bool :=
  let n := w.toNat
  let src (p : Nat) : Word := tabW t 7 (some p) 3 wNone
  let ship := decide (n < 65536 ∨ w = wNone)
  if sec = 5 ∧ (fld = 0x34 ∨ fld = 0x35) then decide (n < 16 ∨ n = 255)
  else if sec = 7 ∧ fld = 4 then decide (n < 16 ∨ w = wNone)
  else if sec = 10 ∧ fld = 1 then tabHas t 7 n && decide (src n = 2)
  else if sec = 12 ∧ fld = 0x18 then tabHas t 7 n && decide (src n = 1)
  else if (sec = 17 ∧ fld = 0x21) ∨ (sec = 18 ∧ fld = 0x11) then tabHas t 7 n
  else if sec = 13 ∧ fld = 3 then decide (n = 0xFF) || tabHas t 11 n
  else if (sec = 16 ∧ fld = 1) ∨ (sec = 8 ∧ fld = 0x17) ∨ (sec = 9 ∧ fld = 5) ∨ (sec = 17 ∧ fld = 8) then ship
  else true

/-- A field of one word carries a binary32. -/
def FKind.isF : FKind → Bool
  | .anyF => true
  | .flt _ _ => true
  | _ => false

/-- What the range rows of R120 find in the word of a one-word field: a reason, and the value taken, none for the
default. -/
def checkWord (t : Tab Sect) (sec : Nat) (f : FieldSpec) (w : Word) : Option (BitVec 8 × Option Word) :=
  if f.kind.isF && fIsNan w then some (rEnum, none)
  else match f.kind with
    | .uint lo hi => if w.toNat < lo then some (rBelow, some (w32 lo)) else if hi < w.toNat then some (rAbove, some (w32 hi)) else none
    | .flt lo hi => if fLt w lo then some (rBelow, some lo) else if fLt hi w then some (rAbove, some hi) else none
    | .enum_ vs => if vs.contains w.toNat then none else some (rEnum, none)
    | .ref_ => if refNow t sec f.fld w then none else some (rEnum, none)
    | .prios =>
      if bits w 31 28 = 0 ∧ (List.range 7).all (fun i => decide (bits w (4 * i + 3) (4 * i) ≤ 3)) then none
      else some (rEnum, none)
    | .hartSource => if w.toNat ≤ 249 ∨ (0x100 ≤ w.toNat ∧ w.toNat ≤ 0x103) then none else some (rEnum, none)
    | _ => none

/-- The words of a field record apart: values and complements (R111). -/
def unpair : List Word → List Word × List Word
  | v :: c :: t => let r := unpair t; (v :: r.1, c :: r.2)
  | l => (l, [])

/-! Reading the records of a section (R110, R111, R120). -/

/-- What the reader of a section holds. -/
structure Rd where
  /-- The section so far. -/
  sect : Sect := {}
  /-- What a record belongs to: none skipped, the section fields, or an entity. -/
  cur : Option (Option Nat) := some none
  /-- An ENTITY record has been read. -/
  opened : Bool := false
  /-- Keys met. -/
  keys : List Nat := []
  /-- Fields met in this entity. -/
  seen : List Nat := []
  /-- Fields already reported as MISSING for their length. -/
  quiet : List (Option Nat × Nat) := []
  /-- Fields that take their default after a clamp. -/
  defaulted : List (Option Nat × Nat) := []
  /-- A required section field failed. -/
  topFail : Bool := false
  /-- Report entries, newest first. -/
  reps : List RepEntry := []
  deriving DecidableEq, Repr

/-- The entity the record belongs to. -/
def Rd.ent (r : Rd) (key : Option Nat) : Ent := match key with
  | none => r.sect.top
  | some k => tgetD r.sect.ents k {}

/-- The reader with that entity passed through f. -/
def Rd.modEnt (r : Rd) (key : Option Nat) (f : Ent → Ent) : Rd := match key with
  | none => { r with sect := { r.sect with top := f r.sect.top } }
  | some k => { r with sect := { r.sect with ents := tset r.sect.ents k (f (r.ent (some k))) } }

/-- One report entry. -/
def Rd.rep (r : Rd) (e : RepEntry) : Rd := { r with reps := e :: r.reps }

/-- A required field fails: its entity is dropped and its other records skipped, or the section is unusable (R118, R120). -/
def Rd.fail (key : Option Nat) (r : Rd) : Rd := match key with
  | some k => { r with sect := { r.sect with ents := terase r.sect.ents k }, cur := none }
  | none => { r with topFail := true }

/-- The section fields, or the entity, are still kept. -/
def Rd.holds (key : Option Nat) (r : Rd) : Bool := match key with
  | some k => (tget r.sect.ents k).isSome
  | none => !r.topFail

/-- A record whose value takes the field's default (R120). -/
def Rd.toDefault (sec : Nat) (key : Option Nat) (f : FieldSpec) (reason : BitVec 8) (found : Word) (r : Rd) : Rd :=
  match defaultOf sec key (r.ent key) f with
  | some d =>
    { (r.rep (repEntry sec key reason f.fld found (d.headD wNone))).modEnt key (fun e => e.take f d (some found)) with
      defaulted := (key, f.fld) :: r.defaulted }
  | none => ({ r.rep (repEntry sec key reason f.fld found wNone) with defaulted := (key, f.fld) :: r.defaulted }).fail key

/-- A field record (R120). -/
def Rd.field (t : Tab Sect) (sec : Nat) (slot : Bool) (h : Word) (vs : List Word) (key : Option Nat) (r : Rd) : Rd :=
  let fld := bits h 31 16
  let found := vs.headD wNone
  let skip (reason : BitVec 8) : Rd := r.rep (repEntry sec key reason fld found wNone)
  match specOf t sec key fld with
  | none => skip rEnum
  | some f =>
    if r.seen.contains fld ∨ bits h 12 8 ≠ 0 ∨ (slot = true ∧ bit h 14 = true) then skip rEnum
    else
      let r := { r with seen := fld :: r.seen }
      let n := if f.crit then vs.length / 2 else vs.length
      if n < f.lo ∨ f.hi < n ∨ (f.crit = true ∧ vs.length % 2 = 1) then
        { r.rep (repEntry sec key rMissing fld found wNone) with quiet := (key, fld) :: r.quiet }
      else
        let p := if f.crit then unpair vs else (vs, [])
        if bit h 15 ≠ f.crit ∨ (f.crit = true ∧ p.2 ≠ p.1.map (~~~·)) then
          (r.modEnt key fun e => { e with suspect := e.suspect || f.crit }).toDefault sec key f rPair found
        else if f.hi = 1 then
          match checkWord t sec f found with
          | none => r.modEnt key fun e => e.take f [found] (some found)
          | some (reason, some v) => (r.rep (repEntry sec key reason fld found v)).modEnt key fun e => e.take f [v] (some found)
          | some (reason, none) => r.toDefault sec key f reason found
        else r.modEnt key fun e => e.take f p.1 (some found)

/-- On an OFF channel, an absent field of R198 is neither reported nor suspect (R198). -/
def offQuiet (sec : Nat) (key : Option Nat) (e : Ent) (fld : Nat) : Bool :=
  decide (sec = 5) && decide (key.getD 99 < 16) && decide (e.w 0x20 0 = 0) && decide (0x21 ≤ fld ∧ fld ≤ 0x37)

/-- The absent fields of one entity (R120). -/
def absentFields (t : Tab Sect) (sec : Nat) (key : Option Nat) (r : Rd) : Rd :=
  (specsOf t sec key).foldl (fun r f =>
    let e := r.ent key
    if !r.holds key || (tget e.fields f.fld).isSome || r.defaulted.contains (key, f.fld) then r
    else
      let silent := r.quiet.contains (key, f.fld) || offQuiet sec key e f.fld
      match defaultOf sec key e f with
      | none => (if silent then r else r.rep (repEntry sec key rMissing f.fld wNone wNone)).fail key
      | some d =>
        if f.crit then
          let r := if silent then r else r.rep (repEntry sec key rMissing f.fld wNone (d.headD wNone))
          let bad := !offQuiet sec key e f.fld
          r.modEnt key fun e => { e.put f d with suspect := e.suspect || bad }
        else r) r

/-! Rules between fields at the end of an entity (R121). -/

/-- An entity under the rules between its fields. -/
structure Fix where
  /-- The entity. -/
  e : Ent
  /-- Report entries, newest first. -/
  reps : List RepEntry := []
  /-- The entity is dropped. -/
  drop : Bool := false
  deriving DecidableEq, Repr

/-- Where a rule applies: tables read before, section, key and the node's variant. -/
structure Ctx where
  /-- Sections read before, this section's earlier entities among them. -/
  t : Tab Sect
  /-- Section. -/
  sec : Nat
  /-- Entity. -/
  key : Option Nat
  /-- KD-7416B. -/
  b : Bool

/-- Field fld clamped to v with a reason. -/
def Fix.clamp (c : Ctx) (reason : BitVec 8) (fld : Nat) (v : Word) (x : Fix) : Fix :=
  match specOf c.t c.sec c.key fld with
  | some f => { x with e := x.e.put f [v], reps := repEntry c.sec c.key reason fld (x.e.foundW fld) v :: x.reps }
  | none => x

/-- Field fld takes its default with a reason. -/
def Fix.dflt (c : Ctx) (reason : BitVec 8) (fld : Nat) (x : Fix) : Fix :=
  match specOf c.t c.sec c.key fld with
  | some f =>
    let d := (defaultOf c.sec c.key x.e f).getD []
    { x with e := x.e.put f d, reps := repEntry c.sec c.key reason fld (x.e.foundW fld) (d.headD wNone) :: x.reps }
  | none => x

/-- The entity is dropped with a reason. -/
def Fix.out (c : Ctx) (reason : BitVec 8) (fld : Nat) (found : Word) (x : Fix) : Fix :=
  { x with drop := true, reps := repEntry c.sec c.key reason fld found wNone :: x.reps }

/-- f where b holds. -/
def Fix.when (b : Bool) (f : Fix → Fix) (x : Fix) : Fix := if b then f x else x

/-- RANGE and SENSOR_TYPE valid for a mode (R176, R198). -/
def rangeOk (mode range : Nat) : Bool := if mode = 3 ∨ mode = 6 then decide (range ≤ 2) else decide (range = 0)
/-- SENSOR_TYPE valid for a mode (R176). -/
def sensorOk (mode sensor : Nat) : Bool :=
  if mode = 5 then decide (sensor ≤ 7) else if mode = 4 ∨ mode = 7 ∨ mode = 8 then decide (sensor ≤ 2) else decide (sensor = 0)

/-- The channel settings of an entity. -/
def entMode (e : Ent) : ChanMode :=
  { mode := (e.w 0x20 0).toNat, range := (e.w 0x21 0).toNat, sensor := (e.w 0x23 0).toNat, wiring := (e.w 0x22 2).toNat }

/-- Rules of R198 on the input range. -/
def ruleRange (c : Ctx) (x : Fix) : Fix := match inputLimits (entMode x.e) with
  | none => x
  | some (lo, hi) =>
    let lim (fld : Nat) (x : Fix) : Fix :=
      let v := x.e.w fld 0
      if fLt v lo then x.clamp c rBelow fld lo else if fLt hi v then x.clamp c rAbove fld hi else x
    let x := lim 0x26 (lim 0x25 x)
    let least := fOfUnits (100 * fUnits (x.e.w 0x25 0) + fUnits hi - fUnits lo) 100
    x.when (fLt (x.e.w 0x26 0) least) (Fix.clamp c rBelow 0x26 least)

/-- EU_HIGH equal to EU_LOW (R198, R249). -/
def ruleEu (c : Ctx) (lo hi : Nat) (x : Fix) : Fix :=
  x.when (fEq (x.e.w lo 0) (x.e.w hi 0x42C80000)) (Fix.clamp c rBelow hi (fAdd (x.e.w lo 0) f1))

/-- |ZERO_TRIM| at most 0.1 × |EU_HIGH − EU_LOW| (R198). -/
def ruleTrim (c : Ctx) (x : Fix) : Fix :=
  let hi := x.e.w 0x2A 0x42C80000
  let lo := x.e.w 0x29 0
  let m := if fIsFin hi && fIsFin lo then fOfUnits (fUnits hi - fUnits lo).natAbs 10 else fAbs (fSub hi lo)
  let z := x.e.w 0x2C 0
  if fLt m z then x.clamp c rAbove 0x2C m else if fLt z (fNeg m) then x.clamp c rBelow 0x2C (fNeg m) else x

/-- ENERGY_MODE is 1. -/
def Fix.spark (x : Fix) : Bool := decide (x.e.w 0x10 0 = 1)

/-- SL_POWER_MW of the spark-limited ports of lower key (R148). -/
def slUsed (c : Ctx) : Nat :=
  ((tabEnts c.t 5).filter fun e => decide (e.1 < 20 ∧ e.1 < c.key.getD 0) && decide (e.2.w 0x10 0 = 1)).foldl
    (fun n e => n + (e.2.w 0x14 0x960).toNat) 0

/-- SL_POWER_MW counted against SL_BUDGET_MW, port by port in ascending key order (R148). -/
def endEnergy (c : Ctx) (x : Fix) : Fix :=
  let left := (tabW c.t 5 none 2 0x3E80).toNat - slUsed c
  if x.spark && decide (left < (x.e.w 0x14 0x960).toNat) then
    if left < 600 then x.clamp c rAbove 0x10 0 else x.clamp c rAbove 0x14 (w32 left)
  else x

/-- Rules of R3 and R148 on ENERGY_MODE, the budget apart. -/
def ruleEnergy (c : Ctx) (x : Fix) : Fix :=
  let x := x.when (x.spark && c.b) (Fix.clamp c rEnum 0x10 0)
  let g := x.e.w 0x11 0
  let x := x.when (x.spark && decide (g ≠ 1 ∧ g ≠ 2)) (Fix.clamp c rAbove 0x10 0)
  let cn := (x.e.w 0x12 0x2710).toNat
  let lu := (x.e.w 0x13 0x186A0).toNat
  let fits := if g = 1 then decide (cn ≤ 50 ∧ lu ≤ 500) else decide (cn ≤ 150 ∧ lu ≤ 2000)
  x.when (x.spark && !fits) (Fix.clamp c rAbove 0x10 0)

/-- Rules of R148 and R198 for a UAI. -/
def ruleUai (c : Ctx) (x : Fix) : Fix :=
  let mode := (x.e.w 0x20 0).toNat
  let x := if mode = 0 then x else
    let x := x.when (!rangeOk mode (x.e.w 0x21 0).toNat) (Fix.clamp c rEnum 0x21 0)
    let x := x.when (!sensorOk mode (x.e.w 0x23 0).toNat) (Fix.clamp c rEnum 0x23 0)
    let x := x.when (decide (mode = 1 ∧ x.e.w 0x22 2 = 4)) (Fix.clamp c rAbove 0x22 3)
    ruleRange c x
  let x := ruleTrim c (ruleEu c 0x29 0x2A x)
  let x := x.when (x.spark && decide (mode ≠ 1 ∧ mode ≠ 7)) (Fix.clamp c rEnum 0x10 0)
  ruleEnergy c x

/-- Rules of R148, R231 and R249 for a loop output. -/
def ruleAo (c : Ctx) (x : Fix) : Fix :=
  let lo := x.e.w 0x44 0x40800000
  let x := x.when (fLt (fAbs (fSub (x.e.w 0x45 0x41A00000) lo)) f1)
    (let up := fAdd lo f1
     if fLt (fOfNat 24) up then Fix.clamp c rAbove 0x45 (fSub lo f1) else Fix.clamp c rBelow 0x45 up)
  let cl := x.e.w 0x46 0x40733333
  let x := x.when (fLt (x.e.w 0x47 0x41A40000) cl) (Fix.clamp c rBelow 0x47 cl)
  let x := ruleEu c 0x42 0x43 x
  let x := x.when (x.spark && decide (x.e.w 0x40 0 = 2)) (Fix.clamp c rEnum 0x10 0)
  ruleEnergy c x

/-- Rules of R306 and R307. -/
def ruleTab (c : Ctx) (x : Fix) : Fix :=
  let xs := (x.e.ws? 1).getD []
  let ys := (x.e.ws? 2).getD []
  let odd (fld : Nat) (ws : List Word) : List RepEntry := match ws.find? fun w => !fIsFin w with
    | some w => [repEntry c.sec c.key rEnum fld w w]
    | none => []
  let bad := odd 2 ys ++ odd 1 xs
  let shape := decide (xs.length ≠ ys.length) || (bad.isEmpty && !tableValid xs ys)
  let reps := bad ++ x.reps
  { x with reps := if shape then repEntry c.sec c.key rEnum 1 (xs.headD wNone) (xs.headD wNone) :: reps else reps }

/-- The order of the enabled limits of R344, from the fields still to take. -/
def ruleOrder (c : Ctx) : List Nat → Option Word → Fix → Fix
  | [], _, x => x
  | n :: t, prev, x =>
    if bit (x.e.w 1 0x40) n then
      let v := x.e.w (n + 2) 0
      match prev with
      | some p => if fLt v p then ruleOrder c t (some p) (x.clamp c rBelow (n + 2) p) else ruleOrder c t (some v) x
      | none => ruleOrder c t (some v) x
    else ruleOrder c t prev x

/-- Adaptive points among the entities that ended before (R344). -/
def adaptCount (c : Ctx) : Nat :=
  ((tabEnts c.t 8).filter fun e => decide (some e.1 ≠ c.key) && decide (e.2.w 0x13 0 = 1)).length

/-- Rules of R344. -/
def ruleLim (c : Ctx) (x : Fix) : Fix :=
  let x := ruleOrder c [0, 1, 2, 3] none x
  let lim := x.e.w 0xB f1
  let x := x.when (fLe lim (x.e.w 0xC 0)) (Fix.clamp c rAbove 0xC (fMul (fRat 1 2) lim))
  let per := classTicks (tabW c.t 7 c.key 2 1).toNat / 1024
  let win := (x.e.w 0xD 0x3E8).toNat
  let x := if win < per then x.clamp c rBelow 0xD (w32 per)
    else if 64 * per < win then x.clamp c rAbove 0xD (w32 (64 * per)) else x
  let mn := x.e.w 0x14 0x7D0
  let x := x.when (decide ((x.e.w 0x15 0xEA60).toNat < mn.toNat)) (Fix.clamp c rBelow 0x15 mn)
  let mx := x.e.w 0x15 0xEA60
  let x := x.when (decide (x.e.w 0x13 0 = 1 ∧ tabW c.t 7 c.key 1 0 ≠ 0)) (Fix.clamp c rEnum 0x13 0)
  let x := x.when (decide (x.e.w 0x13 0 = 1) && decide (256 ≤ adaptCount c)) (Fix.clamp c rAbove 0x13 0)
  if x.e.w 0x13 0 = 1 then
    let d := (x.e.w 7 0).toNat
    if d < mn.toNat then x.clamp c rBelow 7 mn else if mx.toNat < d then x.clamp c rAbove 7 mx else x
  else x

/-- Rules of R303 and R304. -/
def ruleCalc (c : Ctx) (x : Fix) : Fix :=
  let ops := ((x.e.ws? 2).getD []).length
  let cons := ((x.e.ws? 3).getD []).length
  let a := (x.e.ws? 4).getD []
  let b := (x.e.ws? 5).getD []
  if !seqOk a ops cons then x.out c rEnum 4 (a.headD wNone)
  else if !seqOk b ops cons || !pathsMatch a b then x.out c rEnum 5 (b.headD wNone)
  else x

/-- A multicast MAC drops the entity (R458). -/
def ruleHost (c : Ctx) (x : Fix) : Fix :=
  if (macOf ((x.e.ws? 1).getD [])).getLsbD 40 then x.out c rEnum 0 (keyWord c.key) else x

/-- An entity that repeats the MAC of a lower one is dropped (R458). -/
def endHost (c : Ctx) (x : Fix) : Fix :=
  let mac := macOf ((x.e.ws? 1).getD [])
  let twin := (tabEnts c.t 2).any fun e => decide (e.1 < c.key.getD 0) && decide (macOf ((e.2.ws? 1).getD []) = mac)
  if twin then x.out c rEnum 0 (keyWord c.key) else x

/-- Rules of R482 at the end of an entity. -/
def ruleMap (c : Ctx) (x : Fix) : Fix :=
  let x := x.when (decide (x.e.w 0x11 1 = 0) && decide (0x7FF < (x.e.w 0x10 0).toNat)) (Fix.clamp c rAbove 0x10 0x7FF)
  let x := x.when (decide (x.e.w 0x15 0 = 2 ∧ x.e.w 0x14 16 ≠ 32)) (Fix.clamp c rBelow 0x14 32)
  let len := (x.e.w 0x14 16).toNat
  x.when (decide (512 < (x.e.w 0x13 0).toNat + len)) (Fix.clamp c rAbove 0x13 (w32 (512 - len)))

/-- Sample rate of a CAPTURE_RATE (R209). -/
def fsOf (rate : Nat) : Nat := 25600 * 2 ^ rate

/-- Rules of R227 at the end of an entity. -/
def ruleFeat (c : Ctx) (x : Fix) : Fix :=
  let rate := (tabW c.t 17 (c.key.map fun k => k / 65536 * 65536) 1 0).toNat
  let top := fRat (39 * fsOf rate) 100
  let x := x.when (fLt top (x.e.w 0x23 0x447A0000)) (Fix.clamp c rAbove 0x23 top)
  let least := fAdd (x.e.w 0x22 0x41200000) (fRat (fsOf rate) (x.e.w 0x24 0x400).toNat)
  let x := x.when (fLt (x.e.w 0x23 0x447A0000) least) (Fix.clamp c rBelow 0x23 least)
  x.when (decide (x.e.w 0x28 0 = 2) && decide (rate < 2)) (Fix.clamp c rEnum 0x28 0)

/-- EtherTypes that ETHERTYPE may not take (R459). -/
def badTypes : List Nat := [0x0800, 0x0806, 0x86DD, 0x8100, 0x8808, 0x88F7, 0x88FB, 0x892F]

/-- The rules of one section's own fields (R114, R373, R459, R516, R561). -/
def ruleTop (c : Ctx) (x : Fix) : Fix := match c.sec with
  | 1 => x.when (decide ((x.e.w 3 0).toNat < (x.e.w 2 0).toNat)) (Fix.clamp c rBelow 3 (x.e.w 2 0))
  | 3 =>
    let x := x.when (badTypes.contains (x.e.w 3 0x88B5).toNat) (Fix.dflt c rEnum 3)
    let x := x.when ((macOf ((x.e.ws? 1).getD [])).getLsbD 40) (Fix.dflt c rEnum 1)
    x.when ((x.e.ws? 2).any fun ws => !(macOf ws).getLsbD 40) (Fix.dflt c rEnum 2)
  | 11 =>
    let per := x.e.w 6 0x708
    x.when (decide (per.toNat ≤ (x.e.w 7 0xB4).toNat)) (Fix.clamp c rAbove 7 (per - 30))
  | 14 =>
    let tr := max 1 (x.e.w 1 1).toNat
    let ar := (x.e.w 2 0x3C).toNat
    x.when (decide (ar % tr ≠ 0)) (Fix.clamp c rBelow 2 (w32 (max tr (ar - ar % tr))))
  | 15 =>
    let d := (x.e.w 1 0x3C).toNat
    x.when (decide (0 < d ∧ d < 10)) (Fix.clamp c rBelow 1 10)
  | _ => x

/-- The rules at the end of an entity (R121). -/
def ruleEnt (c : Ctx) (k : Nat) (x : Fix) : Fix := match c.sec with
  | 2 => ruleHost c x
  | 5 => if k < 16 then ruleUai c x else if k < 20 then ruleAo c x else x
  | 6 => ruleTab c x
  | 7 => x.when (decide (x.e.w 3 0 ≠ 0 ∧ x.e.w 4 wNone ≠ wNone)) (Fix.dflt c rEnum 4)
  | 8 => ruleLim c x
  | 9 =>
    if k = 0 then
      [3, 4, 5, 6, 7].foldl (fun x fld =>
        let failed := x.reps.any fun e => decide (e.key = 0 ∧ e.fld = BitVec.ofNat 16 fld ∧ e.reason = rPair)
        x.when ((x.e.read? fld).isSome && !failed) (Fix.dflt c rEnum fld)) x
    else x
  | 10 => ruleCalc c x
  | 12 => if k % 65536 = 0 then x else ruleMap c x
  | 13 => x.when (decide (x.e.w 1 0 ≠ 2 ∧ x.e.w 3 0xFF ≠ 0xFF)) (Fix.dflt c rEnum 3)
  | 15 => x.when (decide (k % 2 = 1) && decide (x.e.w 0x12 0 = 1)) (Fix.clamp c rEnum 0x12 0)
  | 17 =>
    if k % 65536 = 0 then
      let len := x.e.w 7 0x19000
      x.when (decide (len.toNat ≤ (x.e.w 6 0x6400).toNat)) (Fix.clamp c rAbove 6 (len - 1))
    else ruleFeat c x
  | _ => x

/-! The whole of a section. -/

/-- The reader with an entity passed through its rules. -/
def Rd.fix (t : Tab Sect) (sec : Nat) (b : Bool) (key : Option Nat) (f : Ctx → Fix → Fix) (r : Rd) : Rd :=
  let x := f { t := tset t sec r.sect, sec := sec, key := key, b := b } { e := r.ent key, reps := r.reps }
  let r := { r with reps := x.reps }
  if x.drop then r.fail key else r.modEnt key fun _ => x.e

/-- The end of the section fields or of an entity: its absent fields, then the rules between its fields (R120, R121). -/
def Rd.close (t : Tab Sect) (sec : Nat) (b : Bool) (r : Rd) : Rd := match r.cur with
  | none => r
  | some key =>
    let r := absentFields t sec key r
    if !r.holds key then r
    else r.fix t sec b key fun c x => match key with
      | none => ruleTop c x
      | some k => ruleEnt c k x

/-- An ENTITY record (R110, R111, R120). -/
def Rd.entity (t : Tab Sect) (sec : Nat) (slot b : Bool) (h : Word) (vs : List Word) (r : Rd) : Rd :=
  let found := vs.headD wNone
  let key := found.toNat
  let odd := decide (bits h 12 8 ≠ 0) || (slot && bit h 14)
  let top := decide (vs.length = 1 ∧ found = wNone) && !r.opened
  if top && !odd then
    { r.modEnt none (fun e => { e with suspect := e.suspect || bit h 13 }) with cur := some none, opened := true }
  else
    let r := { r.close t sec b with opened := true, seen := [] }
    let bad (reason : BitVec 8) (k : Option Nat) : Rd :=
      { r.rep (repEntry sec k reason 0 found wNone) with cur := none }
    if top then bad rEnum none
    else if odd then bad rEnum (some key)
    else if vs.length ≠ 1 then bad rMissing (some key)
    else if !keyOk t sec key || r.keys.contains key || decide (maxEnts sec ≤ r.sect.ents.length) then bad rEnum (some key)
    else { r.modEnt (some key) (fun e => { e with suspect := bit h 13 }) with cur := some (some key), keys := key :: r.keys }

/-- The records of a section in order (R110). -/
def readRecs (t : Tab Sect) (sec : Nat) (slot b : Bool) : Nat → List Word → Rd → Rd
  | 0, _, r => r
  | _ + 1, [], r => r
  | n + 1, h :: rest, r =>
    let len := bits h 7 0
    if rest.length < len then
      r.rep (repEntry sec (r.cur.getD none) rEnum 0xFFFF (rest.headD wNone) wNone)
    else
      let vs := rest.take len
      let r1 := if bits h 31 16 = 0 then r.entity t sec slot b h vs
        else match r.cur with
          | none => r
          | some key => r.field t sec slot h vs key
      readRecs t sec slot b n (rest.drop len) r1

/-- CJC_CHANNEL names an RTD channel, and a trim button's digital input has its entity, or they take their defaults
(R120, R198). -/
def endUai (c : Ctx) (x : Fix) : Fix :=
  let ch := (x.e.w 0x31 wNone).toNat
  let rtd := decide (ch < 16) && decide (tabMode c.t ch = 4)
  let x := x.when (decide (x.e.w 0x31 wNone ≠ wNone) && !rtd) (Fix.dflt c rEnum 0x31)
  let x := x.when (decide (x.e.w 0x30 2 = 1) && !rtd) (Fix.clamp c rBelow 0x30 2)
  [0x34, 0x35].foldl (fun x fld =>
    let d := (x.e.w fld 255).toNat
    x.when (decide (d ≠ 255) && !tabHas c.t 5 (20 + d)) (Fix.dflt c rEnum fld)) x

/-- SPEED_CHANNEL names a FREQUENCY channel or takes its default (R226). -/
def endCapture (c : Ctx) (x : Fix) : Fix :=
  let ch := (x.e.w 4 wNone).toNat
  x.when (decide (x.e.w 4 wNone ≠ wNone) && !(decide (ch < 16) && decide (tabMode c.t ch = 8))) (Fix.dflt c rEnum 4)

/-- The critical fields of a new entity at their defaults. -/
def freshEnt (t : Tab Sect) (sec k : Nat) : Ent :=
  (specsOf t sec (some k)).foldl (fun e f => match f.dflt with
    | some d => if f.crit then e.put f d else e
    | none => e) {}

/-- Port 1 runs the mode of port 0 (R427). -/
def endPorts (t : Tab Sect) (a : Sect × List RepEntry) : Sect × List RepEntry :=
  let t1 := tset t 3 a.1
  let mode (k : Nat) : Word := tabW t1 3 (some k) 0x10 3
  if mode 0 = mode 1 then a
  else
    let e := (tget a.1.ents 1).getD (freshEnt t1 3 1)
    let x := Fix.clamp { t := t1, sec := 3, key := some 1, b := false } rEnum 0x10 (mode 0) { e := e, reps := a.2 }
    ({ a.1 with ents := tset a.1.ents 1 x.e }, x.reps)

/-- What the end of a section checks, entity by entity in ascending key order (R120, R148, R198, R226, R427, R458). -/
def endSection (t : Tab Sect) (sec : Nat) (b : Bool) (a : Sect × List RepEntry) : Sect × List RepEntry :=
  if sec = 3 then endPorts t a
  else (a.1.ents.map Prod.fst).foldl (fun a k =>
    match tget a.1.ents k with
    | none => a
    | some e =>
      let c : Ctx := { t := tset t sec a.1, sec := sec, key := some k, b := b }
      let x : Fix := { e := e, reps := a.2 }
      let y := if sec = 2 then endHost c x else if sec = 5 ∧ k < 20 then endEnergy c (if k < 16 then endUai c x else x)
        else if sec = 17 ∧ k % 65536 = 0 then endCapture c x else x
      ({ a.1 with ents := if y.drop then terase a.1.ents k else tset a.1.ents k y.e }, y.reps)) a

/-- The clamps of each entity and of the section fields of section sec, those of a report counted in (R84). -/
def countClamps (reps : List RepEntry) (sec : Nat) (c : Sect) : Sect :=
  let n (key : Option Nat) : Nat :=
    (reps.filter fun r => decide (r.sec = BitVec.ofNat 8 sec) && decide (r.key = keyWord key)).length
  { c with top := { c.top with clamps := c.top.clamps + n none }
           ents := tmap c.ents fun k e => { e with clamps := e.clamps + n (some k) } }

/-- A section read from its words: the section with its report, none where a required section field fails (R118). -/
def readSection (t : Tab Sect) (b : Bool) (sec : Nat) (ws : List Word) : Option (Sect × List RepEntry) :=
  let r := (readRecs t sec true b ws.length ws {}).close t sec b
  if r.topFail then none
  else
    let z := endSection t sec b (r.sect, r.reps)
    let reps := z.2.reverse
    some (countClamps reps sec z.1, reps)

/-! Slots (R107 to R109, R116, R118, R588). -/

/-- Word i of the slot at byte base. -/
def slotWord (s : State) (base i : Nat) : Word := memWord norByte s.nor.bytes (base + 4 * i)

/-- Words of the slot. -/
def slotWords (s : State) (base i n : Nat) : List Word := memWords norByte s.nor.bytes (base + 4 * i) n

/-- The first words of COMMIT and ~COMMIT when committed (R107). -/
def commitOkAt (s : State) (base : Nat) : Bool :=
  decide (slotWord s base 60 = 0x4B44434D) && decide (slotWord s base 61 = 0xB4BBBCB2)

/-- SECTION_COUNT of the slot. -/
def sectionCount (s : State) (base : Nat) : Nat := bits (slotWord s base 1) 15 0

/-- The header conditions of R109 but for the COMMIT pair; Q in bytes. -/
def headerBody (s : State) (base q : Nat) : Bool :=
  let n := sectionCount s base
  decide (slotWord s base 0 = 0x4B444349) && decide (bits (slotWord s base 1) 31 16 = 1) && decide (1 ≤ n ∧ n ≤ 18) &&
  decide (slotWord s base 3 = ~~~(slotWord s base 2)) && decide ((slotWord s base 4).toNat ≤ q) &&
  decide (slotWord s base 62 = crc32 (memBytes norByte s.nor.bytes base 240 ++ memBytes norByte s.nor.bytes (base + 256) (16 * n)))

/-- The slot header is valid (R109). -/
def headerOk (s : State) (base q : Nat) : Bool := headerBody s base q && commitOkAt s base

/-- SLOT_SEQ of the slot. -/
def slotSeq (s : State) (base : Nat) : Word := slotWord s base 2

/-- Entry i of the section table: TYPE, VERSION, OFFSET, LENGTH, CRC. -/
structure SecEntry where
  /-- Index. -/
  i : Nat
  /-- Bytes 0 to 3. -/
  w0 : Word
  /-- OFFSET. -/
  off : Nat
  /-- LENGTH. -/
  len : Nat
  /-- CRC. -/
  crc : Word
  deriving DecidableEq, Repr

/-- TYPE of an entry. -/
def SecEntry.ty (e : SecEntry) : Nat := bits e.w0 31 24

/-- The section table. -/
def secTable (s : State) (base : Nat) : List SecEntry := (List.range (sectionCount s base)).map fun i =>
  let w (k : Nat) : Word := slotWord s base (64 + 4 * i + k)
  { i := i, w0 := w 0, off := (w 1).toNat, len := (w 2).toNat, crc := w 3 }

/-- An entry of the table is ignored: its TYPE is unknown or repeats an earlier one (R588). -/
def ignored (tab : List SecEntry) (e : SecEntry) : Bool :=
  decide (e.ty < 1 ∨ 18 < e.ty) || tab.any fun x => decide (x.i < e.i) && decide (x.ty = e.ty)

/-- The entry of a TYPE (R588). -/
def entryOf (tab : List SecEntry) (ty : Nat) : Option SecEntry := tab.find? fun e => decide (e.ty = ty)

/-- The report entries of the ignored table entries (R588). -/
def ignoredReps (tab : List SecEntry) : List RepEntry :=
  (tab.filter (ignored tab)).map fun e => repEntry 0 (some e.i) rEnum 0xFFFF e.w0 wNone

/-- Bounds of a section (R108, R118). -/
def boundsOk (s : State) (base : Nat) (e : SecEntry) : Bool :=
  decide (0x10000 ≤ e.off ∧ e.off % 4 = 0 ∧ 4 ≤ e.len ∧ e.len % 4 = 0) && decide (e.off + e.len ≤ (slotWord s base 4).toNat)

/-- A section of a slot: what it reads as, or the cause why it is unusable (R118, R126). -/
def sectionAt (s : State) (t : Tab Sect) (base : Nat) (e : SecEntry) : Nat ⊕ (Sect × List RepEntry) :=
  if !boundsOk s base e then .inl 3
  else if e.crc ≠ crc32 (memBytes norByte s.nor.bytes (base + e.off) e.len) then .inl 1
  else if bits e.w0 23 16 ≠ 1 then .inl 2
  else match readSection t s.sys.variantB e.ty (memWords norByte s.nor.bytes (base + e.off) (e.len / 4)) with
    | some r => .inr r
    | none => .inl 4

/-- Section fields at their defaults and no entities, suspect: a section with no usable copy (R118, R122). -/
def lostSection : Sect := { top := { suspect := true }, noCopy := true }

/-- A whole-section report entry (R126). -/
def sectionRep (sec cause outcome : Nat) : RepEntry := repEntry sec none rSection 0xFFFF (hiLo cause outcome) wNone

/-- One section type of the chosen slot, from the other slot where it is unusable: the table and the report so far, and the
section taken from the other slot (R118, R119). -/
def readType (s : State) (base : Nat) (other : Option Nat) (a : Tab Sect × List RepEntry × Bool) (ty : Nat) :
    Tab Sect × List RepEntry × Bool :=
  match entryOf (secTable s base) ty with
  | none => a
  | some e => match sectionAt s a.1 base e with
    | .inr r => (tset a.1 ty r.1, a.2.1 ++ r.2, a.2.2)
    | .inl cause =>
      let back := other.bind fun o => (entryOf (secTable s o) ty).bind fun e => match sectionAt s a.1 o e with
        | .inr r => some r
        | .inl _ => none
      match back with
      | some r =>
        let c := { r.1 with fellBack := true, top := { r.1.top with suspect := true }
                            ents := tmap r.1.ents fun _ e => { e with suspect := true } }
        (tset a.1 ty c, a.2.1 ++ sectionRep ty cause 1 :: r.2, true)
      | none => (tset a.1 ty lostSection, a.2.1 ++ [sectionRep ty cause 2], a.2.2)

/-- The section types lo to hi of the chosen slot in type order (R82). -/
def readTypes (s : State) (base : Nat) (other : Option Nat) (lo hi : Nat) (a : Tab Sect × List RepEntry × Bool) :
    Tab Sect × List RepEntry × Bool :=
  ((List.range (hi + 1)).filter fun ty => decide (lo ≤ ty)).foldl (readType s base other) a

/-! Rules checked at T_C (R121). -/

/-- The table and the report entries, newest first. -/
abbrev TcAcc := Tab Sect × List RepEntry

/-- Entity k of a section dropped. -/
def tcDrop (sec k : Nat) (reason : BitVec 8) (fld : Nat) (found : Word) (a : TcAcc) : TcAcc :=
  match tget a.1 sec with
  | none => a
  | some c => (tset a.1 sec { c with ents := terase c.ents k }, repEntry sec (some k) reason fld found wNone :: a.2)

/-- A rule applied to entity k of a section. -/
def tcFix (sec k : Nat) (f : Ctx → Fix → Fix) (a : TcAcc) : TcAcc :=
  match tget a.1 sec with
  | none => a
  | some c => match tget c.ents k with
    | none => a
    | some e =>
      let x := f { t := a.1, sec := sec, key := some k, b := false } { e := e, reps := a.2 }
      (tset a.1 sec { c with ents := tset c.ents k x.e }, x.reps)

/-- Every entity of a section that p holds for is dropped with BAD_ENUM, p judging the table as it then stands. -/
def tcDropAll (sec fld : Nat) (p : Tab Sect → Nat → Ent → Bool) (a : TcAcc) : TcAcc :=
  (tabEnts a.1 sec).foldl (fun a e => if p a.1 e.1 e.2 then tcDrop sec e.1 rEnum fld (if fld = 0 then w32 e.1 else e.2.foundW fld) a else a) a

/-- Step 1: HART devices and variables (R203, R247). -/
def tcHart (a : TcAcc) : TcAcc :=
  let dev (t : Tab Sect) (k : Nat) (_ : Ent) : Bool :=
    let c := k / 65536
    decide (k % 65536 = 0) && (if c < 16 then decide (tabMode t c ≠ 1 ∧ tabMode t c ≠ 2) else decide (tabW t 5 (some c) 0x40 0 = 0))
  let orphan (t : Tab Sect) (k : Nat) (_ : Ent) : Bool := decide (k % 65536 ≠ 0) && !tabHas t 18 (k / 65536 * 65536)
  let twin (t : Tab Sect) (k : Nat) (e : Ent) : Bool :=
    decide (k % 65536 ≠ 0) && (tabEnts t 18).any fun x => decide (x.1 < k ∧ x.1 % 65536 ≠ 0) && decide (x.2.w 0x11 wNone = e.w 0x11 wNone)
  tcDropAll 18 0 twin (tcDropAll 18 0 orphan (tcDropAll 18 0 dev a))

/-- A panel frame's identifier (R370, R475). -/
def panelIdent (id : Nat) : Bool :=
  let prio := id / 2 ^ 26 % 8
  let node := id / 2 ^ 20 % 64
  let fn := id / 2 ^ 8 % 64
  decide (prio = 1 ∧ node = 0 ∧ 0x10 ≤ fn ∧ fn ≤ 0x12) || decide (fn = 0x1F ∧ node = 0) || decide (1 ≤ fn ∧ fn ≤ 3)

/-- The controller has PANELS entities (R475). -/
def tabPanels (t : Tab Sect) (c : Nat) : Bool := (tabEnts t 13).any fun e => decide (e.1 / 65536 = c)

/-- Identifier and IDE of a mapped entry. -/
def mapIdent (e : Ent) : Word × Word := (e.w 0x10 0, e.w 0x11 1)

/-- The mapped entries of controller c, rising. -/
def mapsOf (t : Tab Sect) (c : Nat) : Tab Ent := (tabEnts t 12).filter fun e => decide (e.1 / 65536 = c ∧ e.1 % 65536 ≠ 0)

/-- The distinct identifiers of the entries of controller c with HIGH_PRIORITY as given, of keys below k. -/
def identsBelow (t : Tab Sect) (c k : Nat) (high : Bool) : List (Word × Word) :=
  (((mapsOf t c).filter fun e => decide (e.1 < k) && (decide (e.2.w 0x1A 0 = 1) == high)).map fun e => mapIdent e.2).eraseDups

/-- Step 2: mapped entries and panels (R368, R482). -/
def tcCan (a : TcAcc) : TcAcc :=
  let isMap (k : Nat) : Bool := decide (k % 65536 ≠ 0)
  let clash (t : Tab Sect) (k : Nat) (e : Ent) : Bool :=
    isMap k && tabPanels t (k / 65536) && decide (e.w 0x11 1 = 1) && panelIdent (e.w 0x10 0).toNat
  let a := tcDropAll 12 0 clash a
  let a := (tabEnts a.1 12).foldl (fun a e =>
    let c := e.1 / 65536
    let used := identsBelow a.1 c e.1 true
    let room := if tabPanels a.1 c then 5 else 8
    if isMap e.1 && decide (e.2.w 0x1A 0 = 1) && !used.contains (mapIdent e.2) && decide (room ≤ used.length) then
      tcFix 12 e.1 (fun c x => x.clamp c rAbove 0x1A 0) a else a) a
  let a := (tabEnts a.1 12).foldl (fun a e =>
    let c := e.1 / 65536
    let used := identsBelow a.1 c e.1 false
    let room := if tabPanels a.1 c then 126 else 128
    if isMap e.1 && decide (tabW a.1 12 (some e.1) 0x1A 0 ≠ 1) && !used.contains (mapIdent e.2) && decide (room ≤ used.length) then
      tcDrop 12 e.1 rAbove 0x10 (e.2.foundW 0x10) a else a) a
  let odd (t : Tab Sect) (k : Nat) (e : Ent) : Bool :=
    decide (k / 65536 = 1) && decide (tabW t 12 (some 0) 1 0 = tabW t 12 (some 65536) 1 1) &&
      (match tabEnt t 13 (some (k % 65536)) with
       | some x => decide (x.w 1 0 ≠ e.w 1 0)
       | none => false)
  tcDropAll 13 0 odd a

/-- A point is conditioned from a channel, or mapped from HART (R227, R249, R279). -/
def tcTaken (t : Tab Sect) (p : Word) : Bool :=
  decide (tabW t 7 (some p.toNat) 3 wNone = 0) ||
    (tabEnts t 18).any fun e => decide (e.1 % 65536 ≠ 0) && decide (e.2.w 0x11 wNone = p)

/-- A point is the target of a feature. -/
def tcFeatured (t : Tab Sect) (p : Word) : Bool :=
  (tabEnts t 17).any fun e => decide (e.1 % 65536 ≠ 0) && decide (e.2.w 0x21 wNone = p)

/-- Step 3: features (R227). -/
def tcFeat (a : TcAcc) : TcAcc :=
  tcDropAll 17 0 (fun t k e =>
    let n := k / 65536
    let cap := n * 65536
    decide (k % 65536 ≠ 0) &&
      (!(tabHas t 17 cap && decide (tabMode t n = 7)) || (decide (e.w 0x20 0 = 5) && decide (tabW t 17 (some cap) 4 wNone = wNone)) ||
       ((tabEnts t 17).any fun x => decide (x.1 < k ∧ x.1 % 65536 ≠ 0) && decide (x.2.w 0x21 wNone = e.w 0x21 wNone)) ||
       tcTaken t (e.w 0x21 wNone))) a

/-- The lists of the same class that list l depends on directly (R293). -/
def calcDeps (t : Tab Sect) (l : Nat) : List Nat :=
  let cls (p : Word) : Word := tabW t 7 (some p.toNat) 2 1
  let tp := tabW t 10 (some l) 1 wNone
  let ops := (((tabEnt t 10 (some l)).bind fun e => e.ws? 2).getD []).map fun w => w32 (bits w 15 0)
  ((tabEnts t 10).filter fun e => ops.contains (e.2.w 1 wNone) && decide (cls (e.2.w 1 wNone) = cls tp)).map Prod.fst

/-- The lists reached from a set within n steps. -/
def calcReach (t : Tab Sect) : Nat → List Nat → List Nat
  | 0, ls => ls
  | n + 1, ls =>
    let more := (ls ++ ls.flatMap (calcDeps t)).eraseDups
    if more.length = ls.length then ls else calcReach t n more

/-- Step 4: lists for a repeated target, then for depending on themselves (R287, R293). -/
def tcCalc (a : TcAcc) : TcAcc :=
  let twin (t : Tab Sect) (k : Nat) (e : Ent) : Bool :=
    (tabEnts t 10).any fun x => decide (x.1 < k) && decide (x.2.w 1 wNone = e.w 1 wNone)
  let a := tcDropAll 10 1 twin a
  let t := a.1
  tcDropAll 10 0 (fun _ k _ => (calcReach t 1024 (calcDeps t k).eraseDups).contains k) a

/-- The fields that name a point as a LINKED target: section, key, field, in the order of R287. -/
def namers (t : Tab Sect) : List (Nat × Nat × Nat) :=
  let of (sec : Nat) (flds : Nat → List Nat) : List (Nat × Nat × Nat) :=
    (tabEnts t sec).flatMap fun e => (flds e.1).map fun f => (sec, e.1, f)
  of 5 (fun k => if k < 16 then [] else if k < 20 then [0x4E] else if k < 36 then [0x65, 0x68, 0x69] else [0x86]) ++
  of 12 (fun k => if k % 65536 = 0 then [] else [0x18]) ++
  of 17 (fun k => if k % 65536 = 0 then [] else [0x21]) ++
  of 18 (fun k => if k % 65536 = 0 then [] else [0x11])

/-- The point a naming field names. -/
def namedBy (t : Tab Sect) (n : Nat × Nat × Nat) : Word := tabW t n.1 (some n.2.1) n.2.2 wNone

/-- A naming field takes its default; an entity without one is dropped (R120, R287). -/
def unname (n : Nat × Nat × Nat) (a : TcAcc) : TcAcc :=
  if n.1 = 5 then tcFix 5 n.2.1 (fun c x => x.dflt c rEnum n.2.2) a
  else tcDrop n.1 n.2.1 rEnum n.2.2 (namedBy a.1 n) a

/-- Step 5: the naming rules (R287). -/
def tcNames (a : TcAcc) : TcAcc :=
  let a := (namers a.1).foldl (fun a n =>
    let p := namedBy a.1 n
    let before := ((namers a.1).takeWhile fun m => decide (m ≠ n)).any fun m => decide (namedBy a.1 m = p)
    if p ≠ wNone ∧ before = true then unname n a else a) a
  let a := (namers a.1).foldl (fun a n =>
    let p := namedBy a.1 n
    if p ≠ wNone ∧ tabHas a.1 7 p.toNat = true ∧ tabW a.1 7 (some p.toNat) 3 wNone ≠ 1 then unname n a else a) a
  (tabEnts a.1 7).foldl (fun a e =>
    let src := e.2.w 3 0
    let named := if src = 1 then (namers a.1).any fun n => decide ((namedBy a.1 n).toNat = e.1)
      else if src = 2 then (tabEnts a.1 10).any fun l => decide ((l.2.w 1 wNone).toNat = e.1)
      else if src = 0 then decide ((e.2.w 4 wNone).toNat < 16) && decide (tabMode a.1 (e.2.w 4 wNone).toNat ≠ 0)
      else true
    if named then a else (a.1, repEntry 7 (some e.1) rEnum 3 (e.2.foundW 3) src :: a.2)) a

/-- A point field that names no POINTS entity of this node takes its default (R249, R278, R279). -/
def ownOnly (c : Ctx) (fld : Nat) (x : Fix) : Fix :=
  let p := x.e.w fld wNone
  x.when (decide (p ≠ wNone) && !tabHas c.t 7 p.toNat) (Fix.dflt c rEnum fld)

/-- A published point that is conditioned, mapped from HART or a feature's target takes its default (R249, R279). -/
def notTaken (c : Ctx) (fld : Nat) (x : Fix) : Fix :=
  let p := x.e.w fld wNone
  x.when (decide (p ≠ wNone) && (tcTaken c.t p || tcFeatured c.t p)) (Fix.dflt c rEnum fld)

/-- The FIELD rules of T_C (R120, R249, R278, R279). -/
def tcField (c : Ctx) (x : Fix) : Fix :=
  let k := c.key.getD 0
  if k < 16 then
    let tb := x.e.w 0x28 wNone
    x.when (decide (tb ≠ wNone) && !tabHas c.t 6 tb.toNat) (Fix.dflt c rEnum 0x28)
  else if k < 20 then
    let x := notTaken c 0x4E (ownOnly c 0x4E (ownOnly c 0x41 x))
    x.when (decide (x.e.w 0x40 0 ≠ 0 ∧ x.e.w 0x41 wNone = wNone)) (Fix.clamp c rEnum 0x40 0)
  else if k < 36 then
    let x := ownOnly c 0x69 (ownOnly c 0x68 (ownOnly c 0x65 x))
    x.when (decide (x.e.w 0x60 0 ≠ 0 ∧ x.e.w 0x65 wNone = wNone ∧ x.e.w 0x68 wNone = wNone ∧ x.e.w 0x69 wNone = wNone))
      (Fix.clamp c rEnum 0x60 0)
  else
    let x := notTaken c 0x86 (ownOnly c 0x86 (ownOnly c 0x81 x))
    x.when (decide (x.e.w 0x80 0 ≠ 0 ∧ x.e.w 0x81 wNone = wNone)) (Fix.clamp c rEnum 0x80 0)

/-- The entries of a list field that p holds for are dropped, each with BAD_ENUM (R344, R345). -/
def dropWords (c : Ctx) (fld : Nat) (p : Word → Bool) (x : Fix) : Fix :=
  match specOf c.t c.sec c.key fld, x.e.ws? fld with
  | some f, some ws =>
    let keep := ws.filter fun w => !p w
    if ws.any p then
      { x with e := x.e.put f keep
               reps := ((ws.filter p).map fun w => repEntry c.sec c.key rEnum fld w (keep.headD wNone)).reverse ++ x.reps }
    else x
  | _, _ => x

/-- The LIMITS rules of T_C (R344). -/
def tcLim (c : Ctx) (x : Fix) : Fix :=
  let self (w : Word) : Bool := decide (bits w 15 0 = c.key.getD 0)
  let x := dropWords c 0x1C self (dropWords c 0xF self x)
  let sp := x.e.w 0x17 wNone
  x.when (decide (sp ≠ wNone) && self sp) (Fix.dflt c rEnum 0x17)

/-- The rules of one section at T_C. -/
def tcSection (sec : Nat) (f : Ctx → Fix → Fix) (a : TcAcc) : TcAcc :=
  ((tabEnts a.1 sec).map Prod.fst).foldl (fun a k => tcFix sec k f a) a

/-- Step 6: every other rule checked at T_C (R121). -/
def tcOthers (a : TcAcc) : TcAcc :=
  let a := tcSection 5 tcField a
  let a := tcSection 7 (fun c x =>
    let g := (x.e.w 5 0).toNat
    x.when (decide (g ≠ 0) && !tabHas c.t 9 g) (Fix.clamp c rEnum 5 0)) a
  let a := tcSection 8 tcLim a
  tcSection 9 (fun c x => dropWords c 4 (fun w => decide (bits w 7 0 = 0 ∨ bits w 7 0 = c.key.getD 0)) x) a

/-- Everything checked when the read ends at T_C: the table and its report entries in order (R121). -/
def tcRules (t : Tab Sect) : Tab Sect × List RepEntry :=
  let a := tcOthers (tcNames (tcCalc (tcFeat (tcCan (tcHart (t, []))))))
  (tmap a.1 (countClamps a.2), a.2.reverse)

/-! Records of an entity (R110, R111, R129, R132). -/

/-- The words of a field record (R110, R111). -/
def fieldWords (f : FieldSpec) (v : FieldVal) : List Word :=
  let n := v.ws.length
  (at' 16 f.fld ||| flag 15 f.crit ||| w32 (if f.crit then 2 * n else n)) ::
    (if f.crit then v.ws.zipIdx.flatMap fun e => [e.1, v.cs.getD e.2 (~~~e.1)] else v.ws)

/-- An ENTITY record (R110). -/
def entityWords (key : Word) (suspect : Bool) : List Word := [flag 13 suspect ||| 1, key]

/-- The field records of an entity, in ascending FIELD_ID, fields without a value word left out (R139). -/
def entFields (t : Tab Sect) (sec : Nat) (key : Option Nat) (e : Ent) : List (List Word) :=
  e.fields.filterMap fun v => match specOf t sec key v.1 with
    | some f => if v.2.ws.isEmpty then none else some (fieldWords f v.2)
    | none => none

/-- The words of a whole section as a slot holds it (R111, R132, R139). -/
def sectionWords (t : Tab Sect) (sec : Nat) (c : Sect) : List Word :=
  (if c.top.suspect then entityWords wNone true else []) ++ (entFields t sec none c.top).flatten ++
    c.ents.flatMap fun e => entityWords (w32 e.1) e.2.suspect ++ (entFields t sec (some e.1) e.2).flatten

/-- The records of one entity in the form of R129. -/
def entRecords (t : Tab Sect) (sec : Nat) (key : Nat) (e : Ent) : List Word :=
  ([at' 24 sec, w32 key] ++ entityWords (w32 key) false) ++
    (entFields t sec (some key) e).flatMap fun f => [at' 24 sec, w32 key] ++ f

end Sys2Proof.Machine
end

