-- ==== Sys2Proof/Machine/Complete.lean ====
section
/-! DEFINITION. The configured functions, the completion of the start, and this node's duty image, which leaves then
(R81, R83, R89, R136, R403). -/

namespace Sys2Proof.Machine
open Sys2Proof

/-! Duty images (R402, R403). -/

/-- The four prefix words (R402). -/
def repPrefix (kind records part parts : Nat) (base : Word) : List Word :=
  let w0 := at' 24 kind ||| at' 16 records ||| w32 (part % 65536)
  [w0, at' 16 parts, base, ~~~w0]

/-- The largest duty image, in words: 1 MiB (R403). -/
def imageCap : Nat := 262144

/-- The entities of POINTS, LIMITS, CALC and TABLES that this node's CALC and STATION points use, as records (R403). -/
def ownImage (s : State) : List Word :=
  let t := s.cfg.run
  let ps := ((tabEnts t 7).filter fun e => decide (e.2.w 3 0 = 2 ∨ e.2.w 3 0 = 3)).map Prod.fst
  let cs := (tabEnts t 10).filter fun e => ps.contains (e.2.w 1 wNone).toNat
  let tabs := cs.flatMap fun e =>
    (((e.2.ws? 4).getD []).map cstep |>.filter fun c => decide (c.op = 0x12)).map CStep.k
  let sec (n : Nat) (keep : Nat → Bool) : List Word :=
    ((tabEnts t n).filter fun e => keep e.1).flatMap fun e => entRecords t n e.1 e.2
  sec 6 tabs.contains ++ sec 7 ps.contains ++ sec 8 ps.contains ++ cs.flatMap fun e => entRecords t 10 e.1 e.2

/-- Words cut into parts of n. -/
def cutWords (n : Nat) : Nat → List Word → List (List Word)
  | 0, _ => []
  | _ + 1, [] => []
  | k + 1, ws => ws.take n :: cutWords n k (ws.drop n)

/-- The SEQUENCE of this node's last REPLICA_DELTA (R402). -/
def lastDelta (s : State) : Word := (classAt s 2).seq

/-- This node's duty image broadcast in parts of 356 words; one above 1 MiB is not sent (R403). -/
def sendImage (s : State) : State :=
  let ws := ownImage s
  if ws.isEmpty || decide (imageCap < ws.length) then s
  else
    let parts := cutWords 356 ws.length ws
    let base := lastDelta s
    parts.zipIdx.foldl (fun s e => bcast s 2 0x2A (repPrefix 2 0 e.2 parts.length base ++ e.1)) s

/-! Configured functions (R83). -/

/-- The points of this node's own that it evaluates. -/
def ownLocal (s : State) : List Nat := (s.points.filter fun e => !e.2.byDuty).map Prod.fst

/-- The groups of the points this node evaluates as owner, and group 0, rising (R83). -/
def ownGroups (s : State) : List Nat :=
  let gs := (ownLocal s).map (groupOf s)
  (List.range 256).filter fun g => decide (g = 0) || gs.contains g

/-- CHANNEL i is configured: its mode or role is not OFF (R83, R174). -/
def chanConfigured (s : State) (i : Nat) : Bool :=
  if i < 16 then decide (cfgUaiMode s i ≠ 0)
  else if i < 20 then decide (cfgAoRole s (i - 16) ≠ 0)
  else if i < 36 then decide (cfgDiDiMode s (i - 20) ≠ 0)
  else decide (cfgDoRole s (i - 36) ≠ 0)

/-- The configured functions by number (R83, R125, R509). -/
def fnConfigured (s : State) : List Nat :=
  if s.cfg.absent then [fnKey 1 0, fnKey 2 0, fnKey 3 0, fnKey 8 0]
  else
    [fnKey 1 0, fnKey 2 0, fnKey 3 0] ++ (((List.range 44).filter (chanConfigured s)).map (fnKey 4)) ++
      ((ownGroups s).map (fnKey 5)) ++ (((List.range 2).filter fun c => cfgHas s 12 (c * 65536)).map (fnKey 6)) ++
      (if (tget s.cfg.run 11).isSome || (tget s.cfg.run 13).isSome then [fnKey 7 0] else []) ++
      [fnKey 8 0, fnKey 9 0, fnKey 10 0] ++ (if (tget s.cfg.run 17).isSome then [fnKey 11 0] else [])

/-- Every configured function is READY. -/
def allReady (s : State) : Bool := (fnConfigured s).all fun k => (fnAt s k).ready

/-- CALLING is configured and not READY: its objects read their reset values, and no call duty comes here (R86). -/
def callShut (s : State) : Bool := (fnConfigured s).contains (fnKey 7 0) && !fnReady s 7 0

/-! Completion (R81, R136, R403). -/

/-- The repair commit that the end of a start asks for (R136; log entry 99). -/
def queueRepair (s : State) : State :=
  if decide (0 < s.nor.mib) && (s.cfg.fallback || !s.cfg.otherValid) then
    { s with nor := { s.nor with waiting := s.nor.waiting ++ [.repair] } }
  else s

/-- The start is complete in phase ph: FLTn follows the SYSTEM group, the repair commit falls due, the duty image leaves. -/
def startDone (s : State) (ph : Phase) : State :=
  sendImage (queueRepair (fltUpdate { s with sys := { s.sys with phase := ph } }))

/-- What every function being READY ends: the start, or START_INCOMPLETE (R81, R332). -/
def checkComplete (s : State) : State :=
  if allReady s then match s.sys.phase with
    | .part => startDone s .complete
    | _ => if startComplete s then sysClear s 0x01 else s
  else s

/-- The ALARMs kept for group g leave, oldest first (R86). -/
def flushAlarms (s : State) (g : Nat) : State :=
  let mine (e : BitVec 8 × List Word) : Bool := decide (e.1.toNat = g)
  (s.alarms.waiting.filter mine).foldl (fun s e => sendAlarm s e.2)
    { s with alarms := { s.alarms with waiting := s.alarms.waiting.filter fun e => !mine e } }

/-- A function becomes READY, with what that completes (R81, R83, R85, R86, R101). -/
def becomeReady (s : State) (fn idx : Nat) : State :=
  let s0 := setReady s fn idx
  let s1 := if fn = 5 then flushAlarms s0 idx else s0
  checkComplete { s1 with sys := { s1.sys with suspectAny := s1.sys.suspectAny || (fnAt s1 (fnKey fn idx)).suspect } }

end Sys2Proof.Machine
end

