-- ==== Sys2Proof/Machine/Replica.lean ====
section
/-! DEFINITION. The point replica: records sent and taken, the entitled holder, staleness, snapshots and duty images
(R91 to R93, R294, R401 to R407). -/

namespace Sys2Proof.Machine
open Sys2Proof

/-! Other nodes (R409). -/

/-- What this node holds of node n. -/
def peerAt (s : State) (n : Nat) : Peer := tgetD s.canvas.peers n {}

/-- The state with node n's record passed through f. -/
def State.modPeer (s : State) (n : Nat) (f : Peer → Peer) : State :=
  { s with canvas := { s.canvas with peers := tset s.canvas.peers n (f (peerAt s n)) } }

/-- Node n is this node, or counted (R409). -/
def countedNode (s : State) (n : Nat) : Bool := decide (n = nodeNum s) || (peerAt s n).st == .counted

/-- The numbers of the nodes this node has heard of, with its own, rising. -/
def knownNodes (s : State) : List Nat :=
  (List.range 64).filter fun n => (decide (n = nodeNum s) && !s.cfg.absent) ||
    (decide (n ≠ nodeNum s) && (peerAt s n).heardAt.isSome)

/-- Node n's range holds point p (R283). -/
def ownsPoint (s : State) (n p : Nat) : Bool :=
  if n = nodeNum s then !s.cfg.absent && decide ((cfgIdOwnFirst s).toNat ≤ p ∧ p ≤ (cfgIdOwnLast s).toNat)
  else decide ((peerAt s n).ownFirst.toNat ≤ p ∧ p ≤ (peerAt s n).ownLast.toNat)

/-- The owner of point p: the lowest-numbered node whose range holds it (R401). -/
def ownerOf (s : State) (p : Nat) : Option Nat := (knownNodes s).find? fun n => ownsPoint s n p

/-- The segment of the mapped-receive entry that feeds point p here (R401). -/
def segmentOfPoint (s : State) (p : Nat) : Option Nat :=
  (feederOf s p).map fun c => (cfgCanSegment s c).toNat

/-- Holder of segment duty g. -/
def segHolder (s : State) (g : Nat) : Option Nat :=
  if h : g < 32 then
    let n := vat s.canvas.duty.seg ⟨g, h⟩
    if n = 0xFF then none else some n.toNat
  else none

/-- Holder of the peer alarm duty for node x. -/
def peerHolder (s : State) (x : Nat) : Option Nat :=
  if h : x < 64 then
    let n := vat s.canvas.duty.peer ⟨x, h⟩
    if n = 0xFF then none else some n.toNat
  else none

/-- The entitled holder of point p; the peer alarm duty holder stands for every point of an absent owner, whose SOURCE the
ring does not tell (R401; log entry 50). -/
def entitled (s : State) (p : Nat) : Option Nat := match segmentOfPoint s p with
  | some g => segHolder s g
  | none => match ownerOf s p with
    | some o => if countedNode s o then some o else peerHolder s o
    | none => none

/-- An entry whose holder is no longer the entitled one is STALE (R405). -/
def staleEntry (s : State) (p : Nat) (r : RepPt) : RepPt :=
  if entitled s p = some r.holder.toNat then r else { r with stale := true }

/-- Every point whose entitled holder is none, or no longer the holder of the record held, is STALE (R405). -/
def refreshStale (s : State) : State :=
  { s with canvas := { s.canvas with replica := tmap s.canvas.replica (staleEntry s) } }

/-! Records (R402). -/

/-- A point record. -/
structure PtRec where
  /-- Ship point. -/
  p : Nat
  /-- Holder node. -/
  holder : Nat
  /-- DUTY. -/
  duty : Bool
  /-- TRANSITION_SEQ. -/
  seq : BitVec 16
  /-- The header pairs. -/
  head : List Pair
  /-- Value, quality, time and alarm state. -/
  pub : Pub
  deriving DecidableEq, Repr

/-- The sixteen words of the record of point p (R402). -/
def ptWords (s : State) (p : Nat) (l : LocalPt) (refresh : Bool) : List Word :=
  let w0 := at' 16 p ||| at' 8 (nodeNum s) ||| flag 7 l.byDuty ||| flag 6 refresh
  let w2 := at' 16 l.alarm.seq.toNat
  let u := l.pub
  [w0, ~~~w0, w2, ~~~w2] ++ pws u.value ++ pws u.quality ++ pws u.alarm ++
    [at' 8 u.cycle.toNat, w32 (u.opMs.toNat / 2 ^ 32), w32 u.opMs.toNat, u.wall.extractLsb' 32 32, u.wall.extractLsb' 0 32,
     u.wallQ.setWidth 32]

/-- The record that sixteen words spell (R402). -/
def parsePt (ws : List Word) : PtRec :=
  let g (i : Nat) : Word := ws.getD i 0
  { p := bits (g 0) 31 16, holder := bits (g 0) 15 8, duty := bit (g 0) 7, seq := (g 2).extractLsb' 16 16
    head := [⟨g 0, g 1⟩, ⟨g 2, g 3⟩]
    pub := { value := ⟨g 4, g 5⟩, quality := ⟨g 6, g 7⟩, alarm := ⟨g 8, g 9⟩, cycle := (g 10).extractLsb' 8 24
             opMs := (g 11).extractLsb' 0 16 ++ g 12, wall := g 13 ++ g 14, wallQ := (g 15).extractLsb' 0 2 } }

/-- The prefix pair of a payload checks (R402). -/
def prefixOk (ws : List Word) : Bool := ws.getD 3 0 == ~~~(ws.getD 0 0)

/-- The records of a payload, as many as its prefix counts and its words hold (R402). -/
def payloadRecs (ws : List Word) : List PtRec :=
  (List.range (min (bits (ws.getD 0 0) 23 16) ((ws.length - 4) / 16))).map fun j => parsePt ((ws.drop (4 + 16 * j)).take 16)

/-! Sending (R294, R402). -/

/-- What the publication of point p differs in from what was last sent (R294). -/
def deltaDue (s : State) (p : Nat) (l : LocalPt) : Bool :=
  l.pub.quality != l.sentQ || l.pub.alarm != l.sentAlarm || !l.pub.value.ok ||
    fLt (cfgPtDeltaBand s p) (fAbs (fSub l.pub.value.v l.lastSent.v)) || (fIsNan l.pub.value.v != fIsNan l.lastSent.v)

/-- A record of point p queued (R402). -/
def queueDelta (s : State) (p : Nat) (refresh : Bool) : State := match tget s.points p with
  | none => s
  | some l =>
    let s1 := s.modPoint p fun l => { l with lastSent := l.pub.value, sentQ := l.pub.quality, sentAlarm := l.pub.alarm, sentAt := now s }
    { s1 with canvas := { s1.canvas with deltaq := s1.canvas.deltaq ++ [ptWords s p l refresh] } }

/-- The REPLICA_DELTA of the queued records, at most 22 (R402). -/
def sendDelta (s : State) : State :=
  let rs := s.canvas.deltaq.take 22
  if rs.isEmpty then s
  else
    bcast { s with canvas := { s.canvas with deltaq := s.canvas.deltaq.drop 22 } } 2 0x29
      (repPrefix 1 rs.length 0 1 0 ++ rs.flatten)

/-- A publication's record, where one is due; 22 queued records leave at once (R294, R402). -/
def publishDelta (s : State) (p : Nat) : State := match tget s.points p with
  | none => s
  | some l =>
    if deltaDue s p l then
      let s1 := queueDelta s p false
      if 22 ≤ s1.canvas.deltaq.length then sendDelta s1 else s1
    else s

/-- REPLICA_DELTA_SEND (R402). -/
def execReplicaDeltaSend (s : State) : Host.Outcome State Fault Refusal := doIf (up s) s (sendDelta s)

/-- REPLICA_REFRESH: point p has not been sent for 10 s (R402). -/
def execReplicaRefresh (p : BitVec 16) (s : State) : Host.Outcome State Fault Refusal := match tget s.points p.toNat with
  | none => .next s
  | some l =>
    let t := queueDelta s p.toNat true
    doIf (up s && decide (l.sentAt + 10000 ≤ now s)) s (if 22 ≤ t.canvas.deltaq.length then sendDelta t else t)

/-! Taking a record (R404 to R407). -/

/-- A record is later than another in recorder time (R404). -/
def pubLater (a b : Pub) : Bool :=
  decide (b.cycle.toNat < a.cycle.toNat ∨ (b.cycle = a.cycle ∧ b.opMs.toNat < a.opMs.toNat))

/-- The replica's entry for point p after a record from its entitled holder (R404, R405). -/
def mergeRec (s : State) (src : Nat) (r : PtRec) (old : Option RepPt) : RepPt × Bool :=
  let o := old.getD {}
  let newAlarm := old.isNone || o.seq == r.seq || tseqNewer r.seq o.seq
  let newVal := old.isNone || decide (o.holder.toNat ≠ src) || pubLater r.pub o.pub
  let pub : Pub := if newVal then { r.pub with alarm := o.pub.alarm } else o.pub
  let e : RepPt := { o with
    seq := if newAlarm then r.seq else o.seq
    pub := if newAlarm then { pub with alarm := r.pub.alarm } else pub }
  if newAlarm || newVal then ({ e with holder := BitVec.ofNat 8 src, byDuty := r.duty, at_ := now s, stale := false, hit := false }, true) else (e, false)

/-- Pairs of a record that fail their check (R60). -/
def recBad (r : PtRec) : List Pair := [r.pub.value, r.pub.quality, r.pub.alarm].filter fun p => !p.ok

/-- A record taken from its entitled holder (R404). -/
def takeRec (s : State) (src : Nat) (r : PtRec) : State :=
  let x := mergeRec s src r (tget s.canvas.replica r.p)
  let s1 := { s with canvas := { s.canvas with replica := tset s.canvas.replica r.p x.1 } }
  let s2 := if x.2 && !(recBad r).isEmpty then pairFail s1 6 (subjectWord 0 src r.p) (recBad r) else s1
  panelsRefresh false (refreshGroup s2 x.1.group.toNat)

/-- A record held for the first evaluation of this node's own point (R88; log entry 51). -/
def keepForStart (s : State) (src : Nat) (r : PtRec) : State :=
  let x := mergeRec s src r (tget s.canvas.replica r.p)
  { s with canvas := { s.canvas with replica := tset s.canvas.replica r.p x.1 } }

/-- A record of a point this node evaluates, from a node that evaluates it by duty: merged at the next evaluation unless
one has been (R406). -/
def noteMergeRec (s : State) (r : PtRec) : State :=
  let o := tgetD s.canvas.replica r.p {}
  let newer := match o.pendingMerge with
    | none => true
    | some m => tseqNewer r.seq m.2
  if o.merged || !newer then s
  else { s with canvas := { s.canvas with replica := tset s.canvas.replica r.p { o with pendingMerge := some (r.pub.alarm, r.seq) } } }

/-- A point of this node that another node also owns (R407). -/
def conflictRec (s : State) (src : Nat) (r : PtRec) : Bool :=
  !r.duty && cfgHas s 7 r.p && ownsPoint s (nodeNum s) r.p && decide (src ≠ nodeNum s) && ownsPoint s src r.p

/-- One point record as it arrives (R404). -/
def takePoint (src : Nat) (s : State) (r : PtRec) : State :=
  if !r.head.all Pair.ok then pairFail s 6 (subjectWord 0 src r.p) (r.head.filter fun h => !h.ok) -- its subject cannot be told (log entry 52)
  else if conflictRec s src r then
    sysRaise (s.modPeer src fun p => { p with conflict := true }) 0x26
  else match tget s.points r.p with
    | some l =>
      if !l.evaluated then keepForStart s src r
      else if r.duty then noteMergeRec s r
      else if l.byDuty && decide (entitled s r.p = some src) then keepForStart s src r
      else s
    | none => if entitled s r.p = some src then takeRec s src r else s

/-- The level that the power-level point gives: below 0.5 NORMAL, below 1.5 REDUCED, else EMERGENCY; kept while the point is
not usable (R34, R113). -/
def powerPointLevel (s : State) : BitVec 2 :=
  if cfgPlcPowerPoint s = 0xFFFFFFFF then 0
  else match usableValue s (cfgPlcPowerPoint s).toNat with
    | some v =>
      if fIsNan v then s.power.point
      else if fLt v (fRat 1 2) then 0 else if fLt v (fRat 3 2) then 1 else 2
    | none => s.power.point

/-- The power-level point is followed (R34). -/
def notePower (s : State) : State := { s with power := { s.power with point := powerPointLevel s } }

/-- The records of a payload taken in order. -/
def takePoints (s : State) (src : Nat) (ws : List Word) : State := notePower ((payloadRecs ws).foldl (takePoint src) s)

/-! Gaps (R404, R457). -/

/-- Number of the SEQUENCE bookkeeping of a source and class. -/
def expectKey (src cls : Nat) : Nat := src * 4 + cls

/-- A delivered broadcast's SEQUENCE moves what is expected; a gap is told (R446, R457). -/
def noteSeq (s : State) (src cls : Nat) (seq : Word) : State × Bool :=
  let k := expectKey src cls
  let put (f : Expect → Expect) : State :=
    { s with ring := { s.ring with expects := tset s.ring.expects k (f (tgetD s.ring.expects k {})) } }
  match tget s.ring.expects k with
  | none => (put fun e => { e with next := seq + 1 }, false)
  | some e =>
    if seq = e.next then (put fun e => { e with next := seq + 1 }, false)
    else if (e.next - seq).toNat < 2 ^ 31 then (s, false)
    else (put fun e => { e with next := seq + 1 }, true)

/-- An ACTION of this node to another, or to every node (R454). -/
def sendAction (s : State) (dest : Option Nat) (code : Nat) : State :=
  let w := at' 16 code
  let mac? : Option (BitVec 48) := match dest with
    | none => some (groupMac s)
    | some n => tget s.ring.bindings n
  match mac? with
  | none => s
  | some mac =>
    let tag := s.ring.nextTag
    enqueue { s with ring := { s.ring with nextTag := tag + 1 } }
      { cls := 1, type := 0x05, noReply := decide (code = 1), src := BitVec.ofNat 8 (nodeNum s)
        dest := BitVec.ofNat 8 (dest.getD 0xFF), session := s.ring.session, tag := tag, payload := [w, ~~~w], mac := mac }

/-- A source's snapshot is requested, at most once in 10 s (R404). -/
def requestGap (s : State) (src : Nat) : State :=
  let due := match (peerAt s src).snapReqAt with
    | none => true
    | some t => decide (t + 10000 ≤ now s)
  if due then (sendAction s (some src) 1).modPeer src fun p => { p with snapReqAt := some (now s) } else s

/-- Deltas from this source wait for its snapshot: the replica is not READY and the snapshot has not come (R92). -/
def awaitsSnap (s : State) (src : Nat) : Bool := !fnReady s 0x09 0 && !(peerAt s src).snapped

/-- A SEQUENCE lies after the snapshot's (R92). -/
def afterBase (p : Peer) (seq : Word) : Bool := !p.snapped || decide ((seq - p.snapBase).toNat - 1 < 2 ^ 31 - 1) && decide (seq ≠ p.snapBase)

/-- A REPLICA_DELTA from a node (R92, R404). -/
def takeDelta (s : State) (src : Nat) (seq : Word) (ws : List Word) : State :=
  let x := noteSeq s src 2 seq
  let s1 := if x.2 && fnReady s 0x09 0 then requestGap x.1 src else x.1
  if !prefixOk ws then pairFail s1 6 (subj s 1 0x06) [⟨ws.getD 0 0, ws.getD 3 0⟩]
  else if awaitsSnap s src then
    s1.modPeer src fun p => { p with deltas := p.deltas ++ [{ cls := 2, type := 0x29, seq := seq, payload := ws }] }
  else if afterBase (peerAt s src) seq then takePoints s1 src ws
  else s1

/-- REPLICA_DELTA_RECEIVE (R92, R404). -/
def execReplicaDeltaReceive (src : Fin 64) (seq : Word) (payload : List Word) (s : State) : Host.Outcome State Fault Refusal :=
  doIf (up s && fnReady s 0x01 0) s (takeDelta s src.val seq payload)

/-! Snapshots (R91 to R93). -/

/-- The deltas stored for a source are taken: those after its snapshot where one has come (R92). -/
def takeStored (s : State) (src : Nat) : State :=
  let p := peerAt s src
  let s1 := s.modPeer src fun p => { p with deltas := [] }
  (p.deltas.filter fun m => afterBase p m.seq).foldl (fun s m => takePoints s src m.payload) s1

/-- REPLICA is READY: what is still stored is taken (R93). -/
def replicaReady (s : State) (missing : Bool) : State :=
  if fnReady s 0x09 0 then s
  else
    let s0 := { s with sys := { s.sys with snapAwait := [], snapAgain := [] } }
    let s1 := (s0.canvas.peers.map Prod.fst).foldl takeStored s0
    becomeReady (s1.modFn (fnKey 0x09 0) fun f => { f with partial_ := f.partial_ || missing }) 0x09 0

/-- REPLICA is READY once no snapshot is awaited (R93). -/
def checkAwait (s : State) : State :=
  if !fnReady s 0x09 0 && s.sys.snapAwait.isEmpty && s.sys.snapAgain.isEmpty then replicaReady s (!s.sys.snapMissing.isEmpty) else s

/-- One part of a source's point snapshot (R92, R402). -/
def takeSnapPart (s : State) (src : Nat) (ws : List Word) : State :=
  let base := ws.getD 2 0
  let part := bits (ws.getD 0 0) 15 0
  let parts := bits (ws.getD 1 0) 31 16
  let s1 := s.modPeer src fun p =>
    let fresh := p.snapBase != base || p.snapParts.isEmpty || decide (parts ≤ p.snapParts.length)
    { p with snapBase := base, snapParts := if fresh then [part] else (part :: p.snapParts).eraseDups }
  let s2 := takePoints s1 src ws
  if decide (parts ≤ (peerAt s2 src).snapParts.length) then
    let s3 := takeStored (s2.modPeer src fun p => { p with snapped := true }) src
    let drop (l : List Nat) : List Nat := l.filter (· ≠ src)
    checkAwait { s3 with sys := { s3.sys with
      snapAwait := drop s3.sys.snapAwait, snapAgain := drop s3.sys.snapAgain, snapMissing := drop s3.sys.snapMissing } }
  else s2

/-- This node's snapshot for a node, then its duty image: the points it owns and those it holds by duty; one part without
a record where it has none (R91, R402, R403). -/
def sendSnapshot (s : State) (mac : BitVec 48) (dest : Nat) : State :=
  let recs := s.points.map fun e => ptWords s e.1 e.2 false
  let cut := cutWords 352 (recs.length + 1) recs.flatten
  let parts := if cut.isEmpty then [[]] else cut
  let base := lastDelta s
  let s1 := parts.zipIdx.foldl (fun s e =>
    sendTo s mac (BitVec.ofNat 8 dest) 2 0x2A (repPrefix 1 (e.1.length / 16) e.2 parts.length base ++ e.1)) s
  sendImage s1

/-- DUTY_IMAGE_MISSING ends once no absent node that has been counted is without an image here (R403, R421). -/
def imageMissing (s : State) : Bool :=
  s.canvas.peers.any fun e => e.2.st == .absent && e.2.everCounted && e.2.image.isNone

/-- One part of a node's duty image: the image is held once every part of one BASE_SEQUENCE has arrived (R403). -/
def takeImagePart (s : State) (src : Nat) (ws : List Word) : State :=
  let base := ws.getD 2 0
  let part := bits (ws.getD 0 0) 15 0
  let parts := bits (ws.getD 1 0) 31 16
  let s1 := s.modPeer src fun p =>
    let old := if p.imageBase = base then p.imageParts else []
    { p with imageBase := base, imageParts := tset old part (ws.drop 4) }
  let got := (peerAt s1 src).imageParts
  if (List.range parts).all fun i => (tget got i).isSome then
    let s2 := s1.modPeer src fun p => { p with image := some ((got.filter fun e => decide (e.1 < parts)).flatMap Prod.snd), imageParts := [] }
    if imageMissing s2 then s2 else sysClear s2 0x29
  else s1

/-- A REPLICA_SNAPSHOT from a node (R92, R402, R403). -/
def takeSnapshot (s : State) (src : Nat) (ws : List Word) : State :=
  if !prefixOk ws then pairFail s 6 (subj s 1 0x06) [⟨ws.getD 0 0, ws.getD 3 0⟩]
  else match bits (ws.getD 0 0) 31 24 with
    | 1 => takeSnapPart s src ws
    | 2 => takeImagePart s src ws
    | _ => s

/-- REPLICA_SNAPSHOT_RECEIVE (R92, R93, R403). -/
def execReplicaSnapshotReceive (src : Fin 64) (payload : List Word) (s : State) : Host.Outcome State Fault Refusal :=
  doIf (up s && fnReady s 0x01 0) s (takeSnapshot s src.val payload)

/-- REPLICA_STALE_TIMEOUT: no record from the entitled holder for 25 s (R405). -/
def execReplicaStaleTimeout (p : BitVec 16) (s : State) : Host.Outcome State Fault Refusal := match tget s.canvas.replica p.toNat with
  | none => .next s
  | some r =>
    doIf (up s && decide (r.at_ + 25000 ≤ now s)) s
      { s with canvas := { s.canvas with replica := tmod s.canvas.replica p.toNat fun r => { r with stale := true } } }

/-- The nodes present in the view, counted or not (R91). -/
def presentPeers (s : State) : List Nat :=
  (s.canvas.peers.filter fun e => e.2.st == .present || e.2.st == .counted).map Prod.fst

/-- MEMBERSHIP_LISTEN_END: 300 ms after RING READY the present peers are asked for their snapshots (R91, R93). -/
def execMembershipListenEnd (s : State) : Host.Outcome State Fault Refusal :=
  doIf (up s && fnReady s 0x01 0 && !fnReady s 0x09 0 && !s.cfg.absent && s.sys.snapAwait.isEmpty && s.sys.snapAgain.isEmpty) s
    (if (presentPeers s).isEmpty then replicaReady s false
     else sendAction { s with sys := { s.sys with snapAwait := presentPeers s } } none 1)

/-- SNAPSHOT_ANSWER_TIMEOUT: a peer that has not answered in 500 ms is asked once more, then missed (R93). -/
def execSnapshotAnswerTimeout (peer : Fin 64) (s : State) : Host.Outcome State Fault Refusal :=
  let n := peer.val
  let drop (l : List Nat) : List Nat := l.filter (· ≠ n)
  if s.sys.snapAwait.contains n then
    doIf (up s) s (sendAction { s with sys := { s.sys with snapAwait := drop s.sys.snapAwait, snapAgain := n :: s.sys.snapAgain } } (some n) 1)
  else
    doIf (up s && s.sys.snapAgain.contains n) s
      (checkAwait { s with sys := { s.sys with snapAgain := drop s.sys.snapAgain, snapMissing := n :: s.sys.snapMissing } })

end Sys2Proof.Machine
end

