-- ==== Sys2Proof/Machine/Vib.lean ====
section
/-! DEFINITION. Vibration: the waveform rings and edge logs, captures, WAVEFORM messages, and features (R210 to R229). -/

namespace Sys2Proof.Machine
open Sys2Proof

/-- The vibration side of UAI n. -/
def vibAt (s : State) (n : Fin 16) : VibCh := vat s.vib.ch n

/-- VIBRATION is READY. -/
def vibReady (s : State) : Bool := up s && fnReady s 0x0B 0

/-- Mode of UAI n. -/
def uaiMode (s : State) (n : Nat) : Nat := (cfgUaiMode s n).toNat

/-- UAI n is a waveform channel: IEPE with a capture entity (R210). -/
def waveCh (s : State) (n : Nat) : Bool := cfgHas s 17 (n * 65536) && decide (uaiMode s n = 7)

/-- UAI n is FREQUENCY and its edge log is written (R213). -/
def edgeCh (s : State) (n : Nat) : Bool :=
  decide (uaiMode s n = 8) &&
  ((cfgHas s 17 (n * 65536) && decide (cfgCapEdgeLog s n = 1)) ||
    (List.range 16).any fun m => waveCh s m && decide ((cfgCapSpeedChannel s m).toNat = n))

/-! The ring (R212). -/

/-- Words of a channel's region. -/
def ringWords : Nat := 16777216

/-- Byte address of sample or edge i of UAI n (R212, R213). -/
def ringAddr (n i : Nat) : Nat := 0x6E000000 + n * 0x04000000 + 4 * (i % ringWords)

/-- The MISSING code (R212). -/
def missingCode : Word := 0x80000000

/-- A word stored in the ring; a poisoned word is whole again once written (R70, R212). -/
def ringPut (s : State) (n i : Nat) (w : Word) : State :=
  let a := ringAddr n i
  { s with dram := { s.dram with
      bytes := memSetWord ramByte s.dram.bytes a w, poisoned := s.dram.poisoned.filter fun p => decide (p ≠ a / 8 * 8) } }

/-- Word i of the ring; a poisoned word reads as MISSING (R70, R212). -/
def ringGet (s : State) (n i : Nat) : Word :=
  let a := ringAddr n i
  if s.dram.poisoned.contains (a / 8 * 8) then missingCode else memWord ramByte s.dram.bytes a

/-- Index of the oldest sample still in the ring. -/
def ringOldest (s : State) (n : Fin 16) : Nat := match (vibAt s n).firstIndex with
  | none => 0
  | some f => max f.toNat ((vibAt s n).writeIndex.toNat + 1 - ringWords)

/-- Sample rate of UAI n in samples a second (R210). -/
def sampleRate (s : State) (n : Nat) : Nat := 25600 * 2 ^ bits (cfgCapCaptureRate s n) 1 0

/-- The raw code of a voltage behind the high-pass of HIGHPASS (R210). -/
def waveCode (volts : Word) : Word := wInt (iClamp (-8388608) 8388607 (roundRat (measRat volts * mkRat 8388608 10)))

/-- The sample of UAI n taken at a tick: sample i falls at i × 10 000 000 / Fs, its fraction dropped (R211). -/
def sampleAt (s : State) (n tick : Nat) : Option Nat :=
  let fs := sampleRate s n
  let i := (tick * fs + 9999999) / 10000000
  if i * 10000000 / fs = tick then some i else none

/-- Sample i of UAI `ch`, or its loss with a link frame, in the ring (R210 to R212). -/
def writeSample (s : State) (ch : Fin 16) (i : BitVec 64) (v : Pair) (lost : Bool) : State :=
  let miss := lost || !v.ok
  let s1 := ringPut s ch.val i.toNat (if miss then missingCode else v.v)
  let s2 := if miss then { s1 with vib := { s1.vib with missing := satInc s1.vib.missing } } else s1
  s2.modVib ch fun c =>
    if i.toNat < c.writeIndex.toNat then -- the die has begun its count again
      { c with writeIndex := i, firstIndex := some i, streamAt := i, newestAt := stampNow s, bias := []
               feats := c.feats.map fun e => (e.1, { e.2 with since := i }) }
    else { c with writeIndex := i, firstIndex := some (c.firstIndex.getD i), newestAt := stampNow s }

/-- The on transition of a FREQUENCY input is stamped and logged (R211, R213). -/
def logEdge (s : State) (ch : Fin 16) (tick : BitVec 64) : State :=
  let c := vibAt s ch
  let j : BitVec 64 := if c.firstIndex.isNone then 0 else c.writeIndex + 1
  (ringPut s ch.val j.toNat (tick.setWidth 32)).modVib ch fun c => { c with
    writeIndex := j, lastTick := tick -- an earlier tick: the die has begun its count again
    firstIndex := some (if tick.toNat < c.lastTick.toNat then j else c.firstIndex.getD j) }

/-- The signal of a FREQUENCY input reaches a level at a tick; an on transition is counted and logged (R186, R211, R213). -/
def frequencyEdge (s : State) (ch : Fin 16) (tick : BitVec 64) (level : Word) (held : Nat) : State :=
  let u := uaiAt s ch
  let sensor := (chanMode u.mode).sensor
  let s1 := (acqReach s tick).modUai ch fun u => freqTake sensor u tick level held
  if freqRises sensor u level held && vibReady s && edgeCh s ch.val then logEdge s1 ch tick else s1

/-- FREQUENCY_EDGE: the level the signal reaches, and the ticks it holds it (R186, R211, R213; log entry 104). -/
def execFrequencyEdge (ch : Fin 16) (tick : BitVec 64) (level : Word) (held : Nat) (s : State) : Host.Outcome State Fault Refusal :=
  doIf (s.field.running && decide (bits (uaiAt s ch).mode 3 0 = 8)) s (frequencyEdge s ch tick level held)

/-! What is shed (R225). -/

/-- Address of UAI n's CAPTURES object (R228). -/
def capturesAddr (n : Nat) : Word := 0xC0000008 + w32 (256 * n)
/-- Address of UAI n's STREAM object (R228). -/
def streamAddr (n : Nat) : Word := 0xC0000007 + w32 (256 * n)

/-- A stream of UAI n is asked for and allowed (R217, R220). -/
def streamWanted (s : State) (n : Fin 16) : Bool :=
  vibReady s && (waveCh s n.val || (decide (uaiMode s n.val = 8) && cfgHas s 17 (n.val * 65536) &&
    decide (cfgCapEdgeLog s n.val = 1))) &&
  decide (cfgCapStreamAllowed s n.val = 1) && !(subscribers s (streamAddr n.val)).isEmpty

/-- Feature k of UAI n. -/
def featAt (s : State) (n : Fin 16) (k : Nat) : Feat := tgetD (vibAt s n).feats k {}

/-- The state with feature k of UAI n passed through f. -/
def State.modFeat (s : State) (n : Fin 16) (k : Nat) (f : Feat → Feat) : State :=
  s.modVib n fun v => { v with feats := tset v.feats k (f (tgetD v.feats k {})) }

/-- Feature k of UAI n is configured. -/
def featUsed (s : State) (n : Fin 16) (k : Nat) : Bool :=
  decide (1 ≤ k ∧ k ≤ 64) && cfgHas s 17 (n.val * 65536 + k) && waveCh s n.val

/-- Something is shed: a feature, or a transmission wanted (R225). -/
def anyShed (s : State) : Bool :=
  ((List.finRange 16).any fun n => (List.range 64).any fun i => featUsed s n (i + 1) &&
    ((featAt s n (i + 1)).st == .heldShed || (featAt s n (i + 1)).st == .heldUnplaced)) ||
  (decide (s.power.eff ≠ 0) && ((List.finRange 16).any fun n => streamWanted s n || !(vibAt s n).resends.isEmpty ||
    (vibAt s n).pending.any fun c => decide (c.kind = 3 ∨ s.power.eff = 2)))

/-- VIBRATION_SHED follows what is shed (R225, R332). -/
def noteShed (s : State) : State := sysSet s 0x14 (anyShed s)

/-! Captures (R214 to R216). -/

/-- Record CAPTURE of a capture with the triggers merged into it (R215, R216, R490; log entry 26). -/
def captureRec (s : State) (n : Fin 16) (c : Capture) (merged : Nat) : Rec :=
  mkRec s .e 0x17 (subj s 2 n.val) 0
    [c.id, at' 16 c.kind.toNat ||| w32 merged, c.trigger.extractLsb' 32 32, c.trigger.extractLsb' 0 32,
     if c.kind = 1 then cfgCapTriggerPoint s n.val else 0]

/-- Record CAPTURE_DROPPED (R216, R490). -/
def dropRec (s : State) (n : Fin 16) (id : Word) : State := stage s (mkRec s .d 0x4A (subj s 2 n.val) 0 [id])

/-- A capture of UAI n is recorded, its window opened; with fewer than PRE_SAMPLES samples before the trigger it begins at sample
0 (R215; log entry 110). -/
def recordCapture (s : State) (n : Fin 16) (kind : BitVec 8) : State :=
  let v := vibAt s n
  let pre := (cfgCapPreSamples s n.val).toNat
  let trig := v.writeIndex.toNat
  let c : Capture :=
    { id := s.vib.nextId, kind := kind, trigger := v.writeIndex, first := BitVec.ofNat 64 (trig - pre)
      length := (cfgCapCaptureLength s n.val).toNat - (pre - trig) }
  let s1 := { s with vib := { s.vib with nextId := if s.vib.nextId = 0xFFFFFFFF then 1 else s.vib.nextId + 1 } }
  let s2 := s1.modVib n fun v => { v with
    lastCapture := c.id, made := satInc v.made, windowOpen := true, openCap := c, merged := 0, pending := v.pending ++ [c]
    windowEnd := trig + ((cfgCapCaptureLength s n.val).toNat - pre)
    past := c :: v.past.filter fun p => decide (ringOldest s n ≤ p.first.toNat) }
  noteShed s2

/-- A trigger of a capture: merged into an open window; a ninth pending capture drops the oldest SCHEDULED one or is
refused (R216). -/
def trigger (s : State) (n : Fin 16) (kind : BitVec 8) : State :=
  let v := vibAt s n
  if v.windowOpen then
    { s with vib := { s.vib with merged := satInc s.vib.merged } }.modVib n fun v => { v with merged := satInc v.merged }
  else if v.pending.length < 8 then recordCapture s n kind
  else match v.pending.findIdx? fun c => decide (c.kind = 3) with
    | some i =>
      let id := (v.pending.getD i {}).id
      recordCapture (dropRec (s.modVib n fun v => { v with pending := v.pending.eraseIdx i }) n id) n kind
    | none => dropRec { s with vib := { s.vib with refused := satInc s.vib.refused } } n 0

/-- TRIGGER_CAPTURE: TRIGGER_POINT has entered ACT_UNACK (R214). -/
def execTriggerCapture (ch : Fin 16) (s : State) : Host.Outcome State Fault Refusal :=
  doIf (vibReady s && waveCh s ch.val && (vibAt s ch).trigDue) s
    (trigger (s.modVib ch fun v => { v with trigDue := false }) ch 1)

/-- CAPTURE_NOW at Operator level (R214, R229). -/
def execCaptureNow (r : Req) (ch : Fin 16) (s : State) : Host.Outcome State Fault Refusal :=
  doIf (may s r 1 && vibReady s && waveCh s ch.val) s (trigger s ch 2)

/-- Another SCHEDULE_MIN minutes of operating time since VIBRATION READY have passed (R214; log entry 27). -/
def scheduleDue (s : State) (n : Fin 16) : Bool :=
  let m := (cfgCapScheduleMin s n.val).toNat * 60000
  decide (m ≠ 0) && decide (((vibAt s n).schedAt - s.vib.readyAt) / m < (opMs s - s.vib.readyAt) / m)

/-- SCHEDULED_CAPTURE; at REDUCED and EMERGENCY its instant passes without a capture (R214, R225). -/
def execScheduledCapture (ch : Fin 16) (s : State) : Host.Outcome State Fault Refusal :=
  doIf (vibReady s && waveCh s ch.val && scheduleDue s ch) s
    (let s1 := s.modVib ch fun v => { v with schedAt := opMs s }
     if s.power.eff = 0 then trigger s1 ch 3 else s1)

/-- The window closes: the capture's record is staged with the triggers merged into it, and without a CAPTURES subscription
the capture is pending no longer (R215, R216). -/
def closeWindow (s : State) (n : Fin 16) : State :=
  let none_ := (subscribers s (capturesAddr n.val)).isEmpty
  let v := vibAt s n
  noteShed (stage (s.modVib n fun v => { v with
    windowOpen := false
    pending := if none_ then v.pending.filter fun c => decide (c.id ≠ v.lastCapture) else v.pending })
    (captureRec s n v.openCap v.merged.toNat))

/-- The window of UAI n is open, and the sample that closes it has been written (R215). -/
def windowOver (s : State) (n : Fin 16) : Bool :=
  (vibAt s n).windowOpen && decide ((vibAt s n).windowEnd ≤ (vibAt s n).writeIndex.toNat)

/-- CAPTURE_WINDOW_CLOSE (R215, R216). -/
def execCaptureWindowClose (ch : Fin 16) (s : State) : Host.Outcome State Fault Refusal :=
  doIf (up s && windowOver s ch) s (closeWindow s ch)

/-- A sample written, and the window that it closes (R212, R215). -/
def sampleIn (s : State) (ch : Fin 16) (i : BitVec 64) (v : Pair) (lost : Bool) : State :=
  let s1 := writeSample s ch i v lost
  if windowOver s1 ch then closeWindow s1 ch else s1

/-- WAVEFORM_SAMPLE_WRITE: the voltage found at a tick, `upset` bits of its complement flipped, or the sample lost (R210 to
R212; log entry 12). -/
def execWaveformSampleWrite (ch : Fin 16) (tick : BitVec 64) (volts upset : Word) (lost : Bool) (s : State) :
    Host.Outcome State Fault Refusal :=
  match sampleAt s ch.val tick.toNat with
  | none => .next s
  | some i => doIf (vibReady s && waveCh s ch.val) s
      (sampleIn (acqReach s tick) ch (BitVec.ofNat 64 i) (pairUpset (waveCode volts) upset) lost)

/-- CANCEL_PENDING (R216, R229). -/
def execCancelPending (r : Req) (ch : Fin 16) (s : State) : Host.Outcome State Fault Refusal :=
  doIf (may s r 2 && vibReady s) s (noteShed (s.modVib ch fun v => { v with pending := v.pending.filter Capture.started }))

/-- RESEND_ID: the capture goes again while its first sample is in the ring (R217, R228). -/
def resendCap (s : State) (n : Fin 16) (id : Word) : State :=
  match (vibAt s n).past.find? fun c => decide (c.id = id) with
  | none => s
  | some c =>
    if ringOldest s n ≤ c.first.toNat ∧ (vibAt s n).firstIndex.isSome then
      noteShed (s.modVib n fun v => { v with resends := v.resends ++
        [{ c with sent := 0, started := false, truncated := false, resend := true }] })
    else s

/-- RESEND_ID (R217). -/
def execResendId (r : Req) (ch : Fin 16) (id : Word) (s : State) : Host.Outcome State Fault Refusal :=
  doIf (may s r 1 && vibReady s) s (resendCap s ch id)

/-! Streams and the C3 request (R217 to R219). -/

/-- Blocks of 352 samples a second at a CAPTURE_RATE (R219). -/
def rateFrames (rate : Nat) : Nat := match rate with
  | 0 => 73
  | 1 => 146
  | _ => 291

/-- What a stream of UAI n needs, in bit/s (R219, R220; log entry 32). -/
def streamBits (s : State) (n : Fin 16) : Nat :=
  (if waveCh s n.val then rateFrames (cfgCapCaptureRate s n.val).toNat
   else ((uaiAt s n).sample.v.toNat + 351999) / 352000) * 12160

/-- A stream of UAI n is active: asked for, and not shed (R219, R225). -/
def streamActive (s : State) (n : Fin 16) : Bool := streamWanted s n && decide (s.power.eff = 0)

/-- A capture of these kinds is pending on some channel. -/
def pendingKinds (s : State) (p : Capture → Bool) : Bool :=
  (List.finRange 16).any fun n => (vibAt s n).pending.any p

/-- The vibration request in kbit/s, rounded up (R219). -/
def vibNeed (s : State) : Nat :=
  let b := (((List.finRange 16).filter (streamActive s)).map (streamBits s)).sum
  (b + 999) / 1000 + if pendingKinds s fun _ => true then 2000 else 0

/-- The streams that run, in ascending channel, and the bit/s of the grant left after them: what TRIGGER and COMMAND captures
take comes first, and a stream whose full rate the rest cannot cover is paused (R218). -/
def streamPlan (s : State) : Nat × List (Fin 16) :=
  let caps := if pendingKinds s fun c => decide (c.kind ≠ 3) then 2000000 else 0
  ((List.finRange 16).filter (streamActive s)).foldl (fun a n =>
    if streamBits s n ≤ a.1 then (a.1 - streamBits s n, a.2 ++ [n]) else a) (s.canvas.grant.toNat * 1000 - caps, [])

/-- UAI n's stream runs (R217, R218). -/
def streamRuns (s : State) (n : Fin 16) : Bool := (streamPlan s).2.contains n

/-- UAI n's stream follows its subscriptions, the grant and the power level; one that resumes starts at the newest sample
with DISCONTINUITY (R217, R218, R225). -/
def refreshStream (s : State) (n : Fin 16) : State :=
  let want := streamWanted s n
  let run := streamRuns s n
  s.modVib n fun v =>
    let starts := run && !v.streaming
    { v with
      streaming := run, paused := want && !run
      streamAt := if starts then v.writeIndex else v.streamAt
      streamDisc := v.streamDisc || (starts && v.paused) }

/-- Every stream (R218). -/
def refreshStreams (s : State) : State := (List.finRange 16).foldl refreshStream s

/-! WAVEFORM (R217, R218, R220). -/

/-- SCALE: 10.0 / 8 388 608 / (SENSITIVITY / 1 000) (R220). -/
def waveScale (s : State) (n : Nat) : Word :=
  fDiv (fDiv (fOfNat 10) (fOfNat 8388608)) (fDiv (cfgCapSensitivity s n) (fOfNat 1000))

/-- High word of the tick of edge i: the newest tick's, less the carries between i and the newest (R220). -/
def edgeHigh (s : State) (n : Fin 16) (i : Nat) : Word :=
  let newest := (vibAt s n).writeIndex.toNat
  let carries := ((List.range (newest - i)).filter fun k =>
    decide ((ringGet s n.val (i + k + 1)).toNat < (ringGet s n.val (i + k)).toNat)).length
  (vibAt s n).lastTick.extractLsb' 32 32 - w32 carries

/-- The header words 0 to 7 and entries of a WAVEFORM message (R220). -/
def waveWords (s : State) (n : Fin 16) (kind rate : Nat) (fl : Word) (id : Word) (i count : Nat) (trig w6 : Word) : List Word :=
  let es := (List.range count).map fun k => ringGet s n.val (i + k)
  let miss := es.any fun w => decide (w = missingCode)
  let disc := (vibAt s n).discont || (decide (4 ≤ kind) && (vibAt s n).streamDisc)
  [at' 24 n.val ||| at' 16 kind ||| at' 12 rate ||| fl ||| flag 8 disc ||| flag 7 miss, id,
   w32 (i / 2 ^ 32), w32 i, w32 count, trig, w6, 0] ++ es

/-- A WAVEFORM message to each of these stations (R217). -/
def sendWave (s : State) (macs : List (BitVec 48)) (ws : List Word) : State :=
  macs.foldl (fun s m => sendTo s m 0xFE 3 0x28 ws) s

/-- What the ring has lost of a capture: sending resumes at the oldest sample (R216). -/
def overtake (s : State) (n : Fin 16) (c : Capture) : Capture :=
  let o := ringOldest s n
  let next := c.first.toNat + c.sent
  if next < o then { c with sent := min c.length (c.sent + (o - next)), truncated := true } else c

/-- A capture has a full message, or its last one, in the ring (R218, R220). -/
def sendable (s : State) (n : Fin 16) (c : Capture) : Bool :=
  let c := overtake s n c
  let k := min 352 (c.length - c.sent)
  decide (k = 0) || decide (c.first.toNat + c.sent + k ≤ (vibAt s n).writeIndex.toNat + 1)

/-- A capture may be sent at the present level to a station that subscribes, while grant remains in its place of the order (R217,
R218, R225). -/
def captureOpen (s : State) (n : Fin 16) (c : Capture) : Bool :=
  let lvl := s.power.eff.toNat
  decide (lvl < 2) && (decide (lvl = 0) || (decide (c.kind ≠ 3) && !c.resend)) &&
    !(subscribers s (capturesAddr n.val)).isEmpty &&
    decide (0 < if c.kind = 3 ∨ c.resend then (streamPlan s).1 else s.canvas.grant.toNat)

/-- The oldest capture of a list over all channels that has a message to send: its channel and place. -/
def oldestOf (s : State) (get : VibCh → List Capture) (p : Capture → Bool) : Option (Fin 16 × Nat) :=
  let all := (List.finRange 16).flatMap fun n =>
    ((get (vibAt s n)).zipIdx.filter fun e => p e.1 && captureOpen s n e.1 && sendable s n e.1).map fun e => (n, e.2, e.1.id)
  (all.foldl (fun b e => match b with
    | none => some e
    | some x => if e.2.2.toNat < x.2.2.toNat then some e else some x) none).map fun e => (e.1, e.2.1)

/-- One message of a capture: the capture after it, and the words (R216, R220). -/
def captureMsg (s : State) (n : Fin 16) (c : Capture) : Capture × List Word :=
  let c := overtake s n c
  let k := min 352 (c.length - c.sent)
  let last := decide (c.sent + k = c.length)
  let fl := flag 11 (!c.started) ||| flag 10 last ||| flag 9 c.truncated ||| flag 6 c.resend
  ({ c with sent := c.sent + k, started := true },
   waveWords s n c.kind.toNat (bits (cfgCapCaptureRate s n.val) 3 0) fl c.id (c.first.toNat + c.sent) k
     (c.trigger.setWidth 32) (waveScale s n.val))

/-- A message of capture i of UAI n's list leaves; a capture wholly sent or lost leaves the list (R216, R218). -/
def sendCapture (s : State) (n : Fin 16) (i : Nat) (resends : Bool) : State :=
  let v := vibAt s n
  let l := if resends then v.resends else v.pending
  match l[i]? with
  | none => s
  | some c =>
    let m := captureMsg s n c
    let empty := decide (m.2.length ≤ 8)
    let s1 := if empty then s else sendWave s (subscribers s (capturesAddr n.val)) m.2
    let l2 := if m.1.length ≤ m.1.sent then l.eraseIdx i else l.set i m.1
    s1.modVib n fun v => { v with
      pending := if resends then v.pending else l2, resends := if resends then l2 else v.resends
      truncs := if m.1.truncated && !c.truncated then satInc v.truncs else v.truncs
      discont := v.discont && empty }

/-- The first stream in ascending channel with a full message (R218). -/
def readyStream (s : State) : Option (Fin 16) := (List.finRange 16).find? fun n =>
  (vibAt s n).streaming && (vibAt s n).firstIndex.isSome &&
    decide (max (vibAt s n).streamAt.toNat (ringOldest s n) + 352 ≤ (vibAt s n).writeIndex.toNat + 1)

/-- A message of UAI n's stream; a stream the ring has overtaken goes on at the oldest sample (R217, R218, R220). -/
def sendStream (s : State) (n : Fin 16) : State :=
  let wave := waveCh s n.val
  let i := max (vibAt s n).streamAt.toNat (ringOldest s n)
  let rate := if wave then bits (cfgCapCaptureRate s n.val) 3 0 else 15
  let ws := waveWords s n (if wave then 4 else 5) rate 0 0 i 352 0 (if wave then waveScale s n.val else edgeHigh s n i)
  (sendWave s (subscribers s (streamAddr n.val)) ws).modVib n fun v => { v with
    streamAt := BitVec.ofNat 64 (i + 352), discont := false, streamDisc := false }

/-- One WAVEFORM by the order of R218. -/
def sendNextWave (s : State) : State :=
  match oldestOf s VibCh.pending (fun c => decide (c.kind = 1)) with
  | some (n, i) => sendCapture s n i false
  | none => match oldestOf s VibCh.pending (fun c => decide (c.kind = 2)) with
    | some (n, i) => sendCapture s n i false
    | none => match readyStream s with
      | some n => sendStream s n
      | none => match oldestOf s VibCh.pending (fun c => decide (c.kind = 3)) with
        | some (n, i) => sendCapture s n i false
        | none => match oldestOf s VibCh.resends (fun _ => true) with
          | some (n, i) => sendCapture s n i true
          | none => s

/-- WAVEFORM: the message pool takes the next message (R218). -/
def execWaveform (s : State) : Host.Outcome State Fault Refusal :=
  doIf (vibReady s && decide (originBytes s 3 + 65536 ≤ originCap 3)) s (noteShed (sendNextWave (refreshStreams s)))

/-! Features (R221 to R225). -/

/-- Samples of the span: (AVERAGES + 1) × LINES (R221). -/
def spanLen (s : State) (n : Fin 16) (k : Nat) : Nat :=
  ((cfgFeatAverages s n.val k).toNat + 1) * (cfgFeatLines s n.val k).toNat

/-- The FREQUENCY channel that UAI n takes its speed from (R226). -/
def speedChannel (s : State) (n : Nat) : Option (Fin 16) :=
  let m := (cfgCapSpeedChannel s n).toNat
  if h : m < 16 then some ⟨m, h⟩ else none

/-- ACQ_TICK of edge i of UAI m (R213). -/
def edgeTick (s : State) (m : Fin 16) (i : Nat) : Nat := (edgeHigh s m i).toNat * 2 ^ 32 + (ringGet s m.val i).toNat

/-- Edges of UAI m over the angle of feature k's span: its samples at 256 a revolution (R221). -/
def spanEdges (s : State) (n : Fin 16) (k : Nat) (m : Fin 16) : Nat :=
  (spanLen s n k * (cfgCapPulsesPerRev s m.val).toNat + 255) / 256

/-- The speed channel's edges hold the whole angle of a type 5 span (R222; log entry 32). -/
def edgesHeld (s : State) (n : Fin 16) (k : Nat) (m : Fin 16) : Bool :=
  (vibAt s m).firstIndex.isSome && decide (ringOldest s m + spanEdges s n k m ≤ (vibAt s m).writeIndex.toNat) &&
    decide (0 < spanEdges s n k m)

/-- Feature k is of type 5. -/
def featFive (s : State) (n : Fin 16) (k : Nat) : Bool := decide (cfgFeatFeatureType s n.val k = 5)

/-- The revolution rate changes by more than 10 % from the first revolution of a type 5 span to its last (R222; log entry 108). -/
def rateChanged (s : State) (n : Fin 16) (k : Nat) (m : Fin 16) : Bool :=
  let p := (cfgCapPulsesPerRev s m.val).toNat
  let j := (vibAt s m).writeIndex.toNat
  let i := j - spanEdges s n k m
  let a := edgeTick s m (i + p) - edgeTick s m i
  let b := edgeTick s m j - edgeTick s m (j - p)
  decide (b < 10 * (max a b - min a b))

/-- A type 5 feature cannot be computed: the speed channel carries NO_EDGES, its edges do not hold the span, or the rate
changes too much (R222). -/
def speedLost (s : State) (n : Fin 16) (k : Nat) : Bool :=
  featFive s n k && match speedChannel s n.val with
    | none => true
    | some m => bit (uaiAt s m).diag.v 18 || !edgesHeld s n k m || rateChanged s n k m

/-- Ticks of a type 5 span on its speed channel. -/
def spanTicks (s : State) (n : Fin 16) (k : Nat) (m : Fin 16) : Nat :=
  let j := (vibAt s m).writeIndex.toNat
  edgeTick s m j - edgeTick s m (j - spanEdges s n k m)

/-- Index of the first sample of the span that ends at the newest sample (R211, R221). -/
def spanStart (s : State) (n : Fin 16) (k : Nat) : Nat :=
  let w := (vibAt s n).writeIndex.toNat
  match speedChannel s n.val with
  | some m =>
    if featFive s n k then
      let j := (vibAt s m).writeIndex.toNat
      min w ((edgeTick s m (j - spanEdges s n k m) * sampleRate s n.val + 9999999) / 10000000)
    else w + 1 - spanLen s n k
  | none => w + 1 - spanLen s n k

/-- The span stands whole in the ring, and no sample of it is older than the span is to be (R221, R223, R225). -/
def spanWhole (s : State) (n : Fin 16) (k : Nat) : Bool :=
  let w := (vibAt s n).writeIndex.toNat
  let from_ := max (ringOldest s n) (featAt s n k).since.toNat
  (vibAt s n).firstIndex.isSome &&
    if featFive s n k then decide (from_ ≤ spanStart s n k) else decide (from_ + spanLen s n k ≤ w + 1)

/-- The samples of the span, oldest first (R221). -/
def spanSamples (s : State) (n : Fin 16) (k : Nat) : List Word :=
  let i := spanStart s n k
  (List.range ((vibAt s n).writeIndex.toNat + 1 - i)).map fun d => ringGet s n.val (i + d)

/-- Some sample of the newest span is MISSING (R222). -/
def spanMissing (s : State) (n : Fin 16) (k : Nat) : Bool := (spanSamples s n k).any fun w => decide (w = missingCode)

/-! The values of R221, each computed exactly from the amplitudes of its lines and rounded once (log entry 10). -/

/-- The circle constant to 31 places. -/
def piRat : Rat := mkRat 31415926535897932384626433832795 (10 ^ 31)

/-- Hertz of a line: k × Δf; for type 5, k × 128 / LINES revolutions at the span's mean rate (R221). -/
def lineHz (s : State) (n : Fin 16) (k line : Nat) : Rat :=
  let lines := (cfgFeatLines s n.val k).toNat
  match speedChannel s n.val with
  | some m =>
    if featFive s n k then
      mkRat (line * 128 * spanEdges s n k m * 10000000) (lines * (cfgCapPulsesPerRev s m.val).toNat * spanTicks s n k m)
    else mkRat (line * sampleRate s n.val) (2 * lines)
  | none => mkRat (line * sampleRate s n.val) (2 * lines)

/-- A line counts: band B, or for type 5 the band of ORDER, neither past 0.39 × Fs (R221). -/
def inBand (s : State) (n : Fin 16) (k line : Nat) : Bool :=
  let f := lineHz s n k line
  decide (f ≤ mkRat (39 * sampleRate s n.val) 100) &&
  if featFive s n k then
    let lines := (cfgFeatLines s n.val k).toNat
    let order := fToRat (cfgFeatOrder s n.val k)
    decide (order ≤ mkRat ((line + 1) * 128 : Nat) lines ∧ mkRat (((line : Int) - 1) * 128) lines ≤ order)
  else decide (fToRat (cfgFeatBandLow s n.val k) ≤ f ∧ f ≤ fToRat (cfgFeatBandHigh s n.val k))

/-- 1 − x / (j + 1)(j + 2) × (1 − x / (j + 3)(j + 4) × (…)) to n factors: of x = a², the cosine of a from j = 0, and the sine
over a from j = 1. -/
def trigSeries (x : Rat) : Nat → Nat → Rat
  | 0, _ => 1
  | n + 1, j => 1 - x / ((j + 1) * (j + 2) : Nat) * trigSeries x n (j + 2)

/-- Cosine and sine of 2π m / n, by 40 terms of their series (log entry 10). -/
def turnOf (m n : Nat) : Rat × Rat :=
  let a : Rat := 2 * piRat * mkRat (m % n : Nat) n
  (trigSeries (a * a) 40 0, a * trigSeries (a * a) 40 1)

/-- The power of line k of one block: the squared RMS of the sinusoid that gives this line under the Hann window (R221). -/
def blockPower (xs : List Rat) (k : Nat) : Rat :=
  let n := xs.length
  let c := xs.zipIdx.foldl (fun (a : Rat × Rat) e =>
    let w := e.1 * (1 - (turnOf e.2 n).1) / 2
    let t := turnOf (k * e.2) n
    (a.1 + w * t.1, a.2 + w * t.2)) (0, 0)
  2 * (c.1 * c.1 + c.2 * c.2) / ((n : Rat) / 2 * ((n : Rat) / 2))

/-- A_k² or E_k²: the power of line k averaged over the blocks, which overlap by one half (R221). -/
def linePower (xs : List Rat) (lines averages k : Nat) : Rat :=
  ((List.range averages).map fun b => blockPower ((xs.drop (b * lines)).take (2 * lines)) k).sum / (averages : Rat)

/-- A raw code in m/s² (R220, R221). -/
def codeAccel (s : State) (n : Fin 16) (w : Rat) : Rat := w * mkRat 10 8388608 * 1000 / fToRat (cfgCapSensitivity s n.val)

/-- Place in the span, counted in samples, of angle sample j of a type 5 span: the shaft angle is interpolated linearly between
the edges of the speed channel (R221). -/
def anglePlace (s : State) (n : Fin 16) (k : Nat) (m : Fin 16) (j : Nat) : Rat :=
  let first := (vibAt s m).writeIndex.toNat - spanEdges s n k m
  let e := j * (cfgCapPulsesPerRev s m.val).toNat
  let a := edgeTick s m (first + e / 256)
  let b := edgeTick s m (first + e / 256 + 1)
  let t : Rat := (a : Rat) + ((b : Rat) - (a : Rat)) * mkRat (e % 256 : Nat) 256
  t * mkRat (sampleRate s n.val) 10000000 - (spanStart s n k : Rat)

/-- What a feature transforms: its span in m/s², for type 4 the envelope, for type 5 at 256 samples a revolution (R221). -/
def featSamples (s : State) (n : Fin 16) (k : Nat) : List Rat :=
  let span := spanSamples s n k
  match (cfgFeatFeatureType s n.val k).toNat, speedChannel s n.val with
  | 4, _ => (Config.envelope (cfgFeatEnvFilter s n.val k) (cfgCapCaptureRate s n.val) (cfgCapSensitivity s n.val) span).map fToRat
  | 5, some m => (List.range (spanLen s n k)).map fun j => codeAccel s n (Config.between span (anglePlace s n k m j))
  | _, _ => span.map fun w => codeAccel s n (sInt w : Rat)

/-- The lines of the band with the power of each (R221). -/
def bandLines (s : State) (n : Fin 16) (k : Nat) : List (Nat × Rat) :=
  let lines := (cfgFeatLines s n.val k).toNat
  (((List.range lines).map (· + 1)).filter (inBand s n k)).map fun line =>
    (line, linePower (featSamples s n k) lines (cfgFeatAverages s n.val k).toNat line)

/-- The square of a line's velocity in mm/s: (1 000 × A_k / 2πf_k)² (R221). -/
def lineVelocity2 (s : State) (n : Fin 16) (k : Nat) (a : Nat × Rat) : Rat :=
  let w := 2 * piRat * lineHz s n k a.1
  1000000 * a.2 / (w * w)

/-- √(Σ x / 1.5) of squares x (R221). -/
def bandRms (squares : List Rat) : Word := fRoot (squares.sum / mkRat 3 2)

/-- The largest code of the span, without its sign (R221). -/
def peakCode (s : State) (n : Fin 16) (k : Nat) : Nat :=
  (spanSamples s n k).foldl (fun m w => max m w.toInt.natAbs) 0

/-- The value of a feature by FEATURE_TYPE (R221). -/
def featValue (s : State) (n : Fin 16) (k : Nat) : Word :=
  match (cfgFeatFeatureType s n.val k).toNat with
  | 0 | 5 => bandRms ((bandLines s n k).map (lineVelocity2 s n k))
  | 2 => fOfRat ((peakCode s n k : Rat) * mkRat 10000 8388608 / fToRat (cfgCapSensitivity s n.val))
  | 3 =>
    let squares := ((spanSamples s n k).map fun w => w.toInt.natAbs * w.toInt.natAbs).sum
    if squares = 0 then fDiv f0 f0 else fRoot (mkRat (peakCode s n k * peakCode s n k * (spanSamples s n k).length : Nat) squares)
  | 6 => fRoot (((bandLines s n k).map (lineVelocity2 s n k)).foldl max 0)
  | _ => bandRms ((bandLines s n k).map Prod.snd)

/-- A feature is shed at the present level: KEEP 0 at REDUCED, KEEP 0 and 1 at EMERGENCY (R225). -/
def featShed (s : State) (n : Fin 16) (k : Nat) : Bool := decide ((cfgFeatKeep s n.val k).toNat < s.power.eff.toNat)

/-- The flags of the span's bias samples, those of the sample that stood at its beginning among them (R222; log entry 109). -/
def spanFlags (s : State) (n : Fin 16) (k : Nat) : Word :=
  let from_ := spanStart s n k
  let l := (vibAt s n).bias
  let inside := l.takeWhile fun e => decide (from_ < e.1)
  (inside ++ (l.drop inside.length).take 1).foldl (fun w e => w ||| e.2) 0

/-- A feature publishes, or is held for want of a speed; one not computed counts as a publication too (R221 to R223, R291; log
entry 111). -/
def publishFeat (s : State) (n : Fin 16) (k : Nat) : State :=
  let lost := speedLost s n k
  let q := flagsQuality (spanFlags s n k)
  s.modFeat n k fun f => { f with
    st := if lost then .heldNoSpeed else .running
    value := if lost then f.value else Pair.mk0 (featValue s n k)
    pubs := f.pubs + 1, pubAt := now s, lastAt := some (now s), at_ := (vibAt s n).newestAt
    missing := !lost && spanMissing s n k, noSpeed := lost
    quality := BitVec.ofNat 8 q.1, cause := BitVec.ofNat 8 q.2 }

/-- UPDATE_MS has passed since the last publication (R221). -/
def featDue (s : State) (n : Fin 16) (k : Nat) : Bool := match (featAt s n k).lastAt with
  | none => true
  | some t => decide (t + (cfgFeatUpdateMs s n.val k).toNat ≤ now s)

/-- FEATURE_UPDATE: the feature publishes, and its target point is to be evaluated. Without a whole fresh span there is nothing
to compute (R221 to R225, R292). -/
def execFeatureUpdate (ch : Fin 16) (k : Nat) (s : State) : Host.Outcome State Fault Refusal :=
  doIf (vibReady s && featUsed s ch k && !featShed s ch k && (featAt s ch k).st != .heldUnplaced && featDue s ch k &&
      (speedLost s ch k || spanWhole s ch k)) s
    (wakePoint (publishFeat s ch k) (cfgFeatTargetPoint s ch.val k).toNat)

/-- The span's duration in milliseconds, rounded up (R221, R223). -/
def spanMs (s : State) (n : Fin 16) (k : Nat) : Nat :=
  let bySamples := (spanLen s n k * 1000 + sampleRate s n.val - 1) / sampleRate s n.val
  match speedChannel s n.val with
  | some m => if featFive s n k && edgesHeld s n k m then (spanTicks s n k m + 9999) / 10000 else bySamples
  | none => bySamples

/-- FEATURE_STALE_TIMEOUT: nothing published within 3 × UPDATE_MS plus the span (R223). -/
def execFeatureStaleTimeout (ch : Fin 16) (k : Nat) (s : State) : Host.Outcome State Fault Refusal :=
  let f := featAt s ch k
  doIf (vibReady s && featUsed s ch k && (f.st == .running || f.st == .heldNoSpeed) &&
      decide (f.pubAt + 3 * (cfgFeatUpdateMs s ch.val k).toNat + spanMs s ch k ≤ now s)) s
    (s.modFeat ch k fun f => { f with st := .heldStale })

/-- The first index a fresh span may hold (R223, R225). -/
def freshFrom (s : State) (n : Fin 16) : BitVec 64 :=
  if (vibAt s n).firstIndex.isSome then (vibAt s n).writeIndex + 1 else 0

/-- A feature resumes, from a fresh span (R225). -/
def resumeFeat (s : State) (n : Fin 16) (k : Nat) : State :=
  s.modFeat n k fun f => { f with st := .running, since := freshFrom s n, pubAt := now s }

/-- Every feature follows the effective power level; one that resumes starts from a fresh span (R225). -/
def shedFeats (s : State) : State :=
  (List.finRange 16).foldl (fun s n => (List.range 64).foldl (fun s i =>
    let k := i + 1
    if featUsed s n k then
      if featShed s n k then s.modFeat n k fun f => { f with st := .heldShed }
      else if (featAt s n k).st == .heldShed then resumeFeat s n k
      else s
    else s) s) s

end Sys2Proof.Machine
end

