-- ==== Sys2Proof/Machine/Eval.lean ====
section
/-! DEFINITION. The evaluation of a point: its source, its quality, its publication, the alarm rules and the outputs that
follow it, and the commands that evaluate a point (R52, R58, R87, R265, R285 to R296). -/

namespace Sys2Proof.Machine
open Sys2Proof

/-! Configured values as task inputs (R52). -/

/-- Critical words of a field that fail against their complements. -/
def fieldBad (f : FieldVal) : List Pair :=
  if f.cs.isEmpty then [] else ((f.ws.zip f.cs).map fun x => (⟨x.1, x.2⟩ : Pair)).filter fun p => !p.ok

/-- Critical pairs of an entity that fail, the fields of `skip` left out. -/
def entBad (s : State) (sec key : Nat) (skip : List Nat) : List Pair := match cfgEnt s sec (some key) with
  | none => []
  | some e => (e.fields.filter fun f => !skip.contains f.1).flatMap fun f => fieldBad f.2

/-! Sources (R286, R287). -/

/-- What a source gives an evaluation. -/
structure SrcVal where
  /-- Path A's value. -/
  a : Word
  /-- Path B's value. -/
  b : Word
  /-- Contributions to the quality: code and cause (R289). -/
  quals : List (Nat × Nat) := []
  /-- Input pairs that fail (R52). -/
  bad : List Pair := []
  /-- Pairs of replica operands that fail (R60). -/
  rep : List Pair := []
  /-- A MISSING code stands in a feature's span (R222). -/
  missing : Bool := false
  /-- The last value is held under R188 or R223. -/
  keep : Bool := false
  /-- The value is the point's last value, already of its TYPE. -/
  last : Bool := false
  /-- R123 or R193 applies. -/
  suspect : Bool := false
  /-- Slots of a CALC list whose paths differ (R301). -/
  slotsBad : List Pair := []
  /-- The list's outcome. -/
  outcome : Option CResult := none
  /-- The time of the value (R291). -/
  at_ : Stamp
  deriving DecidableEq, Repr

/-- The point keeps its last value. -/
def keptSrc (l : LocalPt) (q : Nat × Nat) (keep : Bool) (t : Stamp) : SrcVal :=
  { a := l.pub.value.v, b := ~~~l.pub.value.c, quals := [q], bad := if l.pub.value.ok then [] else [l.pub.value]
    keep := keep, last := true, at_ := t }

/-- A pair read on both paths. -/
def pairSrc (p : Pair) (qs : List (Nat × Nat)) (t : Stamp) : SrcVal :=
  { a := p.v, b := ~~~p.c, quals := qs, bad := if p.ok then [] else [p], at_ := t }

/-- A channel that sent LOST, and is not READY again: an output's points take BAD (R98). -/
def chanLost (s : State) (i : Nat) : Bool := !chanReady s i && (fnAt s (fnKey 0x04 i)).everReady

/-- The value of a point with SOURCE CHANNEL (R192, R289). -/
def channelSrc (s : State) (l : LocalPt) (n : Nat) : SrcVal :=
  let u := uaiAt s ⟨n % 16, by omega⟩
  if !chanReady s n then keptSrc l (3, 0x01) false u.at_
  else
    let zero := zeroTrim s n
    let span := spanTrim s n
    let tab := cfgUaiTable s n
    let cj := (coldJunction s ⟨n % 16, by omega⟩ u.dieTemp).1
    let tc := decide ((chanMode u.mode).mode = 5)
    let bad := (([u.sample, u.diag, zero, span] ++ if tc then [cj] else []).filter fun p => !p.ok) ++ entBad s 5 n [0x2C, 0x2D] ++
      (if cfgUaiCharacteristic s n = 2 ∧ tab ≠ 0xFFFFFFFF then entBad s 6 tab.toNat [] else [])
    let fb := tableFallback s n
    let suspect := entSuspect s 5 n || fb
    if bit u.diag.v 16 && u.diag.ok then
      { keptSrc l (flagsQuality u.diag.v) true u.at_ with
        quals := [flagsQuality u.diag.v, hartLoopQuality s ⟨n % 20, by omega⟩], bad := bad ++ (if l.pub.value.ok then [] else [l.pub.value]), suspect := suspect }
    else
      let k := chanMode u.mode
      let val (code cj z g : Word) : Word := conditioned s n (inputValue k (cfgUaiLeadOhms s n) cj code) z g
      { a := val u.sample.v cj.v zero.v span.v, b := val (~~~u.sample.c) (~~~cj.c) (~~~zero.c) (~~~span.c)
        quals := [flagsQuality u.diag.v, hartLoopQuality s ⟨n % 20, by omega⟩]
        bad := bad, suspect := suspect, at_ := u.at_ }

/-! Discrete inputs (R257, R259, R265). -/

/-- A STATE_POINT from the state of DI n; OPEN and settling bear on this point alone (R257, R259; log entry 93). -/
def diStateSrc (s : State) (l : LocalPt) (n : Fin 16) : SrcVal :=
  let d := diAt s n
  let inv := decide (cfgDiInvert s n.val = 1)
  let val (on : Bool) : Word := if on != inv then f1 else f0
  let open_ : List (Nat × Nat) := if bit d.state.v 2 then [(3, 0x05)] else []
  if d.settling then { keptSrc l (1, 0) false d.at_ with quals := (1, 0) :: open_, bad := if d.state.ok then [] else [d.state] }
  else match d.held with
    | e :: _ => { a := val (bit e.on.v 0), b := val (bit (~~~e.on.c) 0), quals := open_
                  bad := [d.state, e.on].filter fun p => !p.ok, at_ := e.at_ }
    | [] => { a := val (bit d.state.v 0), b := val (bit (~~~d.state.c) 0), quals := open_
              bad := if d.state.ok then [] else [d.state], at_ := d.at_ }

/-- A TOTAL_POINT (R265). -/
def diTotalSrc (s : State) (n : Fin 16) : SrcVal :=
  let d := diAt s n
  let k := cfgDiPulseScale s n.val
  { a := fMul (fOfNat d.total.v.toNat) k, b := fMul (fOfNat (~~~d.total.c).toNat) k
    bad := if d.total.ok then [] else [d.total], at_ := d.at_ }

/-- Ticks of the 10 MHz acquisition clock in seconds, as a divisor of a value (R211, R265). -/
def perTicks (w : Word) (ticks : Nat) : Word := fDiv w (fRat (ticks : Nat) 10000000)

/-- The rate of DI n: n − 1 edges over the time between the first and the last counted, else the last rate lowered as time
passes (R265). -/
def diRate (s : State) (n : Fin 16) : Word :=
  let d := diAt s n
  let k := cfgDiPulseScale s n.val
  let since := match d.lastCounted with
    | some t => some (acqNow s - t).toNat
    | none => none
  let r := match d.edgeTicks.head?, d.edgeTicks.getLast? with
    | some x, some y =>
      if 2 ≤ d.edgeTicks.length ∧ x ≠ y then perTicks (fMul (fOfNat (d.edgeTicks.length - 1)) k) (x - y).toNat else d.lastRate
    | _, _ => d.lastRate
  match since with
  | none => f0
  | some t =>
    if (cfgDiRateTimeout s n.val).toNat * 10000 ≤ t then f0
    else if 2 ≤ d.edgeTicks.length then r
    else if t = 0 then r
    else
      let c := perTicks k t
      if fLt c r then c else r

/-- A RATE_POINT (R265). -/
def diRateSrc (s : State) (n : Fin 16) : SrcVal :=
  let d := diAt s n
  let r := diRate s n
  { a := r, b := r, at_ := d.at_ }

/-! Outputs read back (R246, R277). -/

/-- A READBACK_POINT (R246, R247). -/
def aoSrc (s : State) (n : Fin 4) : SrcVal :=
  let a := aoAt s n
  { pairSrc a.readback [aoQuality s n, hartLoopQuality s ⟨16 + n.val, by omega⟩] a.at_ with
    bad := [a.readback, a.diag].filter fun p => !p.ok }

/-- A STATUS_POINT: 1.0 while the terminal is energised (R277). -/
def doSrc (s : State) (n : Fin 8) : SrcVal :=
  let d := doAt s n
  let val (w : Word) : Word := if bit w 10 then f1 else f0
  { a := val d.diag.v, b := val (~~~d.diag.c), quals := [doQuality d], bad := if d.diag.ok then [] else [d.diag], at_ := d.at_ }

/-! Features, HART variables and CAN (R202, R222, R223, R296). -/

/-- The target point of feature k of UAI n (R222, R223). -/
def featSrc (s : State) (l : LocalPt) (n : Fin 16) (k : Nat) : SrcVal :=
  let f := featAt s n k
  let q : Nat × Nat := (f.quality.toNat, f.cause.toNat)
  match f.st with
  | .heldNoSpeed => keptSrc l (3, 0x0C) false f.at_
  | .running =>
    if f.missing then { keptSrc l (0, 0) false f.at_ with missing := true }
    else if f.pubs = 0 then keptSrc l (1, 0) true f.at_ else pairSrc f.value [q] f.at_
  | _ => keptSrc l (1, 0) true f.at_

/-- The target point of HART variable k of channel c (R202). -/
def hartSrc (s : State) (c : Fin 20) (k : Nat) : SrcVal :=
  let h := hartAt s c
  let v := vat h.vars ⟨(k - 1) % 8, by omega⟩
  pairSrc v (hartVarQuality s c k v.v) (vat h.varAt ⟨(k - 1) % 8, by omega⟩)

/-- Nothing has been accepted within the entry's timeout (R296, R484). -/
def mapTimedOut (s : State) (c e : Nat) (m : MapSt) : Bool := match m.lastAt with
  | none => true
  | some t => m.timedOut || decide (t + (cfgMapTimeoutMs s c e).toNat ≤ now s)

/-- The target point of a mapped-receive entry (R296, R483). -/
def mapSrc (s : State) (c : Fin 2) (e : Nat) : SrcVal :=
  let m := tgetD (vat s.can c).maps e {}
  pairSrc m.value ((if mapTimedOut s c.val e m then [(3, 0x14)] else []) ++ (if m.valueBad then [(3, 0x0B)] else [])) m.at_

/-- The entity that names point p as its target: section, key and field (R287). -/
def linkOf (s : State) (p : Nat) : Option (Nat × Nat × Nat) :=
  (namers s.cfg.run).find? fun x => decide ((namedBy s.cfg.run x).toNat = p)

/-- The channels whose samples feature key is computed from: its own, and SPEED_CHANNEL of an ORDER_VELOCITY feature (R221). -/
def featChans (s : State) (key : Nat) : List Nat :=
  let n := key / 65536
  let sp := cfgCapSpeedChannel s n
  if cfgFeatFeatureType s n (key % 65536) = 5 ∧ sp ≠ 0xFFFFFFFF then [n, sp.toNat] else [n]

/-- The value of a point with SOURCE LINKED (R123, R286, R287). -/
def linkedSrc (s : State) (l : LocalPt) (x : Nat × Nat × Nat) : SrcVal :=
  let key := x.2.1
  let r : SrcVal := match x.1 with
    | 5 =>
      if key < 20 then
        let n : Fin 4 := ⟨(key - 16) % 4, by omega⟩
        if chanLost s key then keptSrc l (3, 0x01) false (aoAt s n).at_ else aoSrc s n
      else if key < 36 then
        let n : Fin 16 := ⟨(key - 20) % 16, by omega⟩
        if !chanReady s key then keptSrc l (3, 0x01) false (diAt s n).at_
        else match x.2.2 with
          | 0x65 => diStateSrc s l n
          | 0x68 => diTotalSrc s n
          | _ => diRateSrc s n
      else
        let n : Fin 8 := ⟨(key - 36) % 8, by omega⟩
        if chanLost s key then keptSrc l (3, 0x01) false (doAt s n).at_ else doSrc s n
    | 12 => mapSrc s ⟨(key / 65536) % 2, by omega⟩ (key % 65536)
    | 17 =>
      let n : Fin 16 := ⟨(key / 65536) % 16, by omega⟩
      if !chanReady s n.val then keptSrc l (3, 0x01) false (featAt s n (key % 65536)).at_ else featSrc s l n (key % 65536)
    | _ =>
      let c : Fin 20 := ⟨(key / 65536) % 20, by omega⟩
      if (if c.val < 16 then !chanReady s c.val else chanLost s c.val) then keptSrc l (3, 0x01) false (hartAt s c).at_
      else hartSrc s c (key % 65536)
  let fields : List Nat := if x.1 = 5 then [key] else if x.1 = 12 then [] else if x.1 = 17 then featChans s key else [key / 65536]
  let extra := entBad s x.1 key [] ++ (if x.1 = 5 then [] else fields.flatMap fun f => entBad s 5 f [])
  { r with bad := r.bad ++ extra, suspect := r.suspect || fields.any (entSuspect s 5) }

/-! Lists and setpoints (R295, R299 to R302). -/

/-- Tables that a list's TAB steps name. -/
def listTables (s : State) (l : Nat) : List Nat :=
  (((cfgCalcStepsA s l).map cstep).filter fun c => decide (c.op = 0x12)).map (fun c => tableOf l c.k) |>.eraseDups

/-- OPERANDS words that no LDP step loads are no task input (R52). -/
def operandsBad (s : State) (l : Nat) : List Pair := match (cfgEnt s 10 (some l)).bind fun e => tget e.fields 2 with
  | none => []
  | some f =>
    let ps := (f.ws.zip f.cs).map fun x => (⟨x.1, x.2⟩ : Pair)
    ((loaded (cfgCalcStepsA s l)).eraseDups.filterMap fun k => ps[k]?).filter fun p => !p.ok

/-- The value of a point with SOURCE CALC (R299 to R302). -/
def calcSrc (s : State) (l : LocalPt) (k cls tick : Nat) : SrcVal :=
  let r := calcRun s k l.calcSt cls tick
  { a := r.a, b := r.b, quals := [r.qual]
    bad := r.bad ++ (l.calcSt.slots.toList.filter fun p => !p.ok) ++ operandsBad s k ++ entBad s 10 k [2] ++
      (listTables s k).flatMap fun t => entBad s 6 t []
    rep := r.rep
    suspect := entSuspect s 10 k || (listTables s k).any (tableSuspect s)
    slotsBad := (r.slots.filter fun x => decide (x.2.1 ≠ x.2.2)).map fun x => ⟨x.2.1, ~~~x.2.2⟩
    outcome := some r, at_ := stampNow s }

/-- SETPOINT that an evaluation uses: a new write, at the first evaluation the replica's value or INITIAL_VALUE, else the
value in use (R295). -/
def setpointOf (s : State) (p : Nat) (l : LocalPt) : Pair := match l.setpointNew with
  | some v => v
  | none =>
    if l.evaluated then l.setpoint
    else match tget s.canvas.replica p with
      | some r => r.pub.value
      | none => Pair.mk0 (cfgPtInitialValue s p)

/-- CHANNEL of point p names a UAI that is not OFF; without one the point has no source (R287). -/
def hasChannel (s : State) (p : Nat) : Bool :=
  decide ((cfgPtChannel s p).toNat < 16) && decide (cfgUaiMode s (cfgPtChannel s p).toNat ≠ 0)

/-- The value that the source of point p gives at tick t (R286). -/
def sourceOf (s : State) (p : Nat) (l : LocalPt) (tick : Nat) : SrcVal :=
  let none_ : SrcVal := { a := fNan, b := fNan, quals := [(3, 0x02)], at_ := stampNow s }
  let r : SrcVal := match (cfgPtSource s p).toNat with
    | 0 => if hasChannel s p then channelSrc s l (cfgPtChannel s p).toNat else none_
    | 1 => match linkOf s p with
      | some x => linkedSrc s l x
      | none => none_
    | 2 => match listOf s p with
      | some k => calcSrc s l k (cfgPtClass s p).toNat tick
      | none => none_
    | _ => pairSrc (setpointOf s p l) [] (stampNow s)
  { r with bad := r.bad ++ entBad s 7 p [] ++ entBad s 8 p [], suspect := r.suspect || entSuspect s 7 p || entSuspect s 8 p }

/-! Shaping (R285). -/

/-- Rounded to the nearest integer, ties to even. -/
def fRoundEven (w : Word) : Word := if !fIsFin w || fLe (fOfNat 8388608) (fAbs w) then fCanon w else fOfInt (fToInt w)

/-- A computed value as its TYPE publishes it (R285). -/
def shaped (s : State) (p : Nat) (w : Word) : Word := match (cfgPtType s p).toNat with
  | 1 => if fIsZero w || fIsNan w then f0 else f1
  | 2 => fRoundEven w
  | _ => fCanon w

/-- A MULTISTATE value outside its states (R285). -/
def rangeQual (s : State) (p : Nat) (w : Word) : List (Nat × Nat) :=
  if cfgPtType s p = 2 ∧ ¬(fLe f0 w = true ∧ fLt w (fOfNat (cfgPtStateCount s p).toNat) = true) then [(3, 0x0B)] else []

/-! May a point be evaluated (R87). -/

/-- The input channels of point p, by READY index (R83, R87). -/
def inputChans (s : State) (p : Nat) : List Nat := match (cfgPtSource s p).toNat with
  | 0 => if hasChannel s p then [(cfgPtChannel s p).toNat] else []
  | 1 => match linkOf s p with
    | some (5, key, _) => if 20 ≤ key ∧ key < 36 then [key] else []
    | some (17, key, _) => featChans s key
    | some (18, key, _) => if key / 65536 < 16 then [key / 65536] else []
    | _ => []
  | _ => []

/-- A point may have its first evaluation (R87). -/
def mayStart (s : State) (p : Nat) : Bool :=
  (inputChans s p).all (chanReady s) && fnReady s 0x0A 0 && (fnReady s 0x09 0 || s.sys.deadlinePassed)

/-! What follows a publication. -/

/-- The outputs that point p commands (R235, R236, R267). -/
def commandOuts (s : State) (p : Nat) (v : Word) (q : Nat) (fail : Bool) : State :=
  let ao (s : State) (n : Fin 4) : State :=
    if cfgAoRole s n.val ≠ 0 ∧ (cfgAoCommandPoint s n.val).toNat = p then (if fail then failAo s n else formAo s n v q) else s
  let dq (s : State) (n : Fin 8) : State :=
    if cfgDoRole s n.val ≠ 0 ∧ (cfgDoCommandPoint s n.val).toNat = p then (if fail then failDo s n else formDo s n v q) else s
  (List.finRange 8).foldl dq ((List.finRange 4).foldl ao s)

/-- The commands that path A of point p's task forms for its outputs (R56, R235, R267). -/
def outWords (s : State) (p : Nat) (v : Word) (q : Nat) : List Word :=
  ((List.finRange 4).filterMap fun n =>
    if cfgAoRole s n.val ≠ 0 ∧ (cfgAoCommandPoint s n.val).toNat = p then (aoCommand s n v q).2 else none) ++
  ((List.finRange 8).filterMap fun n =>
    if cfgDoRole s n.val ≠ 0 ∧ (cfgDoCommandPoint s n.val).toNat = p then (doCommand s n v q).2.map w32 else none)

/-- New wake bounds of the channel that point p is conditioned from (R29; log entry 11). -/
def putBounds (s : State) (p : Nat) (v q : Word) : State :=
  let c := (cfgPtChannel s p).toNat
  if h : c < 16 then
    let n : Fin 16 := ⟨c, h⟩
    let m := bits (uaiAt s n).mode 3 0
    if cfgPtSource s p = 0 ∧ m ≠ 7 ∧ m ≠ 8 ∧ chanReady s c = true then
      { s with gauze := { s.gauze with
          low := vmod s.gauze.low n fun _ => Pair.mk0 (Config.wakeLow c v q)
          high := vmod s.gauze.high n fun _ => Pair.mk0 (Config.wakeHigh c v q) } }
    else s
  else s

/-- Tasks have ended: their engines run them no longer (R25, R44). -/
def endTasks (s : State) (l : List Nat) : State :=
  { s with quads := s.quads.map fun q => { q with running := q.running.filter fun n => !l.contains n }
           gauze := { s.gauze with due := s.gauze.due.filter fun n => !l.contains n } }

/-- The task's record and measures after an evaluation (R380, R390). -/
def noteTask (s : State) (p : Nat) (cls : Nat) (ev : EvalIn) : State :=
  let f (t : Task) : Task :=
    if isPointTask s p t then { t with
      hist := (ev.cycles :: t.hist).take 1000
      lastDue := if ev.due then ev.tick / classTicks cls else t.lastDue
      extras := (if ev.due then [] else [now s]) ++ t.extras.filter fun x => decide (now s < x + 10000)
      scan := t.scan + 1, recordHit := false
      result := match tget s.points p with
        | some l => pws l.pub.value
        | none => t.result }
    else t
  let ended := (s.canvas.tasks.filter fun t => isPointTask s p t.2).map Prod.fst
  endTasks { s with canvas := { s.canvas with tasks := tmap s.canvas.tasks fun _ t => f t } } ended

/-- Inputs consumed: the DI edge and the RATE_POINT's edges (R257, R265). -/
def consume (s : State) (p : Nat) : State := match (cfgPtSource s p).toNat with
  | 1 => match linkOf s p with
    | some (5, key, fld) =>
      if 20 ≤ key ∧ key < 36 ∧ chanReady s key = true then
        let n : Fin 16 := ⟨(key - 20) % 16, by omega⟩
        match fld with
        | 0x65 => s.modDi n fun d => { d with held := d.held.tail }
        | 0x69 => s.modDi n fun d => { d with lastRate := diRate s n, edgeTicks := [] }
        | _ => s
      else s
    | _ => s
  | _ => s

/-- Failing pairs that Gauze found first: the sample of a channel it compares (R30, R546). -/
def gauzeFound (s : State) (p : Nat) (bad : List Pair) : Nat :=
  let c := (cfgPtChannel s p).toNat
  if h : c < 16 then
    let u := uaiAt s ⟨c, h⟩
    let m := bits u.mode 3 0
    if cfgPtSource s p = 0 ∧ m ≠ 7 ∧ m ≠ 8 ∧ !u.sample.ok ∧ bad.contains u.sample then 1 else 0
  else 0

/-- Input pairs have failed: each counted once, at the consumer that found it first, recorded, INTEGRITY raised (R58, R60, R545,
R546). -/
def inputFail (s : State) (p : Nat) (r : SrcVal) : State :=
  let eng := ((pointEngine s p).map Fin.val).getD 0xFF
  let s1 := { s with alarms := { s.alarms with integritySubject := pointSubject s p } }
  let s2 := perfAdd (engineCount s1 p 9) 0x9100 (r.bad.length - gauzeFound s p r.bad)
  sysRaise (stage0 (perfAdd s2 0x9200 r.rep.length) (pairRec s1 0 eng (pointSubject s p) (r.bad ++ r.rep))) 0x06

/-! The evaluation (R52, R58, R285 to R296). -/

/-- What an evaluation decides before it publishes. -/
structure Verdict where
  /-- The value pair. -/
  value : Pair
  /-- Quality code and cause. -/
  q : Nat × Nat
  /-- An input pair failed. -/
  badIn : Bool
  /-- The paths disagree, with the pairs that show it. -/
  split : List Pair
  deriving DecidableEq, Repr

/-- The verdict on a source's value (R58, R285, R289). -/
def verdict (s : State) (p : Nat) (l : LocalPt) (r : SrcVal) (upset : Word) : Verdict :=
  let va := if r.last then r.a else shaped s p r.a
  let vb := (if r.last then r.b else shaped s p r.b) ^^^ upset
  let badIn := !r.bad.isEmpty || !r.rep.isEmpty || r.missing
  let split := (if va = vb then [] else [⟨va, ~~~vb⟩]) ++ r.slotsBad
  if badIn then { value := l.pub.value, q := (4, 0), badIn := true, split := [] }
  else if !split.isEmpty then { value := ⟨va, ~~~vb⟩, q := (4, 0), badIn := false, split := split }
  else
    let w := worstOf (r.quals ++ if r.last then [] else rangeQual s p va)
    { value := ⟨va, ~~~vb⟩, q := if w.1 = 0 ∧ r.suspect = true then (1, 0) else w, badIn := false, split := [] }

/-- The publication of an evaluation (R294, R311). -/
def pubOf (r : SrcVal) (v : Verdict) (old : Pub) : Pub :=
  { old with
    value := v.value, quality := Pair.mk0 (qualityWord v.q.2 (r.keep && decide (v.q.1 ≠ 4)) r.suspect v.q.1)
    cycle := r.at_.cycle, opMs := r.at_.ms, wall := r.at_.wall, wallQ := r.at_.q }

/-- The record of the point after the evaluation, its alarm state apart. -/
def evalPt (s : State) (p : Nat) (r : SrcVal) (v : Verdict) (ev : EvalIn) (l : LocalPt) : LocalPt :=
  let fail := decide (v.q.1 = 4)
  let c : CalcSt := match r.outcome with
    | some x =>
      if v.badIn then l.calcSt else { (if fail then l.calcSt else putSlots l.calcSt x) with lastTick := some ev.tick }
    | none => l.calcSt
  { l with
    evaluated := true, marked := false, evalCount := l.evalCount + 1, pub := pubOf r v l.pub, calcSt := c
    setpoint := if cfgPtSource s p = 3 then setpointOf s p l else l.setpoint, setpointNew := none
    hit := false }

/-- ALARM_STATE is published with the value (R325). -/
def publishState (s : State) (p : Nat) : State :=
  s.modPoint p fun l => { l with pub := { l.pub with alarm := l.alarm.stateWord } }

/-- A group is READY once every local point of it has been evaluated or marked; group 0 without one at once (R83, R89). -/
def groupDone (s : State) (g : Nat) : Bool :=
  (s.points.filter fun e => !e.2.byDuty && decide (groupOf s e.1 = g)).all fun e => e.2.evaluated || e.2.marked

/-- The words of the task record of point p's task beside its state slots (R390): the due instant, the delay timers, the ROC
history, the estimator window, the Damask table and the actions held. -/
def recordWords (l : LocalPt) (due : Nat) : List Word :=
  let a := l.alarm
  let act (h : HeldAct) : List Word := match h.act with
    | .ack q => [0, q.setWidth 32]
    | .shelve m => [1, m.setWidth 32]
    | .unshelve => [2, 0]
    | .oosOn => [3, 0]
    | .oosOff => [4, 0]
    | .adaptRestart => [5, 0]
  w32 due :: (a.conds.toList.flatMap fun c => [flag 0 c.raw ||| flag 1 c.active ||| flag 2 c.running ||| flag 3 c.held, w32 c.run]) ++
    (a.kept.flatMap fun k => [w32 k.1, k.2.1, flag 0 k.2.2]) ++ (a.estim.flatMap fun e => [e.1, flag 0 e.2]) ++
    (a.roots.flatMap fun r => [r.root.setWidth 32, w32 r.obs, r.history.extractLsb' 32 32, r.history.extractLsb' 0 32]) ++
    a.held.flatMap act

/-- The task that evaluates point p. -/
def taskOf (s : State) (p : Nat) : Task := ((s.canvas.tasks.find? fun t => isPointTask s p t.2).map Prod.snd).getD {}

/-- The task record written at the end of an evaluation, as C-pairs (R49, R390). -/
def writeRecord (s : State) (p : Nat) : State :=
  let due := (taskOf s p).lastDue
  s.modPoint p fun l => { l with record := l.calcSt.slots.toList ++ (recordWords l due).map Pair.mk0 }

/-- Failing pairs of the task record as the evaluation reads it: its own, struck by an upset, or poisoned (R52, R70, R390). -/
def recordBad (s : State) (p : Nat) (l : LocalPt) (up : Word) : List Pair :=
  let ps := l.record.modify 0 fun x => ⟨x.v, x.c ^^^ up⟩
  let rd := if (taskOf s p).recordHit then ps.modify 0 unread else ps
  (rd.drop 4 ++ rd.take 4).filter fun x => !x.ok

/-- The pairs in which the paths' decisions disagree: the alarm state word and the commands, formed as (A, not B) (R52, R56). -/
def decisionSplit (s : State) (p : Nat) (v : Verdict) (e : EvalRes) (first : Bool) (ev : EvalIn) : List Pair :=
  let st := match tget (alarmEval s p e first false).points p with
    | some l => l.alarm.stateWord.v
    | none => 0
  (if ev.upState = 0 then [] else [pairUpset st ev.upState]) ++
    if ev.upOut = 0 then [] else (outWords s p v.value.v v.q.1).map fun w => pairUpset w ev.upOut

/-- The whole of an evaluation of point p (R52, R56, R58, R87, R285 to R296, R390). -/
def evalRun (s : State) (p : Nat) (l : LocalPt) (ev : EvalIn) : State :=
  let r0 := sourceOf s p l ev.tick
  let r := { r0 with bad := r0.bad ++ recordBad s p l ev.upRec }
  let v0 := verdict s p l r ev.upset
  let cls := (cfgPtClass s p).toNat
  let s1 := consume s p
  let e0 : EvalRes := { v := v0.value.v, q := v0.q.1, keep := r.keep, tick := ev.tick, due := ev.due }
  let more := if v0.q.1 = 4 then [] else decisionSplit (s1.modPoint p (evalPt s p r v0 ev)) p v0 e0 (!l.evaluated) ev
  let v := if more.isEmpty then v0 else { v0 with q := (4, 0), split := more }
  let fail := decide (v.q.1 = 4)
  let s2 := s1.modPoint p (evalPt s p r v ev)
  let s3 := engineCount (noteTask s2 p cls ev) p 7
  let s4 := if v.badIn then inputFail s3 p r else if fail then pathsDisagree s3 p v.split else s3
  let e : EvalRes := { v := v.value.v, q := v.q.1, keep := r.keep, tick := ev.tick, due := ev.due }
  let s5 := writeRecord (publishState (alarmEval s4 p e (!l.evaluated) fail) p) p
  let s6 := if l.byDuty then s5 else commandOuts s5 p v.value.v v.q.1 fail
  let s7 := putBounds s6 p v.value.v (w32 v.q.1)
  notePower (publishDelta s7 p)

/-- The points of node x that its image lets another node evaluate (R410). -/
def imagePoints (t : Tab Sect) : List Nat :=
  ((tabEnts t 7).filter fun e => decide (e.2.w 3 0 = 2 ∨ e.2.w 3 0 = 3)).map Prod.fst

/-- The points of peers that this node evaluates by duty, or is to (R379, R410). -/
def dutyPoints (s : State) : List Nat :=
  ((s.cfg.duty.flatMap fun d => imagePoints d.2).filter fun p => match tget s.points p with
    | some l => l.byDuty
    | none => true).eraseDups

/-- A point that this node begins to evaluate; the count of its evaluations here goes on (R310). -/
def takePoint' (byDuty : Bool) (s : State) (p : Nat) : State :=
  if (tget s.points p).isSome then s
  else { s with points := tset s.points p { byDuty := byDuty, evalCount := (tgetD s.canvas.replica p {}).evals } }

/-- An evaluation of point p, where this node evaluates it and it may be evaluated; a point by duty begins with its first, once
its task is placed, and is the replica's until then (R75, R87, R292, R384, R405, R412). -/
def evalPoint (s : State) (p : Nat) (ev : EvalIn) : State := match tget s.points p with
  | none =>
    if !s.dram.failed && (dutyPoints s).contains p && (pointEngine s p).isSome then
      let t := takePoint' true s p
      evalRun t p (tgetD t.points p {}) ev
    else s
  | some l => if !s.dram.failed && (l.evaluated || l.byDuty || (ev.due && mayStart s p)) then evalRun s p l ev else s

/-! The order within a scan (R292, R293). -/

/-- The scan of point p's class that a tick lies in. -/
def scanOf (s : State) (p tick : Nat) : Nat := tick / classTicks (cfgPtClass s p).toNat

/-- The points of this node of point p's own class that its list reads and that the scan has not evaluated yet (R293). -/
def scanDeps (s : State) (p n : Nat) : List Nat :=
  if cfgPtSource s p ≠ 2 then []
  else match listOf s p with
    | none => []
    | some k => (((cfgCalcOperands s k).map fun w => bits w 15 0).eraseDups).filter fun x => match tget s.points x with
      | some l => decide (x ≠ p) && decide (cfgPtClass s x = cfgPtClass s p) && decide (l.scanNo ≠ some n)
      | none => false

/-- Transitions held for point p, where it is a STATE_POINT (R257). -/
def heldCount (s : State) (p : Nat) : Nat := match linkOf s p with
  | some (5, key, 0x65) => if cfgPtSource s p = 1 ∧ 20 ≤ key ∧ key < 36 then (diAt s ⟨(key - 20) % 16, by omega⟩).held.length else 0
  | _ => 0

/-- The evaluations of n transitions of point p, back to back (R257, R292). -/
def evalHeld (p tick : Nat) : Nat → State → State
  | 0, s => s
  | n + 1, s => match tget s.points p with
    | none => s
    | some l => evalHeld p tick n (if !s.dram.failed && (l.evaluated || l.byDuty || mayStart s p) then
        evalRun s p l { tick := tick, due := false, upset := 0, cycles := 0 } else s)

/-- A due evaluation of point p in its turn: the points of its class that it reads first, then the transitions it holds, then
itself; `early` where it is made ahead of its own command (R292, R293). -/
def evalTurn (ev : EvalIn) : Nat → Bool → Nat → State → State
  | 0, _, _, s => s
  | f + 1, early, p, s =>
    let n := scanOf s p ev.tick
    let ev0 : EvalIn := { tick := ev.tick, due := true, upset := 0, cycles := 0 }
    let s1 := (scanDeps s p n).foldl (fun s x => evalTurn ev f true x s) s
    let s2 := evalHeld p ev.tick (heldCount s1 p) s1
    (evalPoint s2 p (if early then ev0 else ev)).modPoint p fun l =>
      if l.evaluated then { l with scanNo := some n, early := if early then some n else none } else l

/-- A due evaluation, unless its scan has made it already ahead of it; any other evaluation at once (R292, R293). -/
def evalDue (s : State) (p : Nat) (ev : EvalIn) : State :=
  if !ev.due then evalPoint s p ev
  else if (tget s.points p).any fun l => decide (l.early = some (scanOf s p ev.tick)) then s.modPoint p fun l => { l with early := none }
  else evalTurn ev 1025 false p s

/-! Commands that evaluate a point. -/

/-- POINT_EVALUATION (R292). -/
def execPointEvaluation (p : BitVec 16) (ev : EvalIn) (s : State) : Host.Outcome State Fault Refusal :=
  doIf (up s) s (evalDue s p.toNat ev)

/-- DELAY_EXPIRY: the evaluation at which a delay has run out (R317). -/
def execDelayExpiry (p : BitVec 16) (cond : Fin 7) (ev : EvalIn) (s : State) : Host.Outcome State Fault Refusal :=
  match tget s.points p.toNat with
  | none => .next s
  | some l => doIf (up s && (vat l.alarm.conds cond).running) s (evalPoint s p.toNat ev)

/-- A release delay of the point has run out. -/
def releaseOver (s : State) (a : AlarmSt) : Bool :=
  let o := (recMs s).toNat
  let f (u : Supp) : Bool := match u.relEnd with
    | some t => decide (t ≤ o)
    | none => false
  f a.own || f a.grp

/-- RELEASE_DELAY_EXPIRY: the evaluation at which a release delay has run out (R321). -/
def execReleaseDelayExpiry (p : BitVec 16) (ev : EvalIn) (s : State) : Host.Outcome State Fault Refusal :=
  match tget s.points p.toNat with
  | none => .next s
  | some l => doIf (up s && releaseOver s l.alarm) s (evalPoint s p.toNat ev)

/-- The 60 s of a source that is not usable have run out. -/
def holdOver (s : State) (a : AlarmSt) : Bool :=
  let o := (recMs s).toNat
  let f (u : Supp) : Bool := match u.heldAt with
    | some t => u.supp && decide (t + 60000 ≤ o)
    | none => false
  f a.own || f a.grp

/-- SUPPRESS_HOLD_EXPIRY (R322). -/
def execSuppressHoldExpiry (p : BitVec 16) (ev : EvalIn) (s : State) : Host.Outcome State Fault Refusal :=
  match tget s.points p.toNat with
  | none => .next s
  | some l => doIf (up s && holdOver s l.alarm) s (evalPoint s p.toNat ev)

/-- An action arrives for point p: it waits, and calls for an extra evaluation (R325, R326). -/
def actPoint (s : State) (p : Nat) (a : AlarmAct) (ev : EvalIn) : State :=
  evalPoint (queueAct s p a) p { ev with due := false }

/-- ACK (R326). -/
def execAck (r : Req) (p : BitVec 16) (seq : BitVec 16) (ev : EvalIn) (s : State) : Host.Outcome State Fault Refusal :=
  doIf (may s r 1) s (actPoint s p.toNat (.ack seq) ev)

/-- SHELVE (R326). -/
def execShelve (r : Req) (p : BitVec 16) (minutes : BitVec 12) (ev : EvalIn) (s : State) : Host.Outcome State Fault Refusal :=
  doIf (may s r 1) s (actPoint s p.toNat (.shelve minutes) ev)

/-- UNSHELVE (R326). -/
def execUnshelve (r : Req) (p : BitVec 16) (ev : EvalIn) (s : State) : Host.Outcome State Fault Refusal :=
  doIf (may s r 1) s (actPoint s p.toNat .unshelve ev)

/-- OOS_ON (R326). -/
def execOosOn (r : Req) (p : BitVec 16) (ev : EvalIn) (s : State) : Host.Outcome State Fault Refusal :=
  doIf (may s r 2) s (actPoint s p.toNat .oosOn ev)

/-- OOS_OFF (R326). -/
def execOosOff (r : Req) (p : BitVec 16) (ev : EvalIn) (s : State) : Host.Outcome State Fault Refusal :=
  doIf (may s r 2) s (actPoint s p.toNat .oosOff ev)

/-- ADAPT_RESTART (R326). -/
def execAdaptRestart (r : Req) (p : BitVec 16) (ev : EvalIn) (s : State) : Host.Outcome State Fault Refusal :=
  doIf (may s r 2) s (actPoint s p.toNat .adaptRestart ev)

/-- A write to SETPOINT of point p (R60, R284, R295, R490). -/
def putSetpoint (s : State) (p : Nat) (v : Pair) : State := match tget s.points p with
  | none => s
  | some l =>
    if cfgPtSource s p ≠ 3 then s
    else if !v.ok then pairFail s 5 (pointSubject s p) [v]
    else
      let old := l.setpointNew.getD l.setpoint
      stage (s.modPoint p fun l => { l with setpointNew := some v }) (mkRec s .e 0x16 (pointSubject s p) 0 (pws old ++ pws v))

/-- SETPOINT_WRITE (R295). -/
def execSetpointWrite (r : Req) (p : BitVec 16) (v : Pair) (s : State) : Host.Outcome State Fault Refusal :=
  doIf (may s r 2) s (putSetpoint s p.toNat v)

/-- MAPPED_TIMEOUT: no frame accepted within the entry's timeout (R296, R484). -/
def execMappedTimeout (c : Fin 2) (e : Nat) (s : State) : Host.Outcome State Fault Refusal :=
  let m := tgetD (vat s.can c).maps e {}
  doIf (up s && cfgHas s 12 (c.val * 65536 + e) && decide (1 ≤ e) && mapTimedOut s c.val e m) s
    (wakePoint (s.modCan c fun k => { k with maps := tset k.maps e { m with timedOut := true } }) (cfgMapTargetPoint s c.val e).toNat)

/-! ALARM as received (R342, R407). -/

/-- The pairs of an ALARM's header words. -/
def alarmHead (ws : List Word) : List Pair :=
  [⟨ws.getD 0 0, ws.getD 2 0⟩, ⟨ws.getD 1 0, ws.getD 3 0⟩, ⟨ws.getD 4 0, ws.getD 5 0⟩, ⟨ws.getD 6 0, ws.getD 7 0⟩]

/-- The sender owns the point, and a node of lower number owns it too: it loses the conflict (R407). -/
def losesConflict (s : State) (src p : Nat) : Bool :=
  ownsPoint s src p && (knownNodes s).any fun n => decide (n < src) && ownsPoint s n p

/-- An ALARM's state of a peer's point in the replica (R330, R335, R342). -/
def alarmEntry (s : State) (src : Nat) (ws : List Word) : Option RepPt → RepPt
  | old =>
    let g (i : Nat) : Word := ws.getD i 0
    let o : RepPt := match old with
      | some r => r
      | none => { holder := BitVec.ofNat 8 src
                  pub := { value := ⟨g 8, g 9⟩, quality := ⟨g 10, g 11⟩, cycle := (g 14).extractLsb' 8 24
                           opMs := (g 15).extractLsb' 0 16 ++ g 16, wall := g 17 ++ g 18, wallQ := (g 19).extractLsb' 0 2 } }
    let seq := (g 4).extractLsb' 16 16
    if old.isSome && o.seq != seq && !tseqNewer seq o.seq then o
    else
      let n := bits (g 1) 31 24
      let onset := decide (bits (g 1) 23 16 = 1) && decide (n < 6) && decide (bits o.pub.alarm.v 13 8 = 0)
      { o with
        seq := seq, pub := { o.pub with alarm := ⟨g 6, g 7⟩ }, group := (g 1).extractLsb' 8 8
        limits := if n < 7 then tset o.limits n ⟨g 12, g 13⟩ else o.limits
        prios := if n < 7 then tset o.prios n ((g 1).extractLsb' 4 4) else o.prios
        folded := if n < 7 then (if bit (g 4) 14 then o.folded ||| (1#7 <<< n) else o.folded &&& ~~~(1#7 <<< n)) else o.folded
        onset := if onset then some (recMs s).toNat else o.onset
        onsetWall := if onset then (if bits (g 19) 1 0 = 2 then some (g 17 ++ g 18) else none) else o.onsetWall }

/-- A SYSTEM condition of another node (R349). -/
def sysEntry (s : State) (ws : List Word) : State :=
  let k := bits (ws.getD 0 0) 23 16 * 64 + bits (ws.getD 0 0) 5 0
  let w : Pair := ⟨ws.getD 6 0, ws.getD 7 0⟩
  let newer := match tget s.alarms.peerSys k with
    | none => true
    | some o => (o.v.extractLsb' 16 16 : BitVec 16) == w.v.extractLsb' 16 16 ||
        tseqNewer (w.v.extractLsb' 16 16) (o.v.extractLsb' 16 16)
  if newer then { s with alarms := { s.alarms with peerSys := tset s.alarms.peerSys k w } } else s

/-- An ALARM from another node (R331, R342, R356, R407; log entry 53). -/
def takeAlarm (s : State) (src : Nat) (ws : List Word) : State :=
  let bad := (alarmHead ws).filter fun p => !p.ok
  let p := bits (ws.getD 0 0) 15 0
  if !bad.isEmpty then pairFail s 6 (ws.getD 0 0) bad
  else if bits (ws.getD 0 0) 31 24 = 1 then alarmEffects (sysEntry s ws) ws
  else if losesConflict s src p then s
  else if (tget s.points p).isSome then alarmEffects s ws
  else
    let e := alarmEntry s src ws (tget s.canvas.replica p)
    let w := ws.getD 1 0
    let s := if bits w 23 16 = 1 ∧ bits w 31 24 < 7 ∧ bits w 3 0 = 1 then noteTrigger s p else s
    let s := { s with canvas := { s.canvas with replica := tset s.canvas.replica p e } }
    alarmEffects (if bits w 23 16 = 1 ∧ e.onset = some (recMs s).toNat then
      oweObservations p (recMs s).toNat e.onsetWall s else s) ws

/-- ALARM_RECEIVE (R342). -/
def execAlarmReceive (src : Fin 64) (payload : List Word) (s : State) : Host.Outcome State Fault Refusal :=
  doIf (up s && decide (payload.length = 22) && decide (src.val ≠ nodeNum s)) s (takeAlarm s src.val payload)

end Sys2Proof.Machine
end

