-- ==== Sys2Proof/Machine/Quads.lean ====
section
/-! DEFINITION. The fabric, the quads, Gauze's slots, the memories' errors, shadow executions and third runs, and the power
level (R15 to R38, R64 to R72). -/

namespace Sys2Proof.Machine
open Sys2Proof

/-! Quads (R19, R25). -/

/-- Quad q. -/
def quadAt (s : State) (q : Fin 4) : Quad := vat s.quads q

/-- Engine e. -/
def engineAt (s : State) (e : Fin 16) : Engine := vat s.engines e

/-- What the effective decision says of engine e. -/
def engPl (s : State) (e : Fin 16) : EngPl := vat s.canvas.eng e

/-- The state with Canvas's record of engine e passed through f. -/
def State.modEngPl (s : State) (e : Fin 16) (f : EngPl → EngPl) : State :=
  { s with canvas := { s.canvas with eng := vmod s.canvas.eng e f } }

/-- The state with Canvas's record of quad q passed through f. -/
def State.modQuadPl (s : State) (q : Fin 4) (f : QuadPl → QuadPl) : State :=
  { s with canvas := { s.canvas with quad := vmod s.canvas.quad q f } }

/-- An immediate round is triggered (R382). -/
def roundSoon (s : State) : State := { s with canvas := { s.canvas with roundDue := true } }

/-- The quad runs tasks: SLEEP or RUN (R381). -/
def QuadState.inService : QuadState → Bool
  | .sleep => true
  | .run => true
  | _ => false

/-- The quad's controller computes decisions: SLEEP, RUN or DRAIN (R386). -/
def QuadState.counts : QuadState → Bool
  | .sleep => true
  | .run => true
  | .drain => true
  | _ => false

/-- Requests to the quad complete as ABSENT (R21). -/
def QuadState.gone : QuadState → Bool
  | .off => true
  | .reset => true
  | .update => true
  | .failed => true
  | _ => false

/-- The next quad epoch: 0xFFFF passes to 0x0001 (R19). -/
def nextEpoch (e : BitVec 16) : BitVec 16 := if e = 0xFFFF then 1 else e + 1

/-- The quad enters RESET: a new epoch, its memory zero (R17, R19, R25). -/
def Quad.toReset (x : Quad) : Quad :=
  { x with st := .reset, epoch := nextEpoch x.epoch, running := [], pllLock := false, tries := 0, drainTo := none
           drainHold := false, isolated := false, memory := [] }

/-- The quad enters OFF (R19, R25). -/
def Quad.toOff (x : Quad) (t : Nat) : Quad :=
  { x with st := .off, epoch := nextEpoch x.epoch, running := [], pllLock := false, drainTo := none, faultAt := t }

/-! The fabric (R18 to R24). -/

/-- The epoch of a unit: 0x0000 for one that is no quad (R20). -/
def unitEpoch (s : State) : FabUnit → BitVec 16
  | .quad q => (quadAt s q).epoch
  | _ => 0

/-- The unit is a quad that has left service. -/
def unitGone (s : State) : FabUnit → Bool
  | .quad q => (quadAt s q).st.gone
  | _ => false

/-- A completion is delivered to its requester; one whose requester has a new epoch is discarded, and such an ABSENT is
none that ABSENT_COUNT counts (R18, R22, R47; log entry 95). -/
def completeReq (s : State) (r : FabReq) (absent : Bool) (data : List (Word × Bool)) : State :=
  if unitEpoch s r.req ≠ r.reqEpoch then
    perfAdd { s with fabric := { s.fabric with staleCount := satInc s.fabric.staleCount } } 0x2003 1
  else
    let s1 := { s with fabric := { s.fabric with done := ({ id := r.id, absent := absent, data := data } :: s.fabric.done).take 16 } }
    if absent then perfAdd { s1 with fabric := { s1.fabric with absentCount := satInc s1.fabric.absentCount } } 0x2002 1 else s1

/-- Words from byte address a on that one beat holds: it ends at the next multiple of 128 bits (R18). -/
def beatRoom (a : Nat) : Nat := 4 - a / 4 % 4

/-- The 64-bit words of DRAM that n words from byte address a touch. -/
def dramTouched (a n : Nat) : List Nat := ((List.range n).map fun i => (a + 4 * i) / 8 * 8).eraseDups

/-- Words of DRAM marked poisoned (R70). -/
def poisonWords (s : State) (l : List Nat) : State :=
  { s with dram := { s.dram with poisoned := l.foldl (fun p a => (p.filter fun x => decide (x < a)) ++ a :: p.filter fun x => decide (a < x)) s.dram.poisoned } }

/-- Words written to DRAM at byte address a: a 64-bit word written in full is poisoned no longer (R70). -/
def dramWrite (s : State) (a : Nat) (ws : List Word) : State :=
  { s with dram := { s.dram with
      bytes := memSetWords ramByte s.dram.bytes a ws
      poisoned := s.dram.poisoned.filter fun p => !(decide (a ≤ p) && decide (p + 8 ≤ a + 4 * ws.length)) } }

/-- An accepted write takes effect in quad memory or DRAM, a poisoned beat leaving DRAM's words poisoned; what other units do
with one the spec does not give (R21, R71). -/
def fabWrite (s : State) (r : FabReq) : State := match r.write, r.tgt with
  | some ws, .quad q => s.modQuad q fun x => { x with memory := memSetWords ramByte x.memory (r.addr % 2 ^ 20 / 4 * 4) ws }
  | some ws, .dram =>
    let a := r.addr % 2 ^ 32 / 4 * 4
    let s1 := dramWrite s a ws
    if r.poison then poisonWords s1 (dramTouched a ws.length) else s1
  | _, _ => s

/-- What a read of the target returns: each word with its poisoned mark (R17, R18, R70, R71). -/
def fabRead (s : State) (r : FabReq) : List (Word × Bool) :=
  let a := r.addr / 4 * 4
  (List.range (min r.count (beatRoom a))).map fun i => match r.tgt with
    | .quad q => (memWord ramByte (quadAt s q).memory (a % 2 ^ 20 + 4 * i), r.poison)
    | .dram =>
      let x := a % 2 ^ 32 + 4 * i
      (memWord ramByte s.dram.bytes x, r.poison || s.dram.poisoned.contains (x / 8 * 8))
    | _ => (0, r.poison)

/-- The outstanding requests without the one numbered id. -/
def dropReq (out : List FabReq) (id : Nat) : List FabReq := out.filter fun x => decide (x.id ≠ id)

/-- The outstanding requests with the one numbered id completed. -/
def markDone (out : List FabReq) (id : Nat) : List FabReq := out.map fun x => if x.id = id then { x with done := true } else x

/-- What quad q's leaving service does to one transaction. -/
def reqGone (q : Fin 4) (s : State) (r : FabReq) : State :=
  if r.req == .quad q && !r.accepted then { s with fabric := { s.fabric with out := dropReq s.fabric.out r.id } }
  else if r.tgt == .quad q && !r.done then
    let s1 := completeReq s r true []
    let left := if r.accepted then markDone s1.fabric.out r.id else dropReq s1.fabric.out r.id
    { s1 with fabric := { s1.fabric with out := left } }
  else s

/-- What quad q's leaving service does to the transactions that name it: its own requests not yet accepted are dropped;
requests to it complete as ABSENT (R21 to R23). -/
def fabricGone (s : State) (q : Fin 4) : State := s.fabric.out.foldl (reqGone q) s

/-! A quad leaves service (R391). -/

/-- A task's primary, or the engine it moves to. -/
def Task.engine (t : Task) : Option (Fin 16) := match t.moving with
  | some e => some e
  | none => t.primary

/-- An engine of quad q. -/
def inQuad (q : Fin 4) (e : Option (Fin 16)) : Bool := match e with
  | some e => decide (quadOf e = q)
  | none => false

/-- The standby takes the task over, where its quad is in service (R391). -/
def takeOver (s : State) (q : Fin 4) (t : Task) : Task :=
  let alive (e : Option (Fin 16)) : Option (Fin 16) := match e with
    | some e => if (quadAt s (quadOf e)).st.inService then some e else none
    | none => none
  if inQuad q t.engine then { t with primary := alive t.standby, standby := none, moving := none }
  else
    let t1 := if inQuad q t.primary then { t with primary := t.moving, moving := none } else t
    if inQuad q t1.standby then { t1 with standby := none } else t1

/-! Loads (R380). -/

/-- A kind of task as its code (R379). -/
def TaskKind.code : TaskKind → Nat
  | .point => 0
  | .dutyPoint => 1
  | .feature => 2
  | .canDuty => 3
  | .callDuty => 4

/-- Ten times C of a task, in cycles (R380). -/
def taskC10 (t : Task) : Nat :=
  let m := 11 * t.hist.foldl (fun m c => max m c.toNat) 0
  if t.hist.length < 100 then max m (10 * (Config.taskEstimate t.kind.code).toNat) else m

/-- Ten times a task's evaluations per second (R380). -/
def taskRate10 (s : State) (t : Task) : Nat := match t.kind with
  | .feature =>
    let i := t.subject.toNat
    10000 / max 1 (cfgFeatUpdateMs s (i / 64) (i % 64 + 1)).toNat
  | .canDuty => 1000
  | .callDuty => 1000
  | _ =>
    (match t.cls.toNat with
     | 0 => 1000
     | 1 => 100
     | _ => 10) + (t.extras.filter fun x => decide (now s < x + 10000)).length

/-- A hundred times the cycles that a task takes in a second. -/
def taskLoad (s : State) (t : Task) : Nat := taskC10 t * taskRate10 s t

/-- Engine clock in Hz at step k (R45). -/
def stepHz (k : Nat) : Nat := 800000000 / 2 ^ k

/-- An engine's cap in percent (R381). -/
def capPct (s : State) (e : Fin 16) : Nat := if (engPl s e).worn then 60 else 80

/-- Loads of the engines, each a hundred times its cycles a second. -/
abbrev Loads := Vector Nat 16

/-- A load is within the engine's cap at step k (R381). -/
def withinCap (s : State) (e : Fin 16) (k load : Nat) : Bool := decide (load ≤ capPct s e * stepHz k)

/-- The loads of the primary tasks now. -/
def loadsNow (s : State) : Loads := s.canvas.tasks.foldl (fun l t => match t.2.primary with
  | some e => vmod l e (· + taskLoad s t.2)
  | none => l) (Vector.replicate 16 0)

/-- The step a standby runs at until the next round: the highest that the power level allows where that holds its load, else
800 MHz (R391). -/
def takerStep (s : State) (e : Fin 16) : BitVec 2 :=
  if withinCap s e s.power.eff.toNat (vat (loadsNow s) e) then s.power.eff else 0

/-- Quad q has left service: its tasks pass to their standby engines, Gauze wakes every quad for it, a round is due
(R382, R391). -/
def quadLeft (s : State) (q : Fin 4) : State :=
  let takers := (s.canvas.tasks.filterMap fun t => if inQuad q t.2.engine then (takeOver s q t.2).primary else none).eraseDups
  let s1 := s.mapTasks (takeOver s q)
  let s2 := takers.foldl (fun s e => perfAdd
    ((s.modEngPl e fun p => { p with taken := true }).modEngine e fun x => { x with nextStep := some (takerStep s1 e) }) (0x1008 + 256 * (quadOf e).val) 1) s1
  roundSoon (fabricGone { s2 with canvas := { s2.canvas with absorb := s2.canvas.absorb ||| (1#4 <<< q.val) } } q)

/-- A fault takes the quads given from SLEEP, RUN or DRAIN to RESET; they make one dump (R23, R25, R332, R555). -/
def faultQuads (s : State) (qs : List (Fin 4)) : State :=
  let gone := qs.filter fun q => (quadAt s q).st.counts
  if gone.isEmpty then s
  else captureDump (gone.foldl (fun s q => sysRaise (quadLeft (s.modQuad q Quad.toReset) q) 0x09) s) 3

/-- A fault of quad q alone. -/
def faultQuad (s : State) (q : Fin 4) : State := faultQuads s [q]

/-! Quad commands (R25). -/

/-- QUAD_POWER_ON: Canvas powers a quad in OFF (R25). -/
def execQuadPowerOn (q : Fin 4) (s : State) : Host.Outcome State Fault Refusal :=
  doIf (up s && (quadAt s q).st == .off) s (s.modQuad q Quad.toReset)

/-- The firmware sequence and version that quad q loads: those of an update under way, but at the retry of a quad that failed
with it, and otherwise, the previous ones: of the last update APPLIED, or of the start (R398). -/
def quadFirmware (s : State) (q : Fin 4) : Word × Word :=
  let f := s.canvas.fw
  if f.st == .applying && !(vat s.canvas.quad q).reload then (f.seq, f.version)
  else f.held.getD (s.cfg.fwSeq, s.cfg.fwVersion)

/-- FW_STATE as its code (R425). -/
def FwState.code : FwState → Nat
  | .idle => 0
  | .erasing => 1
  | .receiving => 2
  | .verifying => 3
  | .staged => 4
  | .applying => 5
  | .applied => 6
  | .rejected => 7
  | .failed => 8

/-- UPDATE_PROGRESS (R398, R420). -/
def sendProgress (s : State) : State :=
  let f := s.canvas.fw
  let at_ : Nat := match f.at_ with
    | some q => q.val
    | none => 15
  bcast s 1 0x2C [at' 28 f.st.code ||| at' 24 f.done.toNat ||| at' 20 at_, f.seq, f.version, f.next.setWidth 32]

/-- The FIRMWARE record (R490). -/
def fwRec (s : State) : Rec :=
  let f := s.canvas.fw
  mkRec s .p 0x06 (subj s 7 0) 0 ([w32 f.st.code] ++ pws (Pair.mk0 f.seq) ++ [f.version, f.done.setWidth 32])

/-- FW_STATE changes: the message and the record (R398, R490). -/
def setFw (s : State) (st : FwState) : State :=
  let s1 := sendProgress { s with canvas := { s.canvas with fw := { s.canvas.fw with st := st } } }
  stage s1 (fwRec s1)

/-- Byte offset of firmware copy k (R104). -/
def fwBase (s : State) (k : Bool) : Nat := s.nor.mib * 2 ^ 20 / 4 * (2 + b2n k)

/-- The target copy's FW_SEQ pair programmed to zero, so that it fails (R397). -/
def invalidateCopy (s : State) : State :=
  { s with nor := { s.nor with bytes := memSetWords norByte s.nor.bytes (fwBase s s.canvas.fw.target + 4) [0, 0] } }

/-- A quad fails while it loads the new firmware, in its own step or on leaving RESET after a failure of its own: the update
fails, the copy is invalidated (R395, R398). -/
def fwFailed (s : State) (q : Fin 4) : State :=
  if s.canvas.fw.st == .applying && (decide (s.canvas.fw.at_ = some q) || !(vat s.canvas.quad q).reload) then
    let s1 := (invalidateCopy s).modQuadPl q fun p => { p with reload := true }
    sysRaise (setFw { s1 with canvas := { s1.canvas with fw := { s1.canvas.fw with at_ := none } } } .failed) 0x28
  else s

/-- QUAD_SELF_CHECK_COMPLETE: firmware loaded and the check passed, or one of three attempts failed (R25). -/
def execQuadSelfCheckComplete (q : Fin 4) (pass : Bool) (s : State) : Host.Outcome State Fault Refusal :=
  let x := quadAt s q
  let fw := quadFirmware s q
  let good :=
    let s1 := s.modQuad q fun x => { x with st := .sleep, tries := 0, fwSeq := fw.1 }
    roundSoon (s1.modQuadPl q fun p => { p with
      fwVersion := fw.2, revision := Config.canvasRevision fw.2, reload := false
      updated := (s.canvas.fw.st == .applying || s.canvas.fw.st == .applied) && decide (fw.1 = s.canvas.fw.seq) })
  let bad :=
    if x.tries < 2 then s.modQuad q fun x => { x with tries := x.tries + 1 }
    else sysRaise (fwFailed (s.modQuad q fun x => { x with st := .failed, tries := 0, faultAt := now s }) q) 0x09
  doIf (up s && x.st == .reset && s.cfg.fwLoaded) s (if pass then good else bad)

/-- The wakes pending for quad q are taken. -/
def clearWake (s : State) (q : Fin 4) : State := { s with gauze := { s.gauze with wakes := s.gauze.wakes &&& ~~~(1#4 <<< q.val) } }

/-- The task runs on an engine of quad q. -/
def taskOnQuad (s : State) (q : Fin 4) (n : Nat) : Bool := match tget s.canvas.tasks n with
  | some t => inQuad q t.primary
  | none => false

/-- QUAD_WAKE: a slot, a bound or a doorbell wakes the quad, and its engines begin the tasks that fell due (R25, R31, R44). -/
def execQuadWake (q : Fin 4) (s : State) : Host.Outcome State Fault Refusal :=
  let mine := s.gauze.due.filter (taskOnQuad s q)
  let s1 := s.modQuad q fun x => { x with st := .run, pllLock := true, running := x.running ++ mine.filter fun n => !x.running.contains n }
  doIf (up s && ((quadAt s q).st == .sleep || (quadAt s q).st == .run)) s
    (clearWake { s1 with gauze := { s1.gauze with due := s1.gauze.due.filter fun n => !mine.contains n } } q)

/-- An entry falls due for quad q within the 2 048 ticks, 2 ms, that follow a tick (R25 to R28). -/
def slotWithin (q : Fin 4) (tick : Nat) (e : SlotEntry) : Bool := match e.cls.toNat with
  | 3 => false
  | c => e.mask.getLsbD q.val && decide (e.offset.toNat < classTicks c) &&
      decide ((e.offset.toNat + classTicks c - tick % classTicks c) % classTicks c ≤ 2048)

/-- QUAD_IDLE_SLEEP at a Gauze tick: nothing runs, nothing is pending and no slot is near (R25, R32). -/
def execQuadIdleSleep (q : Fin 4) (tick : Nat) (s : State) : Host.Outcome State Fault Refusal :=
  doIf (up s && (quadAt s q).st == .run && (quadAt s q).running.isEmpty && !s.gauze.wakes.getLsbD q.val &&
      !(s.gauze.slotsA.toList.any (slotWithin q tick)) && !(s.gauze.slotsB.toList.any (slotWithin q tick))) s
    (perfAdd (s.modQuad q fun x => { x with st := .sleep, pllLock := false }) (0x1007 + 256 * q.val) 1)

/-- QUAD_FAULT_RESET: watchdog, memory error or supply fault (R25). -/
def execQuadFaultReset (q : Fin 4) (s : State) : Host.Outcome State Fault Refusal :=
  doIf (up s && (quadAt s q).st.counts) s (faultQuad s q)

/-- QUAD_REPLY_TIMEOUT: an accepted request without a reply for 100 µs (R23). -/
def execQuadReplyTimeout (id : Nat) (s : State) : Host.Outcome State Fault Refusal :=
  match s.fabric.out.find? fun r => decide (r.id = id) && r.accepted && !r.done with
  | some r => match r.tgt with
    | .quad q => doIf (up s && (quadAt s q).st.counts) s (faultQuad s q)
    | _ => .next s
  | none => .next s

/-- QUAD_ISOLATE: Canvas isolates a quad (R25). -/
def execQuadIsolate (q : Fin 4) (s : State) : Host.Outcome State Fault Refusal :=
  let t := s.modQuad q fun x => { x.toOff (now s) with isolated := true }
  doIf (up s && (quadAt s q).st != .off) s (if (quadAt s q).st.counts then quadLeft t q else fabricGone t q)

/-- QUAD_RETRY_INTERVAL: 10 min after FAILED, or after OFF on a controller's third charge (R25, R388). -/
def execQuadRetryInterval (q : Fin 4) (s : State) : Host.Outcome State Fault Refusal :=
  let x := quadAt s q
  doIf (up s && (x.st == .failed || (x.st == .off && !x.drainHold && !x.isolated)) && decide (x.faultAt + 600000 ≤ now s)) s
    (s.modQuad q Quad.toReset)

/-- RETRY of a quad (R25, R423). -/
def retryQuad (s : State) (q : Fin 4) : State :=
  if (quadAt s q).st == .failed || (quadAt s q).st == .off then s.modQuad q Quad.toReset else s

/-- QUAD_RETRY (R25, R423). -/
def execQuadRetry (r : Req) (q : Fin 4) (s : State) : Host.Outcome State Fault Refusal := doIf (may s r 3) s (retryQuad s q)

/-! Fabric commands (R18 to R23, R71). -/

/-- A beat has come through whole at a port: none is asked for again there (R71). -/
def goodBeat (s : State) (u : FabUnit) : State :=
  { s with fabric := { s.fabric with parity := s.fabric.parity.filter fun x => x.port != u } }

/-- FABRIC_REQUEST: one beat of up to four words, written or read; `accept`: its first beat enters the target's port at once
(R18, R20, R21; log entry 95). -/
def execFabricRequest (src tgt : FabUnit) (wr : Option (List Word)) (count addr : Nat) (accept : Bool) (s : State) :
    Host.Outcome State Fault Refusal :=
  let r : FabReq := { id := s.fabric.nextId, req := src, tgt := tgt, reqEpoch := unitEpoch s src, tgtEpoch := unitEpoch s tgt
                      write := wr.map fun ws => ws.take (beatRoom addr), count := count, addr := addr, accepted := accept }
  let s1 := perfAdd { s with fabric := { s.fabric with nextId := s.fabric.nextId + 1 } } 0x2000 1
  doIf (up s && !unitGone s src) s
    (if unitGone s tgt then completeReq s1 r true []
     else
       let s2 := { s1 with fabric := { s1.fabric with out := s1.fabric.out ++ [r] } }
       if accept then fabWrite (goodBeat s2 tgt) r else s2)

/-- The reply of a request arrives: it is accepted first where it was not; one from an epoch gone by is discarded and
completes as ABSENT (R20 to R22). -/
def deliver (s : State) (r : FabReq) : State :=
  let s0 := { s with fabric := { s.fabric with out := s.fabric.out.filter fun x => decide (x.id ≠ r.id) } }
  let stale (s : State) : State := perfAdd { s with fabric := { s.fabric with staleCount := satInc s.fabric.staleCount } } 0x2003 1
  if r.done then stale s0
  else if unitEpoch s r.tgt ≠ r.tgtEpoch then completeReq (stale s0) r true []
  else
    let s1 := goodBeat (if r.accepted then s0 else fabWrite s0 r) r.req
    completeReq s1 r false (match r.write with
      | some _ => []
      | none => fabRead s1 r)

/-- FABRIC_REPLY_DELIVERY (R22). -/
def execFabricReplyDelivery (id : Nat) (s : State) : Host.Outcome State Fault Refusal :=
  match s.fabric.out.find? fun r => decide (r.id = id) with
  | some r => doIf (up s) s (deliver s r)
  | none => .next s

/-- The fabric port of a unit, counted so that the free number of each follows (R18, R490). -/
def fabUnitIndex : FabUnit → Nat
  | .quad q => q.val
  | .switch => 4
  | .dram => 5
  | .nand => 6
  | .nor => 7
  | .canA => 8
  | .canB => 9
  | .link => 10
  | .gauze => 11
  | .counters => 12

/-- A unit is a quad. -/
def unitIsQuad : FabUnit → Bool
  | .quad _ => true
  | _ => false

/-- The quad that a unit is. -/
def quadIn (u : FabUnit) : Option (Fin 4) := match u with
  | .quad q => some q
  | _ => none

/-- The failed attempts of the beat at address `addr` from `src` that `tgt` receives, this one counted (R71). -/
def parityTries (s : State) (src tgt : FabUnit) (addr : Nat) : Nat :=
  1 + match s.fabric.parity.find? fun x => x.port == tgt with
    | some x => if x.from_ == src && decide (x.beat = addr / 16) then x.tries else 0
    | none => 0

/-- The port's record of the beat it asks for again. -/
def noteParity (s : State) (src tgt : FabUnit) (addr n : Nat) : State :=
  let t := goodBeat s tgt
  { t with fabric := { t.fabric with parity := t.fabric.parity ++ [{ port := tgt, from_ := src, beat := addr / 16, tries := n }] } }

/-- A beat delivered marked poisoned: DRAM holds each of its words so; a transfer under way whose beat it was, a write or a
reply, carries the mark to the unit that receives it (R70, R71). -/
def poisonBeat (s : State) (src tgt : FabUnit) (addr : Nat) : State :=
  let hit (r : FabReq) : Bool := decide (r.addr / 16 = addr / 16) &&
    ((r.req == src && r.tgt == tgt && r.write.isSome) || (r.req == tgt && r.tgt == src && r.write.isNone))
  let s1 := { s with fabric := { s.fabric with out := s.fabric.out.map fun r => if hit r then { r with poison := true } else r } }
  if tgt == .dram then poisonWords s1 (dramTouched (addr % 2 ^ 32 / 16 * 16) 4) else s1

/-- FABRIC_PARITY_ERROR: one failed attempt of a beat at the port of `tgt`; the eighth takes a quad at either end out of
service, or delivers the beat poisoned and raises FABRIC_FAULT; it is recorded either way (R71, R76, R490). -/
def execFabricParityError (src tgt : FabUnit) (addr : Nat) (s : State) : Host.Outcome State Fault Refusal :=
  let n := parityTries s src tgt addr
  let s1 := perfAdd s 0x2001 1
  let s2 := goodBeat s1 tgt
  let s3 := if unitIsQuad src || unitIsQuad tgt then s2 else poisonBeat s2 src tgt addr
  let s4 := stage s3 (mkRec s3 .d 0x42 (subj s 7 0) (at' 24 1) [Config.fabricPort (fabUnitIndex tgt)])
  doIf (up s) s
    (if n < 8 then noteParity s1 src tgt addr n
     else if unitIsQuad src || unitIsQuad tgt then faultQuads s4 ([src, tgt].filterMap quadIn).eraseDups else sysRaise s4 0x0B)

/-! Memory errors and scrubbing (R68 to R70). -/

/-- The recovery of a partition from a poisoned word (R41, R70). The entry that holds the word is a free choice of its address
but in the waveform ring (log entry 96): a replica entry reads as failing until it is rewritten, a firmware image is loaded
anew from NOR, a trend sample or the waveform samples of the word are marked missing (log entry 32), one of a staged record's two copies is damaged, a task record
reads as failing at the task's next evaluation. -/
def recoverWord (s : State) (addr : Nat) : State :=
  let a := addr % 2 ^ 32 / 8 * 8
  if a < 0x08000000 then { s with dram := { s.dram with poisoned := s.dram.poisoned.filter fun x => decide (x ≠ a) } }
  else if a < 0x0C000000 then
    let p := Config.replicaEntry a
    { s.modPoint p (fun l => { l with hit := true }) with canvas := { s.canvas with
        replica := tmod s.canvas.replica p fun r => { r with hit := true } } }
  else if 0x0E000000 ≤ a ∧ a < 0x6E000000 then
    let e := Config.trendEntry a
    { s with nand := { s.nand with trends := tmod s.nand.trends e.1 fun t => { t with
        cache := t.cache.eraseIdx e.2 } } }
  else if 0x6E000000 ≤ a ∧ a < 0xAE000000 then
    { s with dram := { s.dram with bytes := memSetWords ramByte s.dram.bytes a [missingCode, missingCode] }
             vib := { s.vib with missing := satInc (satInc s.vib.missing) } }
  else if 0xAE000000 ≤ a ∧ a < 0xBE000000 then
    let e := Config.stagedEntry a
    { s with linen := { s.linen with staged := s.linen.staged.modify e.1 fun x =>
        if e.2 then { x with hitB := true } else { x with hitA := true } } }
  else if 0xD2000000 ≤ a ∧ a < 0xD6000000 then
    { s with canvas := { s.canvas with tasks := tmod s.canvas.tasks (Config.taskEntry a) fun t => { t with recordHit := true } } }
  else s

/-- An uncorrectable error of DRAM (R70, R332, R490). -/
def dramError (s : State) (addr : Nat) : State :=
  let s1 := perfAdd (recoverWord (poisonWords s [addr % 2 ^ 32 / 8 * 8]) addr) 0x4003 1
  sysRaise (stage s1 (mkRec s1 .d 0x42 (subj s 7 0) 0 [w32 addr])) 0x0A

/-- MEMORY_ECC_ERROR (R68, R70). -/
def execMemoryEccError (mem : MemUnit) (addr : Nat) (correctable : Bool) (s : State) : Host.Outcome State Fault Refusal :=
  doIf (up s) s (match mem, correctable with
    | .iscratch e, true => perfAdd s (256 * e.val + 0x0A) 1
    | .dscratch e, true => perfAdd s (256 * e.val + 0x0A) 1
    | .iscratch e, false => faultQuad s (quadOf e)
    | .dscratch e, false => faultQuad s (quadOf e)
    | .quad _, true => s
    | .quad q, false => faultQuad s q
    | .dram, true => perfAdd s 0x4002 1
    | .dram, false => dramError s addr
    | .dramStack, true => s
    | .dramStack, false => { s with dram := { s.dram with failed := true } }
    | .frameBuffer, _ => s)

/-- SCRUB_PASS: a full pass reads every word and changes none that is sound (R69). -/
def execScrubPass (mem : MemUnit) (s : State) : Host.Outcome State Fault Refusal :=
  doIf (up s) s (match mem with
    | .dram => perfAdd { s with dram := { s.dram with scrubbedAt := now s } } 0x4004 1
    | .dramStack => s
    | .quad q => s.modQuad q fun x => { x with scrubbedAt := now s }
    | .iscratch e => s.modQuad (quadOf e) fun x => { x with scrubbedAt := now s }
    | .dscratch e => s.modQuad (quadOf e) fun x => { x with scrubbedAt := now s }
    | .frameBuffer => s)

/-! Gauze's slots (R27, R28, R72, R391). -/

/-- The entry falls due at a tick (R27, R28). -/
def slotDue (e : SlotEntry) (tick : Nat) : Bool := match e.cls.toNat with
  | 3 => false
  | c => decide (tick % classTicks c = e.offset.toNat)

/-- Both copies are sound and equal (R72). -/
def slotSound (a b : SlotEntry) : Bool := !a.parityBad && !b.parityBad && a == b

/-- Every quad in SLEEP or RUN, as a mask. -/
def serviceMask (s : State) : BitVec 4 := BitVec.ofNat 4 (maskOf 4 fun i => if h : i < 4 then (quadAt s ⟨i, h⟩).st.inService else false)

/-- A mask that names a quad that has left service names every quad in SLEEP or RUN (R391). -/
def absorbMask (s : State) (m : BitVec 4) : BitVec 4 := if m &&& s.canvas.absorb = 0 then m else m ||| serviceMask s

/-- Wakes pending for the tasks of some classes on a mask of quads, each counted as slot wakes (R27, R545). -/
def wakeMask (s : State) (m : BitVec 4) (cls : List (BitVec 2)) : State :=
  let due := (s.canvas.tasks.filter fun t => cls.contains t.2.cls && match t.2.primary with
    | some e => m.getLsbD (quadOf e).val
    | none => false).map Prod.fst
  let s1 := { s with gauze := { s.gauze with wakes := s.gauze.wakes ||| m, due := s.gauze.due ++ due.filter fun n => !s.gauze.due.contains n } }
  ((List.finRange 4).filter fun q => m.getLsbD q.val).foldl (fun s q => perfAdd s (0x1005 + 256 * q.val) 1) s1

/-- The entry that Canvas keeps in slot k: one for each class that some task of an engine has, naming its quads (R27;
log entry 54). -/
def slotEntry (s : State) (k : Nat) : SlotEntry :=
  if k < 3 then
    let mask := maskOf 4 fun q => s.canvas.tasks.any fun t => match t.2.engine with
      | some e => decide ((quadOf e).val = q) && decide (t.2.cls.toNat = k)
      | none => false
    { mask := BitVec.ofNat 4 mask, cls := BitVec.ofNat 2 k, offset := 0 }
  else {}

/-- Canvas writes the slot table for the placement in effect (R27, R391). -/
def writeSlots (s : State) : State :=
  let t := Vector.ofFn fun k : Fin 256 => slotEntry s k.val
  { s with gauze := { s.gauze with slotsA := t, slotsB := t }, canvas := { s.canvas with absorb := 0 } }

/-- A damaged entry: its wakes are the union of both copies, Canvas is told and rewrites it (R72, R332, R490). -/
def slotFault (s : State) (k : Fin 256) : State :=
  let e := slotEntry s k.val
  let s1 := { s with gauze := { s.gauze with slotsA := vmod s.gauze.slotsA k fun _ => e, slotsB := vmod s.gauze.slotsB k fun _ => e } }
  sysRaise (stage (perfAdd s1 0x8003 1) (mkRec s1 .d 0x42 (subj s 7 0) (at' 24 2) [w32 k.val])) 0x0A

/-- Set bits of a word, odd in number. -/
def oddBits {n : Nat} (w : BitVec n) : Bool := (List.range n).foldl (fun b i => b ^^ w.getLsbD i) false

/-- A copy of an entry as it is read, with the bits that an upset turned: [26:23] of its mask, [22:21] of its class, [20:1] of
its offset, [0] its parity; an odd number of them fails the parity check (R28, R72). -/
def slotRead (e : SlotEntry) (upset : BitVec 27) : SlotEntry :=
  { mask := e.mask ^^^ upset.extractLsb' 23 4, cls := e.cls ^^^ upset.extractLsb' 21 2, offset := e.offset ^^^ upset.extractLsb' 1 20
    parityBad := e.parityBad ^^ oddBits upset }

/-- GAUZE_SLOT_DUE: slot k at a tick, with what upsets turned in its two copies; a damaged entry acts at each OFFSET either copy
gives, for the union of their masks (R27, R72). -/
def execGauzeSlotDue (k : Fin 256) (tick : Nat) (upsetA upsetB : BitVec 27) (s : State) : Host.Outcome State Fault Refusal :=
  let a := slotRead (vat s.gauze.slotsA k) upsetA
  let b := slotRead (vat s.gauze.slotsB k) upsetB
  let hit := [a, b].filter fun e => slotDue e tick
  let mask := absorbMask s (if slotSound a b then a.mask else a.mask ||| b.mask)
  let s1 := if slotSound a b then s else slotFault s k
  doIf (up s && !hit.isEmpty) s (wakeMask (perfAdd s1 0x8001 1) mask (hit.map SlotEntry.cls))

/-- Quads that hold tasks (R72). -/
def taskQuads (s : State) : BitVec 4 :=
  BitVec.ofNat 4 (maskOf 4 fun q => s.canvas.tasks.any fun t => match t.2.engine with
    | some e => decide ((quadOf e).val = q)
    | none => false)

/-- GAUZE_BACKSTOP_WAKE: each quad that holds tasks, once every 1 024 000 ticks (R72). -/
def execGauzeBackstopWake (s : State) : Host.Outcome State Fault Refusal :=
  doIf (up s) s { s with gauze := { s.gauze with wakes := s.gauze.wakes ||| taskQuads s } }

/-! Shadow executions, third runs and charges (R64 to R66). -/

/-- Faults charged to an engine within 24 h. -/
def recentFaults (s : State) (ts : List Nat) : List Nat := ts.filter fun t => decide ((recMs s).toNat < t + 86400000)

/-- An engine is withdrawn: its quad's spare role passes on, a round is due (R66, R400). -/
def withdraw (s : State) (e : Fin 16) : State :=
  roundSoon (sysSet (s.modEngine e fun x => { x with withdrawn := true }) 0x08 true)

/-- Engine e charged with one integrity fault in a task; the third within 24 h withdraws it (R65, R66, R332, R490). -/
def chargeEngine (s : State) (task : Nat) (e : Fin 16) : State :=
  let ts := (recMs s).toNat :: recentFaults s (engineAt s e).faultTimes
  let s1 := (s.modEngine e fun x => { x with faultTimes := ts }).modEngPl e fun p => { p with faults := satInc p.faults }
  let out := decide (3 ≤ ts.length) && !(engineAt s e).withdrawn
  let s2 := stage (sysRaise s1 0x07) (mkRec s1 .d 0x41 (subj s 4 e.val) (flag 0 (decide (3 ≤ ts.length))) [w32 task, w32 ts.length])
  if out then withdraw s2 e else roundSoon s2

/-- Both engines' quads run one firmware version (R398). -/
def sameFirmware (s : State) (p : Option (Fin 16)) (e : Fin 16) : Bool := match p with
  | some x => decide ((quadAt s (quadOf x)).fwSeq = (quadAt s (quadOf e)).fwSeq)
  | none => false

/-- A task with f applied. -/
def State.modTask (s : State) (n : Nat) (f : Task → Task) : State := { s with canvas := { s.canvas with tasks := tmod s.canvas.tasks n f } }

/-- Result words with bits turned: what an engine gives that runs the same scan (R64). -/
def turned (ws ups : List Word) : List Word := ws.zipIdx.map fun e => e.1 ^^^ ups.getD e.2 0

/-- SHADOW_EXECUTION: the task's newest scan, once every 100, again on its standby engine, which gives the primary's result words
with the bits of `ups` turned; a FEATURE's third word stands for its transform output (R64, R65, R67, R398). -/
def execShadowExecution (task : Nat) (ups : List Word) (s : State) : Host.Outcome State Fault Refusal :=
  match tget s.canvas.tasks task with
  | some t => match t.standby with
    | some e =>
      let r := turned t.result ups
      doIf (up s && t.pinned.isNone && decide (100 ≤ t.scan) && sameFirmware s t.primary e) s
        ((perfAdd s (256 * e.val + 0x0B) 1).modTask task fun x => { x with
          scan := x.scan - 100, owed := if r = t.result then x.owed else some (.shadow r) })
    | none => .next s
  | none => .next s

/-- The third engine: not the primary or the standby, its quad in SLEEP or RUN; in a quad of neither where there is one, else in
one that is not the primary's, and its quad's spare before another, by number (R65, R385; log entry 97). -/
def thirdEngine (s : State) (t : Task) : Option (Fin 16) :=
  match t.primary with
  | none => none
  | some e =>
    let near (x : Fin 16) : Nat := if quadOf x = quadOf e then 2 else if t.standby.map quadOf = some (quadOf x) then 1 else 0
    let can := (List.finRange 16).filter fun x => decide (x ≠ e) && decide (t.standby ≠ some x) &&
      (quadAt s (quadOf x)).st.inService && !(engineAt s x).withdrawn && sameFirmware s (some e) x
    let best (l : List (Fin 16)) : Option (Fin 16) := l.foldl (fun b x => match b with
      | none => some x
      | some y =>
        if near x < near y ∨ (near x = near y ∧ (engPl s x).spare = true ∧ (engPl s y).spare = false) then some x else some y) none
    best can

/-- The engines that a third run charges, each once (R65): the one whose result differs from the other two, or all of them where
no two agree; of a task whose paths disagreed the primary gave two of the three results. -/
def chargedBy (t : Task) (e x : Fin 16) (third : List Word) : List (Fin 16) := match t.owed with
  | none => []
  | some (.shadow r) =>
    if t.result = third then t.standby.toList
    else if r = third then [e]
    else if r = t.result then [x]
    else ([e] ++ t.standby.toList ++ [x]).eraseDups
  | some .paths =>
    let a := t.result.getD 0 0
    let b := ~~~(t.result.getD 1 0)
    let v := third.getD 0 0
    if v = a ∨ v = b then [e] else if a = b then [x] else [e, x]

/-- THIRD_RUN of a task that owes one: the third engine gives the primary's result words with the bits of `ups` turned (R65). -/
def execThirdRun (task : Nat) (ups : List Word) (s : State) : Host.Outcome State Fault Refusal :=
  match tget s.canvas.tasks task with
  | some t => match t.primary, thirdEngine s t with
    | some e, some x =>
      doIf (up s && t.owed.isSome) s
        ((chargedBy t e x (turned t.result ups)).foldl (fun s x => chargeEngine s task x) (s.modTask task fun y => { y with owed := none }))
    | _, _ => .next s
  | none => .next s

/-! Engine clocks and the power level (R32 to R38). -/

/-- Some quad runs above the cap of the effective level (R37). -/
def aboveCap (s : State) : Bool :=
  (List.finRange 16).any fun e => decide ((engineAt s e).step.toNat < s.power.eff.toNat) &&
    (quadAt s (quadOf e)).st.inService && s.canvas.tasks.any fun t => decide (t.2.primary = some e)

/-- CAP_EXCEEDED and its condition (R37, R332). -/
def capCheck (s : State) : State :=
  let b := aboveCap s
  sysSet { s with power := { s.power with capExceeded := b } } 0x17 b

/-- ENGINE_CLOCK_STEP_CHANGE: the step Canvas chose takes effect at a task boundary (R33). -/
def execEngineClockStepChange (e : Fin 16) (s : State) : Host.Outcome State Fault Refusal :=
  match (engineAt s e).nextStep with
  | some k => doIf (up s) s (capCheck (s.modEngine e fun x => { x with step := k, nextStep := none }))
  | none => .next s

/-- A write to POWER_LEVEL; 0b11 is ignored (R46). -/
def putPowerLevel (s : State) (w : Word) : State :=
  if bits w 1 0 = 3 then s else { s with power := { s.power with station := w.extractLsb' 0 2 } }

/-- POWER_LEVEL_WRITE (R46). -/
def execPowerLevelWrite (r : Req) (w : Word) (s : State) : Host.Outcome State Fault Refusal := doIf (may s r 2) s (putPowerLevel s w)

/-- The effective level: the higher of the station's and the point's (R34). -/
def powerEff (s : State) : BitVec 2 := if s.power.station.toNat ≤ s.power.point.toNat then s.power.point else s.power.station

/-- POWER_LEVEL_CHANGE: the effective level follows, Gauze takes the decision, vibration work is shed or resumed, a round is
due (R34, R36, R49, R225, R382). -/
def execPowerLevelChange (s : State) : Host.Outcome State Fault Refusal :=
  let s0 := notePower s
  let e := powerEff s0
  let s1 := { s0 with power := { s0.power with eff := e }, gauze := { s0.gauze with powerLevel := Pair.mk0 (e.setWidth 32) } }
  let s2 := refreshStreams (shedFeats s1)
  doIf (up s && decide (e ≠ s.power.eff)) s (capCheck (roundSoon (noteShed s2)))

end Sys2Proof.Machine
end

