-- ==== Sys2Proof/Machine/Tasks.lean ====
section
/-! DEFINITION. Canvas's tasks, their loads, and the placement that a round computes (R379 to R385, R400). -/

namespace Sys2Proof.Machine
open Sys2Proof

/-! Order. -/

/-- Lexicographic order of number lists, the first not after the second. -/
def lexLe : List Nat → List Nat → Bool
  | [], _ => true
  | _ :: _, [] => false
  | a :: s, b :: t => decide (a < b) || (decide (a = b) && lexLe s t)

/-- x put into a list sorted by the keys k. -/
def insBy {α : Type} (k : α → List Nat) (x : α) : List α → List α
  | [] => [x]
  | y :: t => if lexLe (k x) (k y) then x :: y :: t else y :: insBy k x t

/-- The list sorted by the keys k. -/
def sortBy {α : Type} (k : α → List Nat) (l : List α) : List α := l.foldr (insBy k) []

/-- The first of a list's members with the least key. -/
def leastBy {α : Type} (k : α → List Nat) : List α → Option α
  | [] => none
  | x :: t => match leastBy k t with
    | none => some x
    | some y => if lexLe (k x) (k y) then some x else some y

/-! The task list (R379). -/

/-- Class of a point's task. -/
def ptClass (s : State) (p : Nat) : BitVec 2 := BitVec.ofNat 2 (cfgPtClass s p).toNat

/-- The engine a point's task is pinned to (R115). -/
def pinOf (s : State) (p : Nat) : Option (Fin 16) :=
  if cfgHas s 16 p then some ⟨(cfgPinPinEngine s p).toNat % 16, Nat.mod_lt _ (by decide)⟩ else none

/-- The tasks this node has besides those of duty points, as numbers, kinds and subjects (R379). -/
def fixedTasks (s : State) : List (Nat × TaskKind × Nat) :=
  if s.cfg.absent then []
  else
    let pts := (ownPoints s).filter fun p => (feederOf s p).isNone
    let feats := (List.finRange 16).flatMap fun n => (List.range 64).filterMap fun i =>
      if featUsed s n (i + 1) then some (4096 + 64 * n.val + i, TaskKind.feature, 64 * n.val + i) else none
    let cans := (List.range 2).filterMap fun c => if segDutyHeld s c then some (5120 + c, TaskKind.canDuty, c) else none
    (pts.zipIdx.map fun e => (e.2, TaskKind.point, e.1)) ++ feats ++ cans ++
      (if s.call.holds then [(5122, TaskKind.callDuty, 0)] else [])

/-- Class of a task (R380, R425). -/
def taskClass (s : State) (k : TaskKind) (subject : Nat) : BitVec 2 := match k with
  | .point => ptClass s subject
  | .dutyPoint => ptClass s subject
  | .feature => 3
  | .canDuty => 0
  | .callDuty => 0

/-- Task number n of a kind and subject: the one held where it is the same, else a new one. -/
def keepTask (s : State) (n : Nat) (k : TaskKind) (subject : Nat) : Task :=
  let old : Task := match tget s.canvas.tasks n with
    | some t => if t.kind == k && decide (t.subject.toNat = subject) then t else {}
    | none => {}
  { old with kind := k, subject := BitVec.ofNat 16 subject, cls := taskClass s k subject
             pinned := if k == .point then pinOf s subject else none }

/-- The task of duty point p put into the list: under the number it has, else under the next (R379). -/
def addDuty (s : State) (l : Tab Task) (p : Nat) : Tab Task :=
  let old := s.canvas.tasks.find? fun e => e.2.kind == .dutyPoint && decide (e.2.subject.toNat = p)
  let n := match old with
    | some e => e.1
    | none => (l.foldl (fun m e => max m e.1) 5247) + 1
  tset l n (keepTask s n .dutyPoint p)

/-- Canvas's task list brought up to date (R379). -/
def syncTasks (s : State) : State :=
  let l0 : Tab Task := (fixedTasks s).foldl (fun l e => tset l e.1 (keepTask s e.1 e.2.1 e.2.2)) []
  let duty := dutyPoints s
  let held := duty.filter fun p => s.canvas.tasks.any fun e => e.2.kind == .dutyPoint && decide (e.2.subject.toNat = p)
  let l1 := held.foldl (addDuty s) l0
  { s with canvas := { s.canvas with tasks := (duty.filter fun p => !held.contains p).foldl (addDuty s) l1 } }

/-! Rounds (R382). -/

/-- Some engine's load exceeds its cap at its present step (R382). -/
def overCap (s : State) : Bool :=
  let l := loadsNow s
  (List.finRange 16).any fun e => decide (0 < vat l e) && !withinCap s e (engineAt s e).step.toNat (vat l e)

/-! Spares (R381, R400). -/

/-- The engine may carry tasks but for the spare role (R381). -/
def usableEngine (s : State) (e : Fin 16) : Bool := (quadAt s (quadOf e)).st.inService && !(engineAt s e).withdrawn

/-- The engine is eligible for primary tasks (R381). -/
def eligible (s : State) (e : Fin 16) : Bool := usableEngine s e && !(engPl s e).spare

/-- The engines of quad q. -/
def quadEngines (q : Fin 4) : List (Fin 16) := (List.finRange 16).filter fun e => decide (quadOf e = q)

/-- WEAR as a number that keeps its order. -/
def wearKey (s : State) (e : Fin 16) : Nat := ((engPl s e).wearPpm.toInt + 2147483648).toNat

/-- The engine of a list with the highest WEAR, ties to the lower number (R400). -/
def mostWorn (s : State) (l : List (Fin 16)) : Option (Fin 16) := leastBy (fun e => [4294967296 - wearKey s e, e.val]) l

/-- Engine e becomes its quad's spare. -/
def setSpare (s : State) (e : Fin 16) : State :=
  (List.finRange 16).foldl (fun s x => if quadOf x = quadOf e then s.modEngPl x fun p => { p with spare := decide (x = e) } else s) s

/-- Quad q has a spare that is not withdrawn, where any of its engines can be (R381, R400). -/
def ensureSpare (s : State) (q : Fin 4) : State :=
  if (quadEngines q).any fun e => (engPl s e).spare && !(engineAt s e).withdrawn then s
  else
    let s1 := (quadEngines q).foldl (fun s e => s.modEngPl e fun p => { p with spare := false }) s
    match mostWorn s1 ((quadEngines q).filter (usableEngine s1)) with
    | some e => setSpare s1 e
    | none => s1

/-- Every quad's spare as R381 wants it. -/
def ensureSpares (s : State) : State := (List.finRange 4).foldl ensureSpare s

/-- The spare role of each quad passes on (R400). -/
def rotateSpares (s : State) : State := (List.finRange 4).foldl (fun s q =>
  match mostWorn s ((quadEngines q).filter (eligible s)) with
  | some e => setSpare s e
  | none => s) s

/-! Placing (R384). -/

/-- A task as a round places it. -/
structure PTask where
  /-- Task number. -/
  num : Nat
  /-- Kind. -/
  kind : TaskKind
  /-- Place in the order of R384. -/
  key : List Nat
  /-- Load. -/
  load : Nat
  /-- Engine it is pinned to. -/
  pin : Option (Fin 16)
  /-- Its present engine. -/
  at_ : Option (Fin 16)
  deriving DecidableEq, Repr

/-- The key of a task in the order of R384. -/
def orderKey (s : State) (n : Nat) (t : Task) : List Nat :=
  let rank := match t.kind with
    | .feature => 3
    | .canDuty => 0
    | .callDuty => 0
    | _ => t.cls.toNat
  let i := t.subject.toNat
  let second := if t.kind == .feature then 4 - min 4 (cfgFeatKeep s (i / 64) (i % 64 + 1)).toNat else 2 ^ 64 - min (2 ^ 64) (taskLoad s t)
  [b2n t.pinned.isNone, rank, second, n]

/-- The tasks in the order of R384. -/
def placeOrder (s : State) : List PTask := sortBy PTask.key (s.canvas.tasks.map fun e =>
  { num := e.1, kind := e.2.kind, key := orderKey s e.1 e.2, load := taskLoad s e.2, pin := e.2.pinned, at_ := e.2.engine })

/-- What a round has placed. -/
structure Placed where
  /-- Engine of each task by number. -/
  prim : Tab (Fin 16) := []
  /-- Loads of the engines. -/
  loads : Loads := Vector.replicate 16 0
  /-- Tasks not placed, in order. -/
  left : List PTask := []
  deriving DecidableEq, Repr

/-- The load that a quad carries. -/
def quadLoad (l : Loads) (q : Fin 4) : Nat := ((quadEngines q).map (vat l)).sum

/-- The placing with task t on engine e. -/
def Placed.put (x : Placed) (t : PTask) (e : Fin 16) : Placed :=
  { x with prim := tset x.prim t.num e, loads := vmod x.loads e (· + t.load) }

/-- The engine that R384 gives task t at cap k. -/
def choose (s : State) (k : Nat) (rebal : Bool) (x : Placed) (t : PTask) : Option (Fin 16) :=
  let fits (e : Fin 16) : Bool := withinCap s e k (vat x.loads e + t.load)
  let pin := t.pin.bind fun e => if eligible s e then some e else none
  let keep := if rebal then none else t.at_.bind fun e => if eligible s e && fits e then some e else none
  match pin, keep with
  | some e, _ => some e
  | none, some e => some e
  | none, none =>
    leastBy (fun e => [2 ^ 80 - min (2 ^ 80) (quadLoad x.loads (quadOf e)), wearKey s e, e.val])
      ((List.finRange 16).filter fun e => eligible s e && fits e)

/-- One task placed at cap k, or left. -/
def placeOne (s : State) (k : Nat) (rebal : Bool) (x : Placed) (t : PTask) : Placed := match choose s k rebal x t with
  | some e => x.put t e
  | none => { x with left := x.left ++ [t] }

/-- Every task placed at cap k (R384). -/
def placeAll (s : State) (k : Nat) (rebal : Bool) : Placed := (placeOrder s).foldl (placeOne s k rebal) {}

/-- Some task that is no feature was left. -/
def Placed.short (x : Placed) : Bool := x.left.any fun t => t.kind != .feature

/-- The round repeated with the cap raised a step at a time while alarm work is unplaced (R37, R384). -/
def placeFrom (s : State) (rebal : Bool) : Nat → Placed × Nat
  | 0 => (placeAll s 0 rebal, 0)
  | k + 1 =>
    let x := placeAll s (k + 1) rebal
    if x.short then placeFrom s rebal k else (x, k + 1)

/-- A task left at 800 MHz on the eligible engine with the least load (R384). -/
def placeOver (s : State) (x : Placed) (t : PTask) : Placed :=
  if t.kind == .feature || t.kind == .dutyPoint then { x with left := x.left ++ [t] }
  else match leastBy (fun e => [vat x.loads e, e.val]) ((List.finRange 16).filter (eligible s)) with
    | some e => x.put t e
    | none => { x with left := x.left ++ [t] }

/-! Standbys (R385). -/

/-- Loads that the engines take over at the loss of each quad, by 4 * engine + quad. -/
abbrev Falls := Vector Nat 64

/-- What engine e takes over at the loss of quad q. -/
def fallAt (f : Falls) (e : Fin 16) (q : Fin 4) : Nat := vat f ⟨4 * e.val + q.val, by omega⟩

/-- The condition of R385: engine e may stand by for a load of quad q. -/
def standbyOk (l : Loads) (f : Falls) (e : Fin 16) (q : Fin 4) (load : Nat) : Bool :=
  (List.finRange 4).all fun x =>
    decide (vat l e + fallAt f e x + (if x = q then load else 0) ≤ 95 * stepHz 0)

/-- The standby engine that R385 gives a task of quad q. -/
def standbyFor (s : State) (l : Loads) (f : Falls) (q : Fin 4) (load : Nat) : Option (Fin 16) :=
  let spares := ([1, 2, 3].map fun d : Nat => (⟨(q.val + d) % 4, Nat.mod_lt _ (by decide)⟩ : Fin 4)).filterMap fun r =>
    (quadEngines r).find? fun e => (engPl s e).spare && usableEngine s e
  let others := sortBy (fun e => [vat l e, e.val]) ((List.finRange 16).filter fun e => eligible s e && decide (quadOf e ≠ q))
  (spares ++ others).find? fun e => standbyOk l f e q load

/-- What a round has given standbys. -/
structure Stood where
  /-- Standby of each task by number. -/
  sb : Tab (Fin 16) := []
  /-- Loads taken over. -/
  falls : Falls := Vector.replicate 64 0
  deriving DecidableEq, Repr

/-- One task given its standby. -/
def standOne (s : State) (x : Placed) (y : Stood) (t : PTask) : Stood := match tget x.prim t.num with
  | none => y
  | some e => match standbyFor s x.loads y.falls (quadOf e) t.load with
    | some b =>
      { sb := tset y.sb t.num b
        falls := vmod y.falls ⟨4 * b.val + (quadOf e).val, by omega⟩ (· + t.load) }
    | none => y

/-! The decision (R384 to R386). -/

/-- A placement decision. -/
structure Plan where
  /-- The primaries, with what is left. -/
  x : Placed := {}
  /-- The standbys. -/
  y : Stood := {}
  /-- Tasks that 800 MHz did not hold: PLACEMENT_OVERLOAD. -/
  excess : List PTask := []
  /-- Clock step that caps the engines. -/
  cap : Nat := 0
  deriving DecidableEq, Repr

/-- The decision that a round computes (R384, R385). -/
def planOf (s : State) (rebal : Bool) : Plan :=
  let a := placeFrom s rebal (s.power.eff.toNat)
  let excess := if a.2 = 0 then a.1.left.filter fun t => t.kind != .feature else []
  let x := if a.2 = 0 then a.1.left.foldl (placeOver s) { a.1 with left := [] } else a.1
  { x := x, y := (placeOrder s).foldl (standOne s x) {}, excess := excess, cap := a.2 }

/-- The slowest step, within cap k, at which a load is within the engine's cap (R384). -/
def slowest (s : State) (e : Fin 16) (k load : Nat) : Nat :=
  if withinCap s e 3 load then 3 else if k ≤ 2 ∧ withinCap s e 2 load = true then 2
  else if k ≤ 1 ∧ withinCap s e 1 load = true then 1 else k

/-- Loads in permille of a clock. -/
def permille (load hz : Nat) : BitVec 16 := BitVec.ofNat 16 (min 65535 (load * 10 / hz))

end Sys2Proof.Machine
end

