-- ==== Sys2Proof/Machine/Duty.lean ====
section
/-! DEFINITION. The ship-wide duties: the membership view, their assignment, taking and releasing them, and DUTY
(R403, R409 to R413, R421). -/

namespace Sys2Proof.Machine
open Sys2Proof

/-! Records of the form of R129. -/

/-- One record of an amendment or a duty image (R129). -/
structure AmRec where
  /-- Word 0: the section type in [31:24], zero below. -/
  w0 : Word
  /-- Entity key. -/
  key : Word
  /-- Header of the field record. -/
  head : Word
  /-- Its value words. -/
  vs : List Word
  /-- It reaches beyond the end. -/
  short : Bool := false
  deriving DecidableEq, Repr

/-- Section type of a record. -/
def AmRec.sec (r : AmRec) : Nat := bits r.w0 31 24

/-- FIELD_ID of a record. -/
def AmRec.fld (r : AmRec) : Nat := bits r.head 31 16

/-- The records that words spell (R129). -/
def amRecs : Nat → List Word → List AmRec
  | 0, _ => []
  | _ + 1, [] => []
  | n + 1, w0 :: rest => match rest with
    | key :: head :: vs =>
      let len := bits head 7 0
      if vs.length < len then [{ w0 := w0, key := key, head := head, vs := vs, short := true }]
      else { w0 := w0, key := key, head := head, vs := vs.take len } :: amRecs n (vs.drop len)
    | _ => [{ w0 := w0, key := rest.headD wNone, head := 0, vs := [], short := true }]

/-! Duty images taken (R403, R410). -/

/-- The words of section sec in a duty image. -/
def imageSection (rs : List AmRec) (sec : Nat) : List Word :=
  (rs.filter fun r => decide (r.sec = sec) && !r.short).flatMap fun r => r.head :: r.vs

/-- IDENTITY as it bears on the checks of node x's image. -/
def peerIdentity (s : State) (x : Nat) : Sect :=
  let p := peerAt s x
  { top := { fields := [(1, { ws := [w32 x] }), (2, { ws := [p.ownFirst.setWidth 32] }), (3, { ws := [p.ownLast.setWidth 32] })] } }

/-- Node x's duty image read and checked under R120 and R121 (R403). -/
def readImage (s : State) (x : Nat) (ws : List Word) : Tab Sect :=
  let rs := amRecs ws.length ws
  let t := [6, 7, 8, 10].foldl (fun t sec => match readSection t (decide (s.sys.variantB)) sec (imageSection rs sec) with
    | some c => tset t sec c.1
    | none => t) [(1, peerIdentity s x)]
  terase t 1

/-- A point that this node stops evaluating: its last publication stays in the replica. -/
def givePoint (s : State) (p : Nat) : State := match tget s.points p with
  | none => s
  | some l =>
    let r : RepPt := { tgetD s.canvas.replica p {} with
      holder := BitVec.ofNat 8 (nodeNum s), byDuty := l.byDuty, seq := l.alarm.seq, pub := l.pub, at_ := now s, stale := false, hit := l.hit, evals := l.evalCount }
    { s with points := terase s.points p, canvas := { s.canvas with replica := tset s.canvas.replica p r } }

/-- Peer alarm duty for node x taken: each point of its image is evaluated here from its first evaluation on (R403, R412). -/
def takePeer (s : State) (x : Nat) : State :=
  let t := readImage s x ((peerAt s x).image.getD [])
  { s with cfg := { s.cfg with duty := tset s.cfg.duty x t } }

/-- Peer alarm duty for node x released (R412). -/
def dropPeer (s : State) (x : Nat) : State :=
  let ps := (imagePoints (tgetD s.cfg.duty x [])).filter fun p => match tget s.points p with
    | some l => l.byDuty
    | none => false
  let s1 := ps.foldl givePoint s
  { s1 with cfg := { s1.cfg with duty := terase s1.cfg.duty x } }

/-! Segment duties (R412, R467). -/

/-- Number of transmit buffer k (R479). -/
def txIdx (k : Fin 16) : Fin 64 := ⟨48 + k.val, by omega⟩

/-- Transmit buffer k of a controller (R479). -/
def txBuf (c : CanCtl) (k : Fin 16) : CanBuf := vat c.bufs (txIdx k)

/-- The controllers configured for segment g. -/
def segControllers (s : State) (g : Nat) : List (Fin 2) := (List.finRange 2).filter fun c =>
  cfgHas s 12 (c.val * 65536) && !s.cfg.absent && decide ((cfgCanSegment s c.val).toNat = g)

/-- The own points that controller c feeds (R296). -/
def fedPoints (s : State) (c : Nat) : List Nat := (ownPoints s).filter fun p => decide (feederOf s p = some c)

/-- The pending transmit buffer that controller k offers: the least identifier in arbitration order, then the lower
number (R477). -/
def offered (k : CanCtl) : Option (Fin 16) :=
  leastBy (fun i => let b := txBuf k i
    [b.id.toNat / 2 ^ 18, b2n b.ide, b.id.toNat, i.val]) ((List.finRange 16).filter fun i => (txBuf k i).full)

/-- A transmit buffer's end by cancellation (R469, R478). -/
def cancelled (b : CanBuf) : CanBuf :=
  { b with full := false, txResult := 3, cancel := false, won := false, errors := 0 }

/-- Controller c enters RESTRICTED: a frame already being sent is completed, every other pending buffer ends CANCELLED
(R469). -/
def canRestrict (s : State) (c : Fin 2) : State :=
  let k := vat s.can c
  let gone := (List.finRange 16).filter fun i => (txBuf k i).full && !(txBuf k i).won
  let k1 := gone.foldl (fun k1 i => { k1 with
    bufs := vmod k1.bufs (txIdx i) fun b => { cancelled b with sending := decide (offered k = some i) }
    txCancelled := satInc k1.txCancelled }) k
  let s1 := { s with panels := { s.panels with txq := s.panels.txq.filter fun e => decide (e.1 ≠ c.val) } }
  s1.modCan c fun _ => { k1 with mode := .restricted }

/-- Segment duty g taken: the controller's points are evaluated here, no panel of it is LOST yet; it may leave restricted
operation after 20 ms (R368, R412). -/
def takeSeg (s : State) (g : Fin 32) : State :=
  let mine (k : Nat) : Bool := (segControllers s g.val).any fun c => decide (c.val = k / 65536)
  let s1 := { s with
    canvas := { s.canvas with segTaken := vmod s.canvas.segTaken g fun _ => some (now s) }
    panels := { s.panels with tab := tmap s.panels.tab fun k q => if mine k then { q with lost := false } else q } }
  (segControllers s g.val).foldl (fun s c =>
    ((fedPoints s c.val).foldl (takePoint' false) s).modCan c fun k => { k with idleSeen := false }) s1

/-- Segment duty g released: its points pass on, its controllers enter restricted operation (R412). -/
def dropSeg (s : State) (g : Fin 32) : State :=
  let s1 := { s with canvas := { s.canvas with segTaken := vmod s.canvas.segTaken g fun _ => none } }
  (segControllers s g.val).foldl (fun s c =>
    let s2 := (fedPoints s c.val).foldl givePoint s
    if (vat s.can c).mode == .normal then canRestrict s2 c else s2) s1

/-! The membership view (R94, R408, R409). -/

/-- This node is counted under its own rules: REPLICA and PLACEMENT READY, with a configuration (R94, R409). -/
def selfCounted (s : State) : Bool := !s.cfg.absent && fnReady s 0x09 0 && fnReady s 0x0A 0

/-- Node n is in the membership view (R409). -/
def inView (s : State) (n : Nat) : Bool :=
  if n = nodeNum s then selfCounted s else (peerAt s n).st == .counted

/-- The membership view, bit n for node n (R409). -/
def viewOf (s : State) : BitVec 64 := BitVec.ofNat 64 (maskOf 64 (inView s))

/-- The nodes of the view, rising. -/
def viewNodes (s : State) : List Nat := (List.range 64).filter (inView s)

/-- A change of view makes a round due (R382). -/
def noteView (s : State) : State :=
  if viewOf s = s.canvas.view then s else roundSoon { s with canvas := { s.canvas with view := viewOf s } }

/-- SEGMENTS of this node: bit g while a controller of segment g is CAN READY (R408). -/
def ownSegments (s : State) : Word := w32 (maskOf 32 fun g => (segControllers s g).any fun c => fnReady s 0x06 c.val)

/-- SEGMENTS of node n. -/
def segmentsOf (s : State) (n : Nat) : Word := if n = nodeNum s then ownSegments s else (peerAt s n).segments

/-! Assignment (R410, R411). -/

/-- A peer alarm duty exists for node x (R410). -/
def peerDutyFor (s : State) (x : Nat) : Bool :=
  let p := peerAt s x
  decide (x ≠ nodeNum s) && (p.everCounted || p.image.isSome) &&
    (p.st == .absent || (p.st == .present && (peerHolder s x).isSome))

/-- Node n may hold the peer alarm duty for node x; other nodes are taken to hold the image (R410; log entry 55). -/
def mayHoldPeer (s : State) (x n : Nat) : Bool :=
  inView s n && decide (n ≠ x) && (decide (n ≠ nodeNum s) || (peerAt s x).image.isSome)

/-- How many peer alarm duties node n holds in a table. -/
def dutiesHeld (v : Vector (BitVec 8) 64) (n : Nat) : Nat := (v.toList.filter fun h => decide (h.toNat = n)).length

/-- The node of a list that takes the peer alarm duty for node x: the fewest held, then the least (n - x) modulo 64 (R411). -/
def peerChoice (v : Vector (BitVec 8) 64) (x : Nat) (l : List Nat) : Option Nat :=
  leastBy (fun n => [dutiesHeld v n, (n + 64 - x) % 64]) l

/-- The peer alarm duties: those kept, then those assigned in ascending order; and whether an image is missing here (R411,
R421). -/
def assignPeers (s : State) : Vector (BitVec 8) 64 × Bool :=
  let kept := Vector.ofFn fun x : Fin 64 => match peerHolder s x.val with
    | some n => if peerDutyFor s x.val && mayHoldPeer s x.val n then BitVec.ofNat 8 n else 0xFF
    | none => 0xFF
  (List.finRange 64).foldl (fun a x =>
    if peerDutyFor s x.val && decide (vat a.1 x = 0xFF) then
      let all := (viewNodes s).filter fun n => decide (n ≠ x.val)
      let missing := decide (peerChoice a.1 x.val all = some (nodeNum s)) && (peerAt s x.val).image.isNone
      match peerChoice a.1 x.val ((viewNodes s).filter (mayHoldPeer s x.val)) with
      | some n => (vmod a.1 x fun _ => BitVec.ofNat 8 n, a.2 || missing)
      | none => (a.1, a.2 || missing)
    else a) (kept, false)

/-- The segment duties (R411). -/
def assignSegs (s : State) : Vector (BitVec 8) 32 := Vector.ofFn fun g : Fin 32 =>
  let ok (n : Nat) : Bool := inView s n && bit (segmentsOf s n) g.val
  match segHolder s g.val with
  | some n => if ok n then BitVec.ofNat 8 n else (((viewNodes s).find? ok).map (BitVec.ofNat 8)).getD 0xFF
  | none => (((viewNodes s).find? ok).map (BitVec.ofNat 8)).getD 0xFF

/-- The call duty; none comes to this node before its CALLING is READY (R86, R411). -/
def assignCall (s : State) : BitVec 8 :=
  let h := s.canvas.duty.call
  let v := (viewNodes s).filter fun n => !(decide (n = nodeNum s) && callShut s)
  if h ≠ 0xFF ∧ v.contains h.toNat = true then h
  else if h = 0xFF then (v.head?.map (BitVec.ofNat 8)).getD 0xFF
  else match v.find? fun n => decide (h.toNat < n) with
    | some n => BitVec.ofNat 8 n
    | none => (v.head?.map (BitVec.ofNat 8)).getD 0xFF

/-- The duty table that a round computes (R411). -/
def assignDuty (s : State) : DutyTab × Bool :=
  let a := assignPeers s
  ({ peer := a.1, seg := assignSegs s, call := assignCall s, epoch := s.canvas.duty.epoch }, a.2)

/-! DUTY (R413). -/

/-- Four holders in a word, the first in the lowest byte. -/
def quadWord (v : List (BitVec 8)) (k : Nat) : Word :=
  let g (i : Nat) : BitVec 8 := v.getD (4 * k + i) 0xFF
  g 3 ++ g 2 ++ g 1 ++ g 0

/-- A word with its complement. -/
def pairW (w : Word) : List Word := [w, ~~~w]

/-- The pairs of a duty table, formed as it takes effect (R49, R50, R413). -/
def tabPairs (d : DutyTab) : Vector Pair 24 :=
  Vector.ofFn fun k : Fin 24 => Pair.mk0 (if k.val < 16 then quadWord d.peer.toList k.val else quadWord d.seg.toList (k.val - 16))

/-- The payload of DUTY: its status words formed by the sender, the duties copied (R50, R413). -/
def dutyWords (s : State) : List Word :=
  let d := s.canvas.duty
  let v := viewOf s
  pairW (at' 24 d.call.toNat ||| at' 16 (viewNodes s).length) ++ pws d.epoch ++ pairW (v.extractLsb' 0 32) ++
    pairW (v.extractLsb' 32 32) ++ d.words.toList.flatMap pws

/-- DUTY sent (R413). -/
def sendDuty (s : State) : State := bcast s 0 0x26 (dutyWords s)

/-- DUTY_SEND: every 1 000 ms (R413). -/
def execDutySend (s : State) : Host.Outcome State Fault Refusal :=
  doIf (up s && !s.cfg.absent && fnReady s 0x01 0) s (sendDuty s)

/-! A new table (R411, R412, R421). -/

/-- This node holds a peer alarm duty. -/
def holdsPeer (s : State) : Bool := s.canvas.duty.peer.toList.any fun h => decide (h.toNat = nodeNum s)

/-- Peer alarm duty x as it passes from one holder to another. -/
def passPeer (old : DutyTab) (s : State) (x : Fin 64) : State :=
  let me := nodeNum s
  let was := decide ((vat old.peer x).toNat = me)
  let is := decide ((vat s.canvas.duty.peer x).toNat = me)
  if was && !is then dropPeer s x.val else if is && !was then takePeer s x.val else s

/-- Segment duty g as it passes from one holder to another. -/
def passSeg (old : DutyTab) (s : State) (g : Fin 32) : State :=
  let me := nodeNum s
  let was := decide ((vat old.seg g).toNat = me)
  let is := decide ((vat s.canvas.duty.seg g).toNat = me)
  if was && !is then dropSeg s g else if is && !was then takeSeg s g else s

/-- The call duty as it passes from one holder to another. -/
def passCall (s : State) : State :=
  if s.canvas.duty.call.toNat = nodeNum s then takeCallDuty s else dropCallDuty s

/-- A duty table takes effect on this node (R376, R411 to R413). -/
def applyDuty (s : State) (d : DutyTab) : State :=
  let old := s.canvas.duty
  if d.peer = old.peer ∧ d.seg = old.seg ∧ d.call = old.call then s
  else
    let e := Pair.mk0 (old.epoch.v + 1)
    let s1 := { s with canvas := { s.canvas with duty := { d with epoch := e, words := tabPairs d } } }
    let s2 := (List.finRange 64).foldl (passPeer old) s1
    let s3 := passCall ((List.finRange 32).foldl (passSeg old) s2)
    panelConds (sysSet (sendDuty (refreshStale s3)) 0x21 (holdsPeer s3))

end Sys2Proof.Machine
end

