-- ==== Sys2Proof/Machine/Round.lean ====
section
/-! DEFINITION. Placement rounds and agreement, handover, drains, engine actions, wear and the spare role, PLACEMENT
(R382 to R394, R399, R400, R419, R423, R425). -/

namespace Sys2Proof.Machine
open Sys2Proof

/-! What shows of engines (R419, R423). -/

/-- ROLE of engine e: 0 IDLE, 1 WORKING, 2 SPARE, 3 WITHDRAWN, 4 ABSENT (R423). -/
def roleOf (s : State) (e : Fin 16) : Nat :=
  if !(quadAt s (quadOf e)).st.counts then 4
  else if (engineAt s e).withdrawn then 3
  else if (engPl s e).spare then 2
  else if s.canvas.tasks.any fun t => decide (t.2.primary = some e) then 1 else 0

/-- The step engine e runs at or is about to. -/
def stepOf (s : State) (e : Fin 16) : Nat := match (engineAt s e).nextStep with
  | some k => k.toNat
  | none => (engineAt s e).step.toNat

/-- Tasks whose primary is engine e. -/
def primCount (s : State) (e : Fin 16) : Nat := (s.canvas.tasks.filter fun t => decide (t.2.primary = some e)).length

/-- Tasks whose standby is engine e. -/
def standCount (s : State) (e : Fin 16) : Nat := (s.canvas.tasks.filter fun t => decide (t.2.standby = some e)).length

/-- The mask of the quads whose controllers count (R386). -/
def countedMask (s : State) : BitVec 4 :=
  BitVec.ofNat 4 (maskOf 4 fun i => if h : i < 4 then (quadAt s ⟨i, h⟩).st.counts else false)

/-- A decision as its pairs: the status word, and a word for each engine (R419). -/
def decisionPairs (s : State) : List Pair :=
  let c := s.canvas
  Pair.mk0 (at' 28 c.agreement.toNat ||| at' 24 c.counted.toNat ||| at' 20 c.dissent.toNat ||| w32 c.unplaced.toNat) ::
    (List.finRange 16).map fun e => Pair.mk0 (at' 28 (roleOf s e) ||| at' 26 (stepOf s e) |||
      at' 16 (min 1023 (engPl s e).loadPm.toNat) ||| at' 8 (min 255 (primCount s e)) ||| w32 (min 255 (standCount s e)))

/-- The payload of PLACEMENT: the effective decision's pairs as they were formed (R50, R419). -/
def placementWords (s : State) : List Word :=
  pws s.canvas.epoch ++ (if s.canvas.decision.isEmpty then decisionPairs s else s.canvas.decision).flatMap pws

/-- PLACEMENT sent (R419). -/
def sendPlacement (s : State) : State :=
  bcast { s with canvas := { s.canvas with placementSentAt := now s, placementDue := false } } 1 0x25 (placementWords s)

/-- A decision's PLACEMENT: at once, or when 100 ms have passed since the last (R419). -/
def notePlacement (s : State) : State :=
  if s.canvas.placementSentAt + 100 ≤ now s then sendPlacement s else { s with canvas := { s.canvas with placementDue := true } }

/-- PLACEMENT_PERIODIC: what waited for the 100 ms to run out, or 10 s without one (R419). -/
def execPlacementPeriodic (s : State) : Host.Outcome State Fault Refusal :=
  let t := s.canvas.placementSentAt
  doIf (up s && !s.cfg.absent && fnReady s 0x01 0 && (decide (t + 10000 ≤ now s) || (s.canvas.placementDue && decide (t + 100 ≤ now s)))) s
    (sendPlacement s)

/-! A decision takes effect (R384, R385, R387, R392). -/

/-- A task under a decision: it moves where its old engine's quad is in service, and is taken at once where it is not. -/
def applyTask (s : State) (p : Plan) (n : Nat) (t : Task) : Task :=
  let new := tget p.x.prim n
  let alive := match t.primary with
    | some o => (quadAt s (quadOf o)).st.counts
    | none => false
  let t1 := { t with standby := tget p.y.sb n }
  match new with
  | none => { t1 with primary := none, standby := none, moving := none }
  | some e =>
    if t.primary = some e then { t1 with moving := none }
    else if alive then { t1 with moving := some e } else { t1 with primary := some e, moving := none }

/-- The clock step and the loads of engine e under a decision (R384, R385). -/
def applyEngine (p : Plan) (s : State) (e : Fin 16) : State :=
  let load := vat p.x.loads e
  let k := if load = 0 then max (stepOf s e) p.cap else slowest s e p.cap load
  let fall := ((List.finRange 4).filter fun q => decide (q ≠ quadOf e)).foldl (fun m q => max m (load + fallAt p.y.falls e q)) load
  let s1 := s.modEngPl e fun x => { x with taken := false, loadPm := permille load (stepHz k), failPm := permille fall (stepHz 0) }
  if (engineAt s e).step.toNat = k then s1.modEngine e fun x => { x with nextStep := none }
  else s1.modEngine e fun x => { x with nextStep := some (BitVec.ofNat 2 k) }

/-- A feature that a decision does or does not place (R225, R384). -/
def applyFeature (p : Plan) (s : State) (n : Nat) (t : Task) : State :=
  let i := t.subject.toNat
  let ch : Fin 16 := ⟨i / 64 % 16, Nat.mod_lt _ (by decide)⟩
  let k := i % 64 + 1
  let st := (featAt s ch k).st
  if (tget p.x.prim n).isNone then
    if st == .heldShed then s else s.modFeat ch k fun f => { f with st := .heldUnplaced }
  else if st == .heldUnplaced then
    if featShed s ch k then s.modFeat ch k fun f => { f with st := .heldShed }
    else resumeFeat s ch k
  else s

/-- Every feature under a decision. -/
def applyFeatures (p : Plan) (s : State) : State :=
  (s.canvas.tasks.filter fun t => t.2.kind == .feature).foldl (fun s t => applyFeature p s t.1 t.2) s

/-- What of the engines PLACEMENT follows: role and step of each. -/
def engineFace (s : State) : List (Nat × Nat) := (List.finRange 16).map fun e => (roleOf s e, stepOf s e)

/-- A decision takes effect (R384, R385, R387, R391, R419, R421). -/
def applyPlan (s : State) (p : Plan) : State :=
  let before := engineFace s
  let s1 := { s with canvas := { s.canvas with
    tasks := tmap s.canvas.tasks (applyTask s p), unplaced := BitVec.ofNat 16 (min 65535 p.x.left.length)
    epoch := Pair.mk0 (s.canvas.epoch.v + 1) } }
  let moved := s1.canvas.tasks.any fun t => match tget s.canvas.tasks t.1 with
    | some o => decide (o.engine ≠ t.2.engine)
    | none => true
  let s2 := writeSlots (applyFeatures p ((List.finRange 16).foldl (applyEngine p) s1))
  let s3 := sysSet (sysSet s2 0x22 (!p.excess.isEmpty)) 0x25 (s2.canvas.tasks.any fun t => t.2.standby.isNone)
  let s3' := { s3 with canvas := { s3.canvas with decision := decisionPairs s3 } }
  let s4 := noteShed (sysClear s3' 0x24)
  capCheck (if moved || decide (engineFace s4 ≠ before) then notePlacement s4 else s4)

/-! Agreement (R386 to R389). -/

/-- How many identical decisions n counted quads need, none where no decision can take effect (R387). -/
def needed (n : Nat) : Option Nat := match n with
  | 4 => some 3
  | 3 => some 2
  | 2 => some 2
  | _ => none

/-- AGREEMENT shown for n counted quads (R387). -/
def agreementCode (n : Nat) : BitVec 4 := match n with
  | 4 => 0
  | 3 => 1
  | 2 => 2
  | _ => 3

/-- The quads of a mask. -/
def maskQuads (m : BitVec 4) : List (Fin 4) := (List.finRange 4).filter fun q => m.getLsbD q.val

/-- Quad q ordered to drain, its PLL running for the handover (R25, R32, R394). -/
def startDrain (s : State) (q : Fin 4) (d : DrainTo) (hold : Bool) : State :=
  roundSoon (s.modQuad q fun x => { x with st := .drain, drainTo := some d, drainHold := hold, pllLock := true })

/-- Quad q's controller charged; the third charge within 24 h drains it to OFF (R388). -/
def chargeQuad (s : State) (q : Fin 4) : State :=
  let ts := (recMs s).toNat :: recentFaults s (vat s.canvas.quad q).charges
  let s1 := sysRaise (perfAdd (s.modQuadPl q fun p => { p with charges := ts }) (0x1002 + 256 * q.val) 1) 0x23
  if 3 ≤ ts.length ∧ (quadAt s1 q).st.inService = true then startDrain s1 q .toOff false else s1

/-- The points by duty after a decision: one whose task is left unplaced is evaluated no more, and one placed that waits for its
first evaluation is woken for it (R292, R384, R412). -/
def followDuty (s : State) : State :=
  (dutyPoints s).foldl (fun s p => match tget s.points p, pointEngine s p with
    | some _, none => givePoint s p
    | none, some _ => wakePoint s p
    | _, _ => s) s

/-- One round: the quads of `late` give no decision in time, those of `differ` one that differs, those of `bad` one whose
pair fails (R382 to R388, R411). -/
def runRound (s : State) (late differ bad : BitVec 4) : State :=
  let c := countedMask s
  let n := (maskQuads c).length
  let agree := (maskQuads (c &&& ~~~(late ||| differ ||| bad))).length
  let ok := match needed n with
    | some k => decide (k ≤ agree)
    | none => false
  let charged := c &&& (late ||| bad ||| (if ok then differ else 0))
  let s1 := (maskQuads c).foldl (fun s q => perfAdd s (0x1001 + 256 * q.val) 1)
    { s with canvas := { s.canvas with rounds := s.canvas.rounds + 1, agreement := agreementCode n, counted := c, dissent := charged } }
  let s2 := (maskQuads (c &&& bad)).foldl (fun s q => pairFail s 3 (subj s 7 q.val) []) s1
  let s3 :=
    if ok then
      let d := assignDuty s2
      let t := sysSet (applyDuty { s2 with canvas := { s2.canvas with
        roundDue := false, failedOnce := false, lastRound := now s, view := viewOf s2 } } d.1) 0x29 d.2
      let t1 := ensureSpares (syncTasks t)
      let t2 := followDuty (applyPlan t1 (planOf t1 s.canvas.rebalance))
      { t2 with canvas := { t2.canvas with rebalance := false } }
    else if s2.canvas.failedOnce then
      sysRaise { s2 with canvas := { s2.canvas with roundDue := false, failedOnce := false, lastRound := now s } } 0x24
    else { s2 with canvas := { s2.canvas with roundDue := true, failedOnce := true } }
  (maskQuads charged).foldl chargeQuad s3

/-- A round is due (R382). -/
def roundWanted (s : State) : Bool :=
  s.canvas.roundDue || decide (s.canvas.lastRound + 1000 ≤ now s) || decide (s.canvas.rounds = 0) ||
    decide (viewOf s ≠ s.canvas.view) || overCap s

/-- PLACEMENT_ROUND (R382 to R388). -/
def execPlacementRound (late differ badPair : BitVec 4) (s : State) : Host.Outcome State Fault Refusal :=
  doIf (up s && !s.cfg.absent && s.cfg.fwLoaded && decide (s.cfg.phasesDone = 3) && roundWanted s) s
    (runRound s late differ badPair)

/-- TASK_HANDOVER: the old engine has written the task record, the new engine goes on (R392). -/
def execTaskHandover (task : Nat) (s : State) : Host.Outcome State Fault Refusal :=
  match (tget s.canvas.tasks task).bind Task.moving with
  | some e =>
    doIf (up s) s { s with canvas := { s.canvas with tasks := tmod s.canvas.tasks task fun t => { t with primary := some e, moving := none } } }
  | none => .next s

/-! Drains (R25, R394). -/

/-- The remaining engines hold every POINT task with a standby once quad q drains (R394). -/
def drainFits (s : State) (q : Fin 4) : Bool :=
  let t := syncTasks (s.modQuad q fun x => { x with st := .drain })
  let p := planOf t false
  !(p.excess.any fun x => x.kind == .point) && (t.canvas.tasks.all fun x =>
    x.2.kind != .point || ((tget p.x.prim x.1).isSome && (tget p.y.sb x.1).isSome))

/-- A drain of quad q is not refused (R394). -/
def mayDrain (s : State) (q : Fin 4) : Bool :=
  (quadAt s q).st.inService &&
    !((List.finRange 4).any fun x => decide (x ≠ q) && ((quadAt s x).st == .drain || (quadAt s x).st == .update || (quadAt s x).st == .reset)) &&
    drainFits s q

/-- DRAIN_OFF written (R394, R423). -/
def drainOff (s : State) (q : Fin 4) : State := if mayDrain s q then startDrain s q .toOff true else s

/-- DRAIN_OFF (R394, R423). -/
def execDrainOff (r : Req) (q : Fin 4) (s : State) : Host.Outcome State Fault Refusal := doIf (may s r 2) s (drainOff s q)

/-- RESUME written: a drain is cancelled (R25, R394). -/
def resumeQuad (s : State) (q : Fin 4) : State :=
  if (quadAt s q).st == .drain then roundSoon (s.modQuad q fun x => { x with st := .run, drainTo := none, drainHold := false }) else s

/-- RESUME (R394, R423). -/
def execResume (r : Req) (q : Fin 4) (s : State) : Host.Outcome State Fault Refusal := doIf (may s r 2) s (resumeQuad s q)

/-- DRAIN_COMPLETE: the quad enters what the drain was ordered for (R25, R391). -/
def execDrainComplete (q : Fin 4) (s : State) : Host.Outcome State Fault Refusal :=
  let t := match (quadAt s q).drainTo with
    | some .toUpdate => s.modQuad q fun x => { x with st := .update, epoch := nextEpoch x.epoch, running := [], pllLock := false, drainTo := none }
    | _ => s.modQuad q fun x => x.toOff (now s)
  doIf (up s && (quadAt s q).st == .drain) s (quadLeft t q)

/-- UPDATE_LOADED (R25). -/
def execUpdateLoaded (q : Fin 4) (s : State) : Host.Outcome State Fault Refusal :=
  doIf (up s && (quadAt s q).st == .update) s (s.modQuad q Quad.toReset)

/-! Engine actions, wear and the spare role (R66, R399, R400, R423, R425). -/

/-- Some engine is withdrawn. -/
def anyWithdrawn (s : State) : Bool := s.engines.toList.any Engine.withdrawn

/-- RETRY of an engine (R66, R423). -/
def retryEngine (s : State) (e : Fin 16) : State :=
  if (engineAt s e).withdrawn then
    let s1 := roundSoon (s.modEngine e fun x => { x with withdrawn := false, faultTimes := [] })
    sysSet s1 0x08 (anyWithdrawn s1)
  else s

/-- ENGINE_RETRY (R66, R423). -/
def execEngineRetry (r : Req) (e : Fin 16) (s : State) : Host.Outcome State Fault Refusal := doIf (may s r 3 && fnReady s 0x0A 0) s (retryEngine s e)

/-- A rebalance round is due (R382). -/
def rebalance (s : State) : State := roundSoon { s with canvas := { s.canvas with rebalance := true } }

/-- REBALANCE (R425). -/
def execRebalance (r : Req) (s : State) : Host.Outcome State Fault Refusal := doIf (may s r 2 && fnReady s 0x0A 0) s (rebalance s)

/-- ROTATE_NOW (R400, R425). -/
def execRotateNow (r : Req) (s : State) : Host.Outcome State Fault Refusal := doIf (may s r 3 && fnReady s 0x0A 0) s (rebalance (rotateSpares s))

/-- A node that FORGET_NODE or its being counted takes out of the nodes PEER_ABSENT is raised for (R421). -/
def peerAbsent (s : State) : Bool :=
  s.canvas.peers.any fun e => e.2.st == .absent && !e.2.forgotten && (e.2.everCounted || e.2.image.isSome)

/-- Node n leaves the set of R421 until it is next counted (R425). -/
def forget (s : State) (n : Nat) : State :=
  let s1 := if (tget s.canvas.peers n).isSome then s.modPeer n fun p => { p with forgotten := true } else s
  sysSet s1 0x20 (peerAbsent s1)

/-- FORGET_NODE (R421, R425). -/
def execForgetNode (r : Req) (n : BitVec 8) (s : State) : Host.Outcome State Fault Refusal := doIf (may s r 3 && fnReady s 0x0A 0) s (forget s n.toNat)

/-- ROTATION_DAYS in milliseconds (R400). -/
def rotationMs (s : State) : Nat := (cfgPlcRotationDays s).toNat * 86400000

/-- A multiple of ROTATION_DAYS of operating time has been reached since the last one rotated for (R400). -/
def rotationDue (s : State) : Bool :=
  s.bkup.timeKnown && decide (s.canvas.rotatedAt / rotationMs s < opMs s / rotationMs s)

/-- SPARE_ROTATION: a multiple of ROTATION_DAYS of operating time (R400). -/
def execSpareRotation (s : State) : Host.Outcome State Fault Refusal :=
  doIf (up s && !s.cfg.absent && decide (s.cfg.phasesDone = 3) && rotationDue s) s
    (rebalance (rotateSpares { s with canvas := { s.canvas with rotatedAt := opMs s } }))

/-- Some engine is WORN. -/
def anyWorn (s : State) : Bool := s.canvas.eng.toList.any EngPl.worn

/-- WEAR in ppm of an engine whose delay monitor reads hz at junction temperature tj, (F0 - F) / F0 (R399). -/
def wearOf (e : Fin 16) (hz tj : Word) : Word :=
  let f0 : Int := (Config.monitorF0 e.val).toNat
  let f : Int := (Config.monitorAt85 e.val hz tj).toNat
  wInt (iClamp (-2147483648) 2147483647 (roundRat (mkRat ((f0 - f) * 1000000) f0.toNat)))

/-- The WEAR that a reading gives: WORN from 20 000 ppm, withdrawn from 40 000 (R399). -/
def readWear (s : State) (e : Fin 16) (ppm : Word) : State :=
  let worn := decide (20000 ≤ ppm.toInt)
  let s1 := s.modEngPl e fun p => { p with wearPpm := ppm, worn := worn }
  let s2 := sysSet (if worn && !(engPl s e).worn then roundSoon s1 else s1) 0x27 (anyWorn s1)
  if 40000 ≤ ppm.toInt ∧ (engineAt s e).withdrawn = false then withdraw s2 e else s2

/-- WEAR_READ: the delay monitor of an engine whose quad is in RUN (R399). -/
def execWearRead (e : Fin 16) (hz tj : Word) (s : State) : Host.Outcome State Fault Refusal :=
  doIf (up s && (quadAt s (quadOf e)).st == .run) s (readWear s e (wearOf e hz tj))

end Sys2Proof.Machine
end

