-- ==== Sys2Proof/Machine/Fw.lean ====
section
/-! DEFINITION. Firmware copies: their headers, loading one through FW_WINDOW, verifying and applying it (R104, R105,
R394 to R398). -/

namespace Sys2Proof.Machine
open Sys2Proof

/-! Copies on NOR (R104, R105). -/

/-- Q in bytes (R104). -/
def norQ (s : State) : Nat := s.nor.mib * 2 ^ 20 / 4

/-- Word i of firmware copy k. -/
def fwWord (s : State) (k : Bool) (i : Nat) : Word := memWord norByte s.nor.bytes (fwBase s k + 4 * i)

/-- The largest body length (R105). -/
def fwCap (s : State) : Nat := min (norQ s) (8 * 2 ^ 20) - 64

/-- The magic and the body length of a copy's header check (R105). -/
def fwShape (s : State) (k : Bool) : Bool :=
  decide (fwWord s k 0 = 0x4B444657) && decide (1 ≤ (fwWord s k 3).toNat ∧ (fwWord s k 3).toNat ≤ fwCap s)

/-- A copy's header checks (R105). -/
def fwHeaderOk (s : State) (k : Bool) : Bool := decide (0 < norQ s) && fwShape s k && fwWord s k 2 == ~~~(fwWord s k 1)

/-- A copy's body has the CRC its header gives (R105). -/
def fwBodyOk (s : State) (k : Bool) : Bool :=
  crc32 (memBytes norByte s.nor.bytes (fwBase s k + 64) (fwWord s k 3).toNat) == fwWord s k 4

/-- FW_SEQ of the copies whose headers check, the higher; 0 where none does (R396). -/
def fwHighest (s : State) : Nat :=
  max (if fwHeaderOk s false then (fwWord s false 1).toNat else 0) (if fwHeaderOk s true then (fwWord s true 1).toNat else 0)

/-! Writing a copy (R135, R395 to R397). -/

/-- A NOR write runs: a commit, an image load or the writing of a firmware copy (R135). -/
def norBusy (s : State) : Bool :=
  s.nor.job.isSome || s.nor.image == .erasing || s.nor.image == .receiving || s.nor.image == .verifying ||
    s.canvas.fw.st == .erasing || s.canvas.fw.st == .receiving || s.canvas.fw.st == .verifying

/-- The state with the firmware load passed through f. -/
def State.modFw (s : State) (f : Fw → Fw) : State := { s with canvas := { s.canvas with fw := f s.canvas.fw } }

/-- FW_BEGIN written: the target region is erased (R395). -/
def fwBegin (s : State) : State :=
  let st := s.canvas.fw.st
  if (st == .idle || st == .applied || st == .rejected || st == .failed) && startComplete s && !norBusy s &&
      (s.nor.image == .idle || s.nor.image == .rejected) then
    let s1 := s.modFw fun f => { f with done := 0, at_ := none, target := !s.cfg.fwCopy, next := 0, seq := 0, version := 0 }
    setFw { s1 with nor := { s1.nor with bytes := memErase s1.nor.bytes (fwBase s1 s1.canvas.fw.target) (norQ s1), progress := 0 } } .erasing
  else s

/-- FW_BEGIN (R395, R425). -/
def execFwBegin (r : Req) (s : State) : Host.Outcome State Fault Refusal := doIf (may s r 3) s (fwBegin s)

/-- FW_ERASE_COMPLETE (R395). -/
def execFwEraseComplete (s : State) : Host.Outcome State Fault Refusal :=
  doIf (up s && s.canvas.fw.st == .erasing) s (setFw (s.modFw fun f => { f with writtenAt := now s }) .receiving)

/-- One word of the window programmed: words 1 and 2, and words past the copy's region, are not (R396). -/
def fwProgram (s : State) (i : Nat) (w : Word) : State :=
  if i = 1 ∨ i = 2 ∨ min (norQ s) (8 * 2 ^ 20) ≤ 4 * i then s
  else { s with nor := { s.nor with bytes := memSetWord norByte s.nor.bytes (fwBase s s.canvas.fw.target + 4 * i) w, progress := s.nor.progress + 4 } }

/-- A write to FW_WINDOW: ignored unless its first word is the next one (R138, R396). -/
def fwWindow (s : State) (idx : Nat) (ws : List Word) : State :=
  if s.canvas.fw.st == .receiving && decide (idx = s.canvas.fw.next.toNat) then
    let s1 := ws.zipIdx.foldl (fun s e => fwProgram s (idx + e.2) e.1) s
    s1.modFw fun f => { f with next := f.next + BitVec.ofNat 21 ws.length, writtenAt := now s }
  else s

/-- FW_WINDOW_WRITE (R396, R424). -/
def execFwWindowWrite (r : Req) (idx : BitVec 21) (ws : List Word) (s : State) : Host.Outcome State Fault Refusal :=
  doIf (may s r 3) s (fwWindow s idx.toNat ws)

/-- FW_COMMIT written (R395). -/
def fwCommit (s : State) : State := if s.canvas.fw.st == .receiving then setFw s .verifying else s

/-- FW_COMMIT (R395, R425). -/
def execFwCommit (r : Req) (s : State) : Host.Outcome State Fault Refusal := doIf (may s r 3) s (fwCommit s)

/-- FW_VERIFY_COMPLETE: the copy checked, its FW_SEQ pair programmed; or REJECTED (R396). -/
def fwVerified (s : State) : State :=
  let k := s.canvas.fw.target
  let n := w32 (fwHighest s + 1)
  if fwShape s k && fwBodyOk s k && decide (fwHighest s + 1 < 0xFFFFFFFF) then
    let s1 := { s with nor := { s.nor with bytes := memSetWords norByte s.nor.bytes (fwBase s k + 4) [n, ~~~n], progress := s.nor.progress + 8 } }
    setFw (s1.modFw fun f => { f with seq := n, version := fwWord s k 5 }) .staged
  else setFw s .rejected

/-- FW_VERIFY_COMPLETE (R395, R396). -/
def execFwVerifyComplete (s : State) : Host.Outcome State Fault Refusal :=
  doIf (up s && s.canvas.fw.st == .verifying) s (fwVerified s)

/-- CANCEL written (R395, R397). -/
def fwCancel (s : State) : State := match s.canvas.fw.st with
  | .receiving => setFw s .idle
  | .staged => setFw (invalidateCopy s) .idle
  | _ => s

/-- FW_CANCEL (R395, R425). -/
def execFwCancel (r : Req) (s : State) : Host.Outcome State Fault Refusal := doIf (may s r 3) s (fwCancel s)

/-- FW_RECEIVE_TIMEOUT: 10 min without a window write (R395). -/
def execFwReceiveTimeout (s : State) : Host.Outcome State Fault Refusal :=
  doIf (up s && s.canvas.fw.st == .receiving && decide (s.canvas.fw.writtenAt + 600000 ≤ now s)) s (setFw s .idle)

/-! Applying a copy (R398). -/

/-- Quad q runs the new firmware. -/
def runsNew (s : State) (q : Fin 4) : Bool := (quadAt s q).st.inService && decide ((quadAt s q).fwSeq = s.canvas.fw.seq)

/-- The next quad to update: the lowest in SLEEP or RUN that does not run the new firmware (R398). -/
def nextQuad (s : State) : Option (Fin 4) := (List.finRange 4).find? fun q => (quadAt s q).st.inService && !runsNew s q

/-- The next quad is drained for its update, where the drain is not refused; none left: APPLIED (R394, R395, R398). -/
def fwNext (s : State) : State :=
  let s1 := s.modFw fun f => { f with done := BitVec.ofNat 4 (maskOf 4 fun i => if h : i < 4 then runsNew s ⟨i, h⟩ else false), at_ := none }
  match nextQuad s1 with
  | none =>
    if (List.finRange 4).any fun q => (quadAt s1 q).st == .drain || (quadAt s1 q).st == .update || (quadAt s1 q).st == .reset then s1
    else sysClear (setFw (s1.modFw fun f => { f with held := some (f.seq, f.version) }) .applied) 0x28
  | some q =>
    if mayDrain s1 q then sendProgress (startDrain (s1.modFw fun f => { f with at_ := some q }) q .toUpdate false) else s1

/-- APPLY written: no quad has failed with this firmware yet (R395, R398). -/
def fwApply (s : State) : State :=
  if s.canvas.fw.st == .staged then
    fwNext (setFw ((List.finRange 4).foldl (fun s q => s.modQuadPl q fun p => { p with reload := false }) s) .applying)
  else s

/-- FW_APPLY (R395, R398, R425). -/
def execFwApply (r : Req) (s : State) : Host.Outcome State Fault Refusal := doIf (may s r 3) s (fwApply s)

/-- The quad step under way has ended: its quad runs the new firmware and an effective round has counted it, or it is not
being updated any more (R398). -/
def stepEnded (s : State) : Bool := match s.canvas.fw.at_ with
  | none => true
  | some q =>
    ((quadAt s q).st.inService && (!runsNew s q || (s.canvas.counted.getLsbD q.val && !s.canvas.roundDue))) ||
      (quadAt s q).st == .off || (quadAt s q).st == .failed

/-- FW_QUAD_STEP_COMPLETE (R398). -/
def execFwQuadStepComplete (s : State) : Host.Outcome State Fault Refusal :=
  doIf (up s && s.canvas.fw.st == .applying && stepEnded s) s (fwNext s)

end Sys2Proof.Machine
end

