-- ==== Sys2Proof/Machine/Report.lean ====
section
/-! DEFINITION. Suspect configuration and CONFIG_REPORT (R122, R123, R126, R127). -/

namespace Sys2Proof.Machine
open Sys2Proof

/-- What is suspect, as section type and key: sections with no usable copy, section fields and entities (R122). -/
def suspects (s : State) : List (Nat × Word) := s.cfg.run.flatMap fun c =>
  (if c.2.noCopy || c.2.top.suspect then [(c.1, wNone)] else []) ++
    ((c.2.ents.filter fun e => e.2.suspect).map fun e => (c.1, w32 e.1))

/-- Something is suspect (R123, R141). -/
def anySuspect (s : State) : Bool := !(suspects s).isEmpty

/-- CONFIG_SUSPECT while anything is suspect, and a record of each suspect entity (R123, R490). -/
def noteSuspects (s : State) : State :=
  (suspects s).foldl (fun s e => stage s (mkRec s .d 0x45 (subj s 6 e.1) e.2 [])) (sysSet s 0x03 (anySuspect s))

/-- FLAGS of a report in the places of word 0 (R126). -/
def reportFlags (s : State) (truncated rejected : Bool) : Word :=
  flag 23 s.cfg.slot ||| flag 22 s.cfg.fallback ||| flag 21 s.cfg.absent ||| flag 20 s.cfg.interrupted |||
    flag 19 truncated ||| flag 18 (anySuspect s) ||| flag 17 rejected ||| flag 16 s.nor.pendingRestart

/-- The four words of a report entry (R126). -/
def entryWords (e : RepEntry) : List Word :=
  [at' 24 e.sec.toNat ||| at' 16 e.reason.toNat ||| e.fld.setWidth 32, e.key, e.found, e.applied]

/-- Parts of a report of n entries, at least one and at most 255 (R127). -/
def reportParts (n : Nat) : Nat := min 255 (max 1 ((n + 87) / 88))

/-- Words 0 and 1 of part p (R126). -/
def reportHead (kind : Nat) (flags : Word) (n p : Nat) : List Word :=
  [at' 24 kind ||| flags ||| at' 8 p ||| w32 (reportParts n), at' 16 (min n 0xFFFF) ||| w32 (min 88 (n - 88 * p))]

/-- A report: its messages, its record and a record of each entry (R126, R127). -/
def sendReport (s : State) (kind : Nat) (rejected : Bool) (seq : Pair) (es : List RepEntry) : State :=
  let n := es.length
  let flags := reportFlags s (decide (4096 < n)) rejected
  let s1 := (List.range (reportParts n)).foldl (fun s p =>
    bcast s 1 0x24 (reportHead kind flags n p ++ pws seq ++ timeWords s ++ [0] ++
      ((es.drop (88 * p)).take 88).flatMap entryWords)) s
  let s2 := stage s1 (mkRec s1 .e 0x11 (subj s1 7 0) 0 (reportHead kind flags n 0 ++ pws seq))
  es.foldl (fun s e => stage s (mkRec s .d 0x44 (subj s 6 e.sec.toNat) 0 (entryWords e))) s2

/-- The start report leaves once the read has ended and RING is READY (R127). -/
def startReport (s : State) : State :=
  if decide (3 ≤ s.cfg.phasesDone) && fnReady s 0x01 0 && !s.cfg.reportSent then
    sendReport { s with cfg := { s.cfg with reportSent := true } } 1 false s.cfg.seqInUse s.cfg.report
  else s

end Sys2Proof.Machine
end

