-- ==== Sys2Proof/Machine/Slot.lean ====
section
/-! DEFINITION. Configuration slots: their choice, and the commit of the working copy as a new slot
(R107, R108, R116, R132 to R136). -/

namespace Sys2Proof.Machine
open Sys2Proof

/-! The commit marker in BACKUP_RAM words 0 to 3: the target and the new SLOT_SEQ, with their complements (R133, R134). -/

/-- Word 0 of the marker for a target. -/
def markerWord (target : Bool) : Word := 0x4B444D00 ||| w32 (b2n target)

/-- A marker stands. -/
def markerSet (s : State) : Bool :=
  let w := vat s.bkup.ram 0
  decide (bits w 31 8 = 0x4B444D) && vat s.bkup.ram 2 == ~~~w && vat s.bkup.ram 3 == ~~~(vat s.bkup.ram 1)

/-- The four words of the marker put into a copy of the RAM. -/
def markerRam (m : Vector Word 256) (a b c d : Word) : Vector Word 256 :=
  vmod (vmod (vmod (vmod m 0 fun _ => a) 1 fun _ => b) 2 fun _ => c) 3 fun _ => d

/-- The marker written, naming the target and the new SLOT_SEQ. -/
def putMarker (s : State) (target : Bool) (seq : Word) : State :=
  let w := markerWord target
  { s with bkup := { s.bkup with ram := markerRam s.bkup.ram w seq (~~~w) (~~~seq) } }

/-- The marker cleared. -/
def clearMarker (s : State) : State := { s with bkup := { s.bkup with ram := markerRam s.bkup.ram 0 0 0 0 } }

/-! Slots (R104, R116, R142). -/

/-- Byte offset of slot b (R104). -/
def slotBase (s : State) (b : Bool) : Nat := if b then norQ s else 0

/-- The slot's header is valid (R103, R109). -/
def slotOk (s : State) (b : Bool) : Bool := decide (0 < norQ s) && headerOk s (slotBase s b) (norQ s)

/-- SLOT_SEQ of a slot. -/
def seqOf (s : State) (b : Bool) : Word := slotSeq s (slotBase s b)

/-- The slot used, none where neither is valid (R116). -/
def chosenSlot (s : State) : Option Bool := match slotOk s false, slotOk s true with
  | true, true => some (decide ((seqOf s false).toNat < (seqOf s true).toNat))
  | true, false => some false
  | false, true => some true
  | false, false => none

/-- The highest valid SLOT_SEQ on NOR (R142). -/
def highestSeq (s : State) : Word := w32
  (max (if slotOk s false then (seqOf s false).toNat else 0) (if slotOk s true then (seqOf s true).toNat else 0))

/-- SEQ_HIGHEST and OTHER_VALID follow the NOR (R141, R142; log entry 99). -/
def refreshSlots (s : State) : State :=
  { s with cfg := { s.cfg with
      seqHighest := Pair.mk0 (highestSeq s), otherValid := slotOk s (!s.cfg.slot) } }

/-- The slot that a commit or an image load writes (R132, R137). -/
def targetSlot (s : State) : Bool :=
  if s.cfg.fallback then s.cfg.slot
  else match chosenSlot s with
    | some b => !b
    | none => false

/-! The slot that a commit writes (R107, R108, R111, R132, R139). -/

/-- The words of a section as committed; one without a word holds the ENTITY record of its section fields. -/
def commitWords (t : Tab Sect) (sec : Nat) (c : Sect) : List Word :=
  let ws := sectionWords t sec c
  if ws.isEmpty then entityWords wNone c.top.suspect else ws

/-- The sections laid out from byte off on: type, offset and words. -/
def layOut (t : Tab Sect) : Nat → Tab Sect → List (Nat × Nat × List Word)
  | _, [] => []
  | off, e :: l =>
    let ws := commitWords t e.1 e.2
    (e.1, off, ws) :: layOut t (off + 4 * ws.length) l

/-- The sections of a table as a slot holds them. -/
def slotParts (t : Tab Sect) : List (Nat × Nat × List Word) := layOut t 0x10000 t

/-- The section table. -/
def tableWords (l : List (Nat × Nat × List Word)) : List Word := l.flatMap fun e =>
  [at' 24 e.1 ||| at' 16 1, w32 e.2.1, w32 (4 * e.2.2.length), crc32 (wordBytes e.2.2)]

/-- Header and section table of sections l with COMMIT and ~COMMIT left erased; BUILD_ID and BUILDER as in the slot in use. -/
def headWords (s : State) (l : List (Nat × Nat × List Word)) (seq : Word) : List Word :=
  let len := (l.map fun e => e.2.1 + 4 * e.2.2.length).foldl max 0x10000
  let base := slotBase s s.cfg.slot
  let h := [0x4B444349, at' 16 1 ||| w32 l.length, seq, ~~~seq, w32 len,
    slotWord s base 5, slotWord s base 6, slotWord s base 7] ++ List.replicate 52 0
  let tb := tableWords l
  h ++ [0xFFFFFFFF, 0xFFFFFFFF, crc32 (wordBytes (h ++ tb)), 0] ++ tb

/-! The commit (R131 to R136). -/

/-- Words programmed at byte a. -/
def program (s : State) (a : Nat) (ws : List Word) : State :=
  { s with nor := { s.nor with bytes := memSetWords norByte s.nor.bytes a ws, progress := s.nor.progress + w32 (4 * ws.length) } }

/-- Bytes erased. -/
def eraseNor (s : State) (a n : Nat) : State :=
  refreshSlots { s with nor := { s.nor with bytes := memErase s.nor.bytes a n } }

/-- Bytes rounded up to 64 KiB blocks. -/
def blocks64 (n : Nat) : Nat := (n + 0xFFFF) / 0x10000 * 0x10000

/-- The words of AMEND_BUFFER that AMEND_LENGTH takes in. -/
def amendWords (s : State) : List Word :=
  let n := s.nor.amendLen.toNat
  (s.nor.buffer ++ List.replicate (n - s.nor.buffer.length) 0).take n

/-- The amendment's records (R129). -/
def amendRecs (s : State) : List AmRec := amRecs (s.nor.amendLen.toNat + 1) (amendWords s)

/-- An entity's key, none for section fields. -/
def AmRec.ent (r : AmRec) : Option Nat := if r.key = wNone then none else some r.key.toNat

/-- The records rewrite every critical field of an entity (R124, R130). -/
def rewrites (t : Tab Sect) (rs : List AmRec) (sec : Nat) (key : Option Nat) : Bool :=
  ((specsOf t sec key).filter FieldSpec.crit).all fun f => rs.any fun r =>
    decide (r.sec = sec) && decide (r.ent = key) && decide (r.fld = f.fld)

/-- An entity, or the section fields, no longer suspect. -/
def unsuspect (t : Tab Sect) (sec : Nat) (key : Option Nat) : Tab Sect := tmod t sec fun c => match key with
  | none => if c.noCopy then c else { c with top := { c.top with suspect := false } }
  | some k => { c with ents := tmod c.ents k fun e => { e with suspect := false } }

/-- Every entity that the records rewrite in all its critical fields is no longer suspect (R124). -/
def clearSuspects (t : Tab Sect) (rs : List AmRec) : Tab Sect :=
  rs.foldl (fun t r => if rewrites t rs r.sec r.ent then unsuspect t r.sec r.ent else t) t

/-- The working copy as the commit writes it: the entities that its amendment rewrites are no longer marked (R124, R132). -/
def commitCopy (s : State) (j : NorJob) : Tab Sect :=
  if j.why == .amendment then clearSuspects s.cfg.work (amendRecs s) else s.cfg.work

/-- What a commit does as step n of R133 begins: the working copy is serialised in step 1, and NOR erased and programmed from
step 3 on. Step 7 programs COMMIT, and as its place 8 ~COMMIT, with which the pair is complete (R133, R134). -/
def enterStep (s : State) (j : NorJob) (n : Nat) : State :=
  let base := slotBase s j.target
  let s1 : State := { s with nor := { s.nor with job := some { j with step := n } } }
  match n with
  | 1 =>
    let l := slotParts (commitCopy s j)
    { s1 with nor := { s1.nor with progress := 0, job := some { j with step := 1, parts := l, head := headWords s l j.seq } } }
  | 2 => putMarker s1 j.target j.seq
  | 3 => eraseNor s1 base 0x10000
  | 4 => eraseNor s1 (base + 0x10000) (blocks64 (4 * (j.parts.map fun e => e.2.2.length).sum))
  | 5 => j.parts.foldl (fun s e => program s (base + e.2.1) e.2.2) s1
  | 6 => program (program s1 base (j.head.take 60)) (base + 248) (j.head.drop 62)
  | 7 => program s1 (base + 240) [0x4B44434D]
  | 8 => refreshSlots (program s1 (base + 244) [0xB4BBBCB2])
  | _ => s1

/-- A commit cannot be made or has failed: the amendment goes to FAILED, COMMIT_FAILED is raised (R131, R132). -/
def commitFailed (s : State) (why : CommitFor) : State :=
  let s1 := sysRaise { s with nor := { s.nor with job := none } } 0x04
  if why == .amendment then { s1 with nor := { s1.nor with amend := .failed } } else s1

/-- The oldest waiting commit starts: a trim announces itself, an amendment's commit carries the trims (R132, R135, R197). -/
def startCommit (s : State) : State := match s.nor.waiting with
  | [] => s
  | why :: rest =>
    let left := if why == .amendment then rest.filter fun w => !(w == .trim) else rest
    let n := (highestSeq s).toNat + 1
    let s1 : State := { s with nor := { s.nor with waiting := left } }
    if 0xFFFFFFFF ≤ n then commitFailed s1 why
    else
      let j : NorJob := { why := why, target := targetSlot s, seq := w32 n }
      let s2 := if why == .trim then sendReport s1 2 false (Pair.mk0 j.seq) [] else s1
      enterStep s2 j 1

/-- The commit that may start now: none before the start is complete, none while an image is PENDING, which the next start is
to read; a trim waits for an amendment (R80, R135, R137, R197). -/
def commitDue (s : State) : Bool := startComplete s && !(s.nor.image == .pending) && match s.nor.waiting with
  | [] => false
  | why :: _ => !(why == .trim && (s.nor.amend == .open_ || s.nor.amend == .checking))

/-- COMMIT_START: one NOR write at a time (R133, R135). -/
def execCommitStart (s : State) : Host.Outcome State Fault Refusal :=
  doIf (up s && !norBusy s && commitDue s) s (startCommit s)

/-- A slot has become valid: SEQ_HIGHEST, the record (R133, R138, R490). -/
def slotCommitted (s : State) (target : Bool) (seq : Word) (image repair : Bool) : State :=
  let s1 := refreshSlots s
  stage s1 (mkRec s1 .p 0x05 (subj s1 7 0) 0
    (pws (Pair.mk0 seq) ++ [flag 0 target ||| flag 1 image ||| flag 2 repair]))

/-- The commit pair has been programmed and read back (R124, R131, R133). -/
def commitDone (s : State) (j : NorJob) : State :=
  let s2 := clearMarker { s with nor := { s.nor with job := none } }
  let s3 := slotCommitted s2 j.target j.seq false (j.why == .repair)
  if j.why == .amendment then
    let s4 : State := { s3 with
      nor := { s3.nor with amend := .committed }
      cfg := { s3.cfg with
        run := clearSuspects s3.cfg.run (amendRecs s3), work := clearSuspects s3.cfg.work (amendRecs s3) } }
    sysClear (sysSet s4 0x03 (anySuspect s4)) 0x04
  else s3

/-- NOR_COMMIT_STEP_COMPLETE: the next step, or a new attempt after a read-back that differs, the second such in
succession failing the commit (R131, R133). -/
def execNorCommitStepComplete (readBackOk : Bool) (s : State) : Host.Outcome State Fault Refusal := match s.nor.job with
  | none => .next s
  | some j =>
    doIf (up s) s
      (if 5 ≤ j.step ∧ j.step ≠ 7 ∧ readBackOk = false then
         (if 1 ≤ j.failures then commitFailed s j.why else enterStep s { j with failures := j.failures + 1 } 1)
       else if 8 ≤ j.step then commitDone s j
       else enterStep s j (j.step + 1))

end Sys2Proof.Machine
end

