-- ==== Sys2Proof/Machine/Member.lean ====
section
/-! DEFINITION. Membership: heartbeats, absence, duty conflicts and ring-bandwidth grants (R407 to R418, R421, R445, R447). -/

namespace Sys2Proof.Machine
open Sys2Proof

/-! Grants (R417, R441). -/

/-- A history cursor has filled its window within 10 s (R512). -/
def cursorBusy (s : State) (c : Cursor) : Bool := match c.filledAt with
  | some t => c.owned && decide (now s < t + 10000)
  | none => false

/-- This node's C3 request, kbit/s (R219, R417, R441, R512, R557). -/
def ownNeed (s : State) : Nat :=
  let hist := if s.linen.cursors.toList.any (cursorBusy s) then (cfgHistHistoryReadKbps s).toNat else 0
  min 500000 (vibNeed s + hist + dumpNeed s + 1000 * (cfgRingStationC3Mbps s).toNat)

/-- The budget B this node computes, Mbit/s (R417). -/
def ownBudget (s : State) : Nat :=
  let fast (p : Fin 3) : Bool := (vat s.ring.ports p).mode = 3
  if fast 0 && fast 1 then 1500 else 600

/-- The C3 request of node n of the view. -/
def needOf (s : State) (n : Nat) : Nat := if n = nodeNum s then ownNeed s else min 500000 (peerAt s n).c3Need.toNat

/-- The budget that node n of the view computes, Mbit/s. -/
def budgetOf (s : State) (n : Nat) : Nat := if n = nodeNum s then ownBudget s else (peerAt s n).c3Budget.toNat

/-- The budget used, kbit/s: the least of the view (R417). -/
def viewBudget (s : State) : Nat := match viewNodes s with
  | [] => 1000 * ownBudget s
  | n :: ns => 1000 * ns.foldl (fun m x => min m (budgetOf s x)) (budgetOf s n)

/-- One pass of R417: the waiting nodes whose request is at most the share take it. -/
def grantPass (share : Nat) (a : Nat × List (Nat × Nat) × Tab Word) (w : Nat × Nat) : Nat × List (Nat × Nat) × Tab Word :=
  if w.2 ≤ share then (a.1 - w.2, a.2.1, tset a.2.2 w.1 (w32 w.2)) else (a.1, a.2.1 ++ [w], a.2.2)

/-- The grants of R417: nodes and requests that wait, what remains, the grants so far; as many passes as nodes. -/
def grantLoop : Nat → Nat → List (Nat × Nat) → Tab Word → Tab Word
  | 0, _, _, g => g
  | n + 1, rem, waiting, g =>
    if waiting.isEmpty then g
    else
      let share := rem / waiting.length
      let a := waiting.foldl (grantPass share) (rem, [], g)
      if a.2.1.length = waiting.length then waiting.foldl (fun g w => tset g w.1 (w32 share)) g
      else grantLoop n a.1 a.2.1 a.2.2

/-- The grants of the view (R417). -/
def viewGrants (s : State) : Tab Word :=
  let waiting := ((viewNodes s).map fun n => (n, needOf s n)).filter fun w => decide (0 < w.2)
  grantLoop (waiting.length + 1) (viewBudget s) waiting []

/-- The grants computed; this node's takes effect (R417, R418). -/
def computeGrants (s : State) : State :=
  let g := viewGrants s
  let own := tgetD g (nodeNum s) 0
  refreshStreams { s with
    canvas := { s.canvas with grants := g, grant := own, budget := w32 (viewBudget s), need := w32 (ownNeed s) }
    vib := { s.vib with grantKbps := BitVec.ofNat 16 (min 65535 own.toNat) } }

/-- C3_GRANT_COMPUTE (R417). -/
def execC3GrantCompute (s : State) : Host.Outcome State Fault Refusal :=
  doIf (up s && fnReady s 0x01 0) s (computeGrants s)

/-! HEARTBEAT (R408). -/

/-- The nine words of HEARTBEAT (R408). -/
def heartbeatWords (s : State) : List Word :=
  let w0 := flag 31 (fnReady s 0x09 0) ||| flag 30 (fnReady s 0x0A 0) ||| flag 29 s.cfg.absent ||| s.canvas.beat.setWidth 32
  pairW w0 ++ pairW (at' 16 (cfgIdOwnFirst s).toNat ||| w32 ((cfgIdOwnLast s).toNat % 65536)) ++ pairW (ownSegments s) ++
    [w32 (ownNeed s), at' 16 (ownBudget s), at' 8 (recCycle s).toNat]

/-- HEARTBEAT_SEND; a node whose DRAM has failed sends none, and its peers declare it absent (R75, R408). -/
def execHeartbeatSend (s : State) : Host.Outcome State Fault Refusal :=
  let s1 := { s with canvas := { s.canvas with beat := s.canvas.beat + 1 } }
  doIf (up s && !s.dram.failed && fnReady s 0x01 0) s (bcast s1 0 0x2B (heartbeatWords s1))

/-- What a node's restart undoes here: the SEQUENCE expected from it and the base of its snapshot (R445). -/
def peerRestarted (s : State) (n : Nat) : State :=
  let e := [0, 1, 2, 3].foldl (fun (t : Tab Expect) c => terase t (expectKey n c)) s.ring.expects
  ({ s with ring := { s.ring with expects := e } }).modPeer n fun p => { p with snapped := false, snapParts := [], imageBase := 0, imageParts := [] }

/-- A node that the last heartbeat makes counted (R409). -/
def countsNow (p : Peer) : Bool := decide (3 ≤ p.beats) && p.replicaReady && p.placementReady && !p.configAbsent

/-- Node n is counted: its duties as owner end at the next round, merging begins anew, its snapshot is requested where it
was absent (R406, R409, R410, R421). -/
def nowCounted (s : State) (n : Nat) : State :=
  let p := peerAt s n
  let s1 := s.modPeer n fun p => { p with st := .counted, everCounted := true, forgotten := false, back := false }
  let s2 := if p.back then
      sendAction { s1 with canvas := { s1.canvas with replica := tmap s1.canvas.replica fun _ r => { r with merged := false } } } (some n) 1
    else s1
  refreshStale (sysSet s2 0x20 (peerAbsent s2))

/-- A checking HEARTBEAT of a node whose number is bound to its sender (R408, R409, R445). -/
def takeBeat (s : State) (n : Nat) (ws : List Word) : State :=
  let g (i : Nat) : Word := ws.getD i 0
  let old := peerAt s n
  let s0 := if old.replicaReady && !bit (g 0) 31 then peerRestarted s n else s
  let count : BitVec 16 := (g 0).setWidth 16
  let s1 := s0.modPeer n fun p => { p with
    heardAt := some (now s), beatNo := count
    beats := if p.st != .unknown && p.st != .absent && decide (count = p.beatNo + 1) then p.beats + 1 else 1
    replicaReady := bit (g 0) 31, placementReady := bit (g 0) 30, configAbsent := bit (g 0) 29
    ownFirst := (g 2).extractLsb' 16 16, ownLast := (g 2).extractLsb' 0 16, segments := g 4, c3Need := g 6
    c3Budget := (g 7).extractLsb' 16 16 }
  let p := peerAt s1 n
  let s2 :=
    if countsNow p then (if p.st == .counted then s1 else nowCounted s1 n)
    else refreshStale (s1.modPeer n fun p => { p with st := .present })
  noteView s2

/-- HEARTBEAT_RECEIVE (R408, R409, R447). -/
def execHeartbeatReceive (mac : BitVec 48) (src : BitVec 8) (payload : List Word) (s : State) : Host.Outcome State Fault Refusal :=
  let n := src.toNat
  let g (i : Nat) : Word := payload.getD i 0
  let checks := [0, 2, 4].all fun i => g (i + 1) == ~~~(g i)
  let clash := sysRaise s 0x30
  let eff :=
    if n = nodeNum s then (if mac = nodeMac s then s else clash)
    else match tget s.ring.bindings n with
      | some m => if m = mac then takeBeat s n payload else clash
      | none => takeBeat { s with ring := { s.ring with bindings := tset s.ring.bindings n mac } } n payload
  doIf (up s && fnReady s 0x01 0 && decide (n < 64) && checks) s eff

/-- Node n is absent: its binding is released, and what this node expected of it (R409, R421, R447). -/
def nowAbsent (s : State) (n : Nat) : State :=
  let s1 := (peerRestarted s n).modPeer n fun p => { p with st := .absent, beats := 0, back := true }
  let s2 := { s1 with ring := { s1.ring with bindings := terase s1.ring.bindings n } }
  noteView (refreshStale (sysSet s2 0x20 (peerAbsent s2)))

/-- PEER_ABSENT_TIMEOUT: 325 ms after a node's last heartbeat (R409). -/
def execPeerAbsentTimeout (n : Fin 64) (s : State) : Host.Outcome State Fault Refusal :=
  let p := peerAt s n.val
  let due := match p.heardAt with
    | some t => decide (t + 325 ≤ now s)
    | none => false
  doIf (up s && (p.st == .present || p.st == .counted) && due) s (nowAbsent s n.val)

/-! DUTY received (R413, R414). -/

/-- Holder byte i of the words of DUTY from word b: four to a word and its complement (R413). -/
def holderByte (ws : List Word) (b i : Nat) : Nat := bits (ws.getD (b + 2 * (i / 4)) 0) (8 * (i % 4) + 7) (8 * (i % 4))

/-- The claimant that keeps a duty which this node's table gives to h and node n claims: the lower number (R414). -/
def keeper (h : BitVec 8) (claim n : Nat) : BitVec 8 :=
  if claim = n ∧ h ≠ 0xFF ∧ h.toNat ≠ n ∧ n < h.toNat then BitVec.ofNat 8 n else h

/-- Node n claims a duty that this node's table gives to another (R414). -/
def contested (h : BitVec 8) (claim n : Nat) : Bool := decide (claim = n) && decide (h ≠ 0xFF) && decide (h.toNat ≠ n)

/-- The duty table after node n's DUTY (R414). -/
def settle (d : DutyTab) (ws : List Word) (n : Nat) : DutyTab :=
  { d with
    peer := Vector.ofFn fun x : Fin 64 => keeper (vat d.peer x) (holderByte ws 8 x.val) n
    seg := Vector.ofFn fun g : Fin 32 => keeper (vat d.seg g) (holderByte ws 40 g.val) n
    call := keeper d.call (bits (ws.headD 0) 31 24) n }

/-- Some duty is contested by node n's DUTY (R414). -/
def anyContested (d : DutyTab) (ws : List Word) (n : Nat) : Bool :=
  ((List.finRange 64).any fun x => contested (vat d.peer x) (holderByte ws 8 x.val) n) ||
  ((List.finRange 32).any fun g => contested (vat d.seg g) (holderByte ws 40 g.val) n) ||
  contested d.call (bits (ws.headD 0) 31 24) n

/-- The pairs of DUTY (R413). -/
def dutyPairs (ws : List Word) : List Pair := (List.range 28).map fun i => ⟨ws.getD (2 * i) 0, ws.getD (2 * i + 1) 0⟩

/-- DUTY of a counted node (R60, R413, R414). -/
def takeDuty (s : State) (n : Nat) (ws : List Word) : State :=
  let bad := (dutyPairs ws).filter fun p => !p.ok
  if !bad.isEmpty then pairFail s 7 (subjectWord 1 n 0x21) bad
  else if anyContested s.canvas.duty ws n then roundSoon (applyDuty s (settle s.canvas.duty ws n))
  else s

/-- DUTY_RECEIVE (R413, R414). -/
def execDutyReceive (src : Fin 64) (payload : List Word) (s : State) : Host.Outcome State Fault Refusal :=
  doIf (up s && fnReady s 0x01 0 && (peerAt s src.val).st == .counted) s (takeDuty s src.val payload)

end Sys2Proof.Machine
end

