-- ==== Sys2Proof/Machine/Can.lean ====
section
/-! DEFINITION. The CAN FD controllers: modes, filters, buffers, transmission, error counts and mapped receive entries
(R463 to R487). -/

namespace Sys2Proof.Machine
open Sys2Proof

/-! Time, frames and filters. -/

/-- Controller c. -/
def canAt (s : State) (c : Fin 2) : CanCtl := vat s.can c

/-- CAN_TIME in µs (R486), to the millisecond of the model's clock. -/
def canTime (s : State) : Word := w32 (s.sys.msSince.toNat * 1000)

/-- Data bytes of a DLC (R463, R472): ISO 11898-1's table for FD frames, at most 8 for classical ones. -/
def dlcBytes (fdf : Bool) (dlc : BitVec 4) : Nat :=
  if dlc.toNat ≤ 8 then dlc.toNat
  else if !fdf then 8
  else [12, 16, 20, 24, 32, 48, 64].getD (dlc.toNat - 9) 64

/-- A frame's data bytes, those of its DLC (R472). -/
def frameBytes (f : CanFrame) : List (BitVec 8) :=
  let n := dlcBytes f.fdf f.dlc
  ((wordBytes f.data) ++ List.replicate n 0).take n

/-- Bytes packed into words, the last filled up with zeros (R472). -/
def packWords : Nat → List (BitVec 8) → List Word
  | 0, _ => []
  | n + 1, bs => ((bs.getD 0 0) ++ (bs.getD 1 0) ++ (bs.getD 2 0) ++ (bs.getD 3 0)) :: packWords n (bs.drop 4)

/-- A frame's data words (R472). -/
def frameWords (f : CanFrame) : List Word := packWords ((dlcBytes f.fdf f.dlc + 3) / 4) (frameBytes f)

/-- A frame's identifier as the buffers and filters hold it: base identifiers in [28:18] (R472). -/
def bufId (ide : Bool) (id : BitVec 29) : BitVec 29 := if ide then id else id <<< 18

/-- A filter matches an identifier (R475). -/
def CanFilter.hits (f : CanFilter) (ide : Bool) (id : BitVec 29) : Bool :=
  f.enabled && f.ide == ide && decide ((f.id ^^^ id) &&& f.mask = 0)

/-- The buffer that a frame arriving now would fill. -/
def rxBuf (s : State) (f : CanFrame) (filter : Nat) : CanBuf :=
  { full := true, filter := BitVec.ofNat 8 filter, id := bufId f.ide f.id, dlc := f.dlc, ide := f.ide, fdf := f.fdf
    brs := f.brs, esi := f.esi, stamp := (canTime s).setWidth 16, at_ := stampNow s, data := frameWords f }

/-! Filters from configuration (R475). -/

/-- A panel filter: PRIO, NODE and FUNC compared where the argument gives them (R370, R475). -/
def panelFilter (prio : Option Nat) (node : Option Nat) (func fmask : Nat) : CanFilter :=
  let part (o : Option Nat) (w lo : Nat) : Nat × Nat := match o with
    | some v => (v * 2 ^ lo, (2 ^ w - 1) * 2 ^ lo)
    | none => (0, 0)
  let a := part prio 3 26
  let b := part node 6 20
  { enabled := true, ide := true, id := BitVec.ofNat 29 (a.1 + b.1 + func * 256), mask := BitVec.ofNat 29 (a.2 + b.2 + fmask * 256) }

/-- The filter of one identifier. -/
def exactFilter (x : Word × Word) : CanFilter :=
  let ide := decide (x.2 = 1)
  { enabled := true, ide := ide, id := bufId ide (x.1.setWidth 29), mask := if ide then BitVec.allOnes 29 else 0x1FFC0000 }

/-- The identifiers of mapped entries with HIGH_PRIORITY 1, rising, or of the others. -/
def mapIdents (s : State) (c : Nat) (high : Bool) : List (Word × Word) := identsBelow s.cfg.run c 0x1000000 high

/-- High-priority filters of controller c (R475). -/
def hpFilters (s : State) (c : Nat) : List CanFilter :=
  let own := (mapIdents s c true).map exactFilter
  if tabPanels s.cfg.run c then [0x10, 0x11, 0x12].map (fun f => panelFilter (some 1) (some 0) f 63) ++ own else own

/-- Standard filters of controller c (R475). One mask takes FUNC 0x01 to 0x03 and 0x00 with them, which no frame bears
(R370). -/
def stdFilters (s : State) (c : Nat) : List CanFilter :=
  let own := (((mapIdents s c false).filter fun x => !(mapIdents s c true).contains x)).map exactFilter
  if tabPanels s.cfg.run c then [panelFilter none (some 0) 0x1F 63, panelFilter none none 0 60] ++ own else own

/-- Controller c as its section sets it up when it is checked: LISTENING, with its filters and entries (R467, R468, R475). -/
def canSetUp (s : State) (c : Fin 2) : State :=
  if cfgHas s 12 (c.val * 65536) then
    let s1 := s.modCan c fun k => { k with
      mode := .listening
      hp := Vector.ofFn fun i : Fin 8 => (hpFilters s c.val).getD i.val {}
      filters := Vector.ofFn fun i : Fin 128 => (stdFilters s c.val).getD i.val {}
      maps := (mapsOf s.cfg.run c.val).map fun e => (e.1 % 65536, ({} : MapSt)) }
    { s1 with pins := if c.val = 0 then { s1.pins with caStb := false } else { s1.pins with cbStb := false } }
  else s

/-- The filter that decides where a frame goes: FILTER's code (R472, R475). -/
def filterOf (s : State) (c : Fin 2) (ide : Bool) (id : BitVec 29) : Option Nat :=
  let k := canAt s c
  match (List.finRange 8).find? fun i => (vat k.hp i).hits ide id with
  | some i => some (0x80 + i.val)
  | none => ((List.finRange 128).find? fun i => (vat k.filters i).hits ide id).map Fin.val

/-! Modes and error counts (R468 to R470). -/

/-- The node holds controller c's segment and 20 ms have passed since it took it (R412, R468). -/
def dutyAged (s : State) (c : Fin 2) : Bool := segDutyHeld s c.val &&
  match s.canvas.segTaken.toList.getD (cfgCanSegment s c.val).toNat none with
  | some t => decide (t + 20 ≤ now s)
  | none => false

/-- RESTRICTED to NORMAL where the conditions hold (R468). -/
def toNormal (s : State) (c : Fin 2) : State :=
  let k := canAt s c
  if k.mode == .restricted && dutyAged s c && k.idleSeen then s.modCan c fun k => { k with mode := .normal } else s

/-- CAN_BUS_IDLE_DETECT: 11 consecutive recessive bits (R468). -/
def execCanBusIdleDetect (c : Fin 2) (s : State) : Host.Outcome State Fault Refusal :=
  let s1 := if (canAt s c).mode == .listening then becomeReady (canRestrict s c) 0x06 c.val else s
  let s2 := if segDutyHeld s1 c.val then s1.modCan c fun k => { k with idleSeen := true } else s1
  doIf (up s && (canAt s c).mode != .off) s (toNormal s2 c)

/-- CAN_NORMAL_ENTRY (R412, R468). -/
def execCanNormalEntry (c : Fin 2) (s : State) : Host.Outcome State Fault Refusal := doIf (up s) s (toNormal s c)

/-- CAN_BUS_OFF and CAN_ERROR_PASSIVE cleared once no controller bears them out (R485). -/
def canConds (s : State) : State :=
  let all (p : CanCtl → Bool) : Bool := p (canAt s 0) && p (canAt s 1)
  let s1 := if all fun k => k.mode != .busOff then sysClear s 0x35 else s
  if all fun k => k.mode == .off || (k.mode != .busOff && !k.passive) then sysClear s1 0x36 else s1

/-- New error counts: error passive at 128 or more of either (ISO 11898-1:2015; R470, R485). -/
def setCounts (s : State) (c : Fin 2) (t r : Nat) : State :=
  let p := decide (128 ≤ t ∨ 128 ≤ r)
  let s1 := s.modCan c fun k => { k with tec := t, rec_ := r, passive := p }
  if p && !(canAt s c).passive then sysRaise s1 0x36 else canConds s1

/-- The code of LEC (R487). -/
def lecCode : CanErr → BitVec 3
  | .stuff => 1
  | .form => 2
  | .ack => 3
  | .bit1 => 4
  | .bit0 => 5
  | .crc => 6

/-- The last error noted and counted (R487, R545). -/
def noteErr (s : State) (c : Fin 2) (e : CanErr) (dataPhase : Bool) : State :=
  (perfAdd s (0x7002 + 256 * c.val) 1).modCan c fun k => if dataPhase then { k with dlec := lecCode e } else { k with lec := lecCode e }

/-- CAN_RECEIVE_ERROR: the receive error count rises by 1, or by 8 where the first bit after the error flag is dominant;
in RESTRICTED it does not change (ISO 11898-1:2015; R469, R470). -/
def execCanReceiveError (c : Fin 2) (e : CanErr) (dataPhase eight : Bool) (s : State) : Host.Outcome State Fault Refusal :=
  let k := canAt s c
  let s1 := noteErr s c e dataPhase
  doIf (up s && (k.mode == .restricted || k.mode == .normal)) s
    (if k.mode == .normal then setCounts s1 c k.tec (min 255 (k.rec_ + if eight then 8 else 1)) else s1)

/-- CAN_BUS_OFF: a third entry within 60 s is held (R468, R470, R485). -/
def execCanBusOff (c : Fin 2) (s : State) : Host.Outcome State Fault Refusal :=
  let k := canAt s c
  let s1 := s.modCan c fun k => { k with
    mode := .busOff, passive := false, holdEnd := none
    entries := (k.entries.filter fun t => decide (now s ≤ t + 60000)) ++ [now s] }
  let s2 := sysRaise (setLost s1 0x06 c.val) 0x35
  doIf (up s && k.mode == .normal && decide (255 < k.tec)) s s2

/-- BUS_OFF to RESTRICTED, both counts 0 (R468, R470). -/
def busBack (s : State) (c : Fin 2) : State :=
  let s1 := (canRestrict s c).modCan c fun k => { k with tec := 0, rec_ := 0, passive := false, holdEnd := none }
  canConds (becomeReady s1 0x06 c.val)

/-- CAN_BUS_OFF_RECOVERY: after 128 recessive sequences a third or later entry begins its hold of 10 s; with no hold, or
after it, the controller returns (R470). -/
def execCanBusOffRecovery (c : Fin 2) (s : State) : Host.Outcome State Fault Refusal :=
  let k := canAt s c
  doIf (up s && k.mode == .busOff) s
    (match k.holdEnd with
     | some t => if t ≤ now s then busBack s c else s
     | none => if k.entries.length ≤ 2 then busBack s c else s.modCan c fun k => { k with holdEnd := some (now s + 10000) })

/-- RECOVER_NOW: a hold ends (R470, R487). -/
def execRecoverNow (r : Req) (c : Fin 2) (s : State) : Host.Outcome State Fault Refusal :=
  let k := canAt s c
  doIf (may s r 2 && canServed s c.val && k.mode == .busOff && k.holdEnd.isSome) s (busBack s c)

/-- CAN_CLEAR_COUNTERS (R486, R487). -/
def execCanClearCounters (r : Req) (c : Fin 2) (s : State) : Host.Outcome State Fault Refusal :=
  doIf (may s r 2 && canServed s c.val) s (s.modCan c fun k => { k with
    rxFrames := 0, txFrames := 0, rxOverrun := 0, shadowLosts := 0, txCancelled := 0, collisions := 0, lapses := 0, foreign := 0 })

/-! Reception (R471 to R476). -/

/-- An interrupt to the engine of the controller's CAN_DUTY task, which wakes its quad from SLEEP (R30, R476). -/
def canIrq (s : State) (c : Fin 2) (i : Nat) : State :=
  let s1 := s.modCan c fun k => { k with irqs := k.irqs ||| BitVec.ofNat 9 (2 ^ i) }
  let t := s.canvas.tasks.find? fun e => e.2.kind == .canDuty && decide (e.2.subject.toNat = c.val)
  match t.bind fun e => e.2.primary with
  | some e => { s1 with gauze := { s1.gauze with wakes := s1.gauze.wakes ||| (1#4 <<< (quadOf e).val) } }
  | none => s1

/-- Buffer b of controller c passed through f. -/
def modBuf (s : State) (c : Fin 2) (b : Fin 64) (f : CanBuf → CanBuf) : State :=
  s.modCan c fun k => { k with bufs := vmod k.bufs b f }

/-- A frame for high-priority buffer i (R474). -/
def storeHp (s : State) (c : Fin 2) (i : Fin 8) (b : CanBuf) : State :=
  let k := canAt s c
  let n : Fin 64 := ⟨i.val, by omega⟩
  let old := vat k.bufs n
  if old.locked then
    let lost := (vat k.shadows i).isSome
    let s1 := s.modCan c fun k => { k with
      shadows := vmod k.shadows i fun _ => some b
      shadowLost := vmod k.shadowLost i fun x => x || lost
      shadowLosts := if lost then satInc k.shadowLosts else k.shadowLosts }
    if lost then sysRaise s1 0x38 else s1
  else canIrq (modBuf s c n fun _ => { b with lost := old.full }) c i.val

/-- The next free FIFO buffer in FIFO order from buffer k on (R474). -/
def fifoFree (k : CanCtl) : Option (Fin 64) :=
  ((List.range 40).map fun d => (⟨(8 + (k.fifoNext - 8 + d) % 40) % 64, Nat.mod_lt _ (by decide)⟩ : Fin 64)).find? fun b =>
    !(vat k.bufs b).full

/-- A frame for the FIFO (R474, R476). -/
def storeFifo (s : State) (c : Fin 2) (b : CanBuf) : State :=
  let k := canAt s c
  match fifoFree k with
  | some n =>
    let s1 := (modBuf s c n fun _ => b).modCan c fun k => { k with
      fifo := k.fifo ++ [n.val], fifoNext := 8 + (n.val - 8 + 1) % 40 }
    if k.fifo.isEmpty then canIrq s1 c 8 else s1
  | none =>
    let s1 := s.modCan c fun k => { k with rxOverrun := satInc k.rxOverrun }
    sysRaise (match k.fifo.getLast? with
      | some n => modBuf s1 c ⟨n % 64, Nat.mod_lt _ (by decide)⟩ fun b => { b with lost := true }
      | none => s1) 0x38

/-- A valid frame lowers the receive error count by 1, or from above 127 to a value from 119 to 127
(ISO 11898-1:2015; R470). -/
def rxCount (s : State) (c : Fin 2) : State :=
  let k := canAt s c
  if k.mode == .normal then
    let d := draw s
    if 127 < k.rec_ then setCounts d.2 c k.tec (119 + d.1.toNat % 9) else setCounts s c k.tec (k.rec_ - 1)
  else s

/-- CAN_FRAME_RECEIVE: a valid frame is counted and, but for remote frames and outside the duty, stored by the first
filter that matches (R463, R469, R474, R475). -/
def execCanFrameReceive (c : Fin 2) (f : CanFrame) (s : State) : Host.Outcome State Fault Refusal :=
  let k := canAt s c
  let live := k.mode == .restricted || k.mode == .normal
  let s1 := (perfAdd (rxCount s c) (0x7000 + 256 * c.val) 1).modCan c fun k => { k with rxFrames := satInc k.rxFrames }
  doIf (up s && live && (!f.fdf || decide (cfgCanFdEnable s c.val = 1))) s
    (if f.rtr || !segDutyHeld s c.val then s1
     else match filterOf s c f.ide (bufId f.ide f.id) with
       | none => s1
       | some n =>
         if n < 0x80 then storeFifo s1 c (rxBuf s f n)
         else storeHp s1 c ⟨n % 8, Nat.mod_lt _ (by decide)⟩ (rxBuf s f n))

/-- BUFFER_LOCK_LAPSE: a lock not released within 1 ms; FULL stays set (R473). -/
def execBufferLockLapse (c : Fin 2) (b : Fin 48) (s : State) : Host.Outcome State Fault Refusal :=
  let n : Fin 64 := ⟨b.val, by omega⟩
  let x := vat (canAt s c).bufs n
  doIf (up s && x.locked && decide (x.lockedAt + 1 ≤ now s)) s
    ((modBuf s c n fun b => { b with locked := false }).modCan c fun k => { k with lapses := satInc k.lapses })

/-- Buffer n released by the read of its word 18; a shadow frame moves in (R473, R474). -/
def release (s : State) (c : Fin 2) (n : Fin 48) : State :=
  let b : Fin 64 := ⟨n.val, by omega⟩
  let s1 := modBuf s c b fun x => { x with full := false, locked := false, lost := false, filter := 0 }
  if h : n.val < 8 then
    let i : Fin 8 := ⟨n.val, h⟩
    let s2 := s1.modCan c fun k => { k with irqs := k.irqs &&& ~~~(BitVec.ofNat 9 (2 ^ i.val)) }
    match vat (canAt s c).shadows i with
    | none => s2
    | some f =>
      let l := vat (canAt s c).shadowLost i
      canIrq ((modBuf s2 c b fun _ => { f with lost := l }).modCan c fun k => { k with
        shadows := vmod k.shadows i fun _ => none
        shadowLost := vmod k.shadowLost i fun _ => false }) c i.val
  else
    s1.modCan c fun k =>
      let left := k.fifo.filter fun x => decide (x ≠ n.val)
      { k with fifo := left, irqs := if left.isEmpty then k.irqs &&& 0xFF else k.irqs }

/-! Mapped receive entries (R482, R483). -/

/-- Bit at position j of a field (R483). -/
def fieldBit (msbFirst : Bool) (bs : List (BitVec 8)) (j : Nat) : Bool :=
  (bs.getD (j / 8) 0).getLsbD (if msbFirst then 7 - j % 8 else j % 8)

/-- The raw field, unsigned (R483). -/
def rawField (msbFirst : Bool) (bs : List (BitVec 8)) (start len : Nat) : Nat :=
  let ps := (List.range len).map fun i => fieldBit msbFirst bs (start + i)
  (if msbFirst then ps else ps.reverse).foldl (fun n b => 2 * n + b2n b) 0

/-- The value of entry e in a frame's bytes (R483). -/
def mapValue (s : State) (c e : Nat) (bs : List (BitVec 8)) : Word :=
  let len := (cfgMapLength s c e).toNat
  let raw := rawField (decide (cfgMapByteOrder s c e = 1)) bs (cfgMapStartBit s c e).toNat len
  let x : Word := match (cfgMapFormat s c e).toNat with
    | 0 => fOfNat raw
    | 1 => fOfInt (if 2 ^ (len - 1) ≤ raw then (raw : Int) - 2 ^ len else raw)
    | _ => w32 raw
  fAdd (fMul x (cfgMapScale s c e)) (cfgMapOffset s c e)

/-- A frame accepted for entry e, or too short for it; a second path may disagree (R52, R296, R483). -/
def mapFrame (c : Fin 2) (b : CanBuf) (bUpset : Word) (s : State) (e : Nat) : State :=
  let m := tgetD (canAt s c).maps e {}
  let need := ((cfgMapStartBit s c.val e).toNat + (cfgMapLength s c.val e).toNat + 7) / 8
  let put (m : MapSt) : State := s.modCan c fun k => { k with maps := tset k.maps e m }
  if dlcBytes b.fdf b.dlc < need then put { m with short := satInc m.short }
  else
    let v := mapValue s c.val e (wordBytes b.data)
    put { m with accepted := m.accepted + 1, timedOut := false, lastAt := some (now s), at_ := b.at_
                 value := pairUpset v bUpset, valueBad := !fIsFin v }

/-- The mapped entries of a controller that a frame's identifier names (R483). -/
def mapsFor (s : State) (c : Nat) (b : CanBuf) : List Nat :=
  ((mapsOf s.cfg.run c).filter fun e =>
    decide ((cfgMapIde s c (e.1 % 65536) = 1) = (b.ide = true)) &&
      decide (bufId b.ide ((cfgMapIdentifier s c (e.1 % 65536)).setWidth 29) = b.id)).map fun e => e.1 % 65536

/-! Panel frames (R364 to R371, R475, R481). -/

/-- A node-to-panel frame received while in NORMAL: counted where it bears this node's number, or another's for more than
200 ms (R481). -/
def foreignFrame (s : State) (c : Fin 2) (node : Nat) : State :=
  let k := canAt s c
  if k.mode == .normal then
    let since := match k.foreignSince with
      | some t => if k.foreignLast + 2000 < now s then now s else t
      | none => now s
    let own := decide (node = nodeNum s)
    let s1 := if own then s else s.modCan c fun k => { k with foreignSince := some since, foreignLast := now s }
    if own || decide (since + 200 < now s) then
      sysRaise (s1.modCan c fun k => { k with foreign := satInc k.foreign }) 0x37
    else s1
  else s

/-- A panel frame dealt with as its own command deals with it (R365, R368, R370). -/
def panelFrame (s : State) (c : Fin 2) (b : CanBuf) : State :=
  let id := b.id.toNat
  let panel : Fin 64 := ⟨id / 2 ^ 14 % 64, Nat.mod_lt _ (by decide)⟩
  match b.filter.toNat with
  | 0x80 => after (execPanelAckFrame c panel b.data s) s
  | 0x81 => after (execPanelSilenceFrame c panel b.data s) s
  | 0x82 => after (execPanelRequestFrame c panel (BitVec.ofNat 8 id) b.data s) s
  | 0 => after (execPanelHeartbeat c panel b.data s) s
  | 1 => if id / 256 % 64 = 0 then s else foreignFrame s c (id / 2 ^ 20 % 64)
  | _ => s

/-- A frame read from a buffer: a panel's, or one for mapped entries (R475, R481, R483). -/
def handleFrame (s : State) (c : Fin 2) (b : CanBuf) (bUpset : Word) : State :=
  let s1 := if tabPanels s.cfg.run c.val then panelFrame s c b else s
  (mapsFor s1 c.val b).foldl (mapFrame c b bUpset) s1

/-- CAN_RX_SERVICE: the duty engine locks a FULL buffer, reads it, handles its frame and releases it; the FIFO goes
oldest first. An engine that leaves service in mid-read leaves the lock (R471, R473, R484). -/
def execCanRxService (c : Fin 2) (b : Fin 48) (midRead : Bool) (bUpset : Word) (s : State) : Host.Outcome State Fault Refusal :=
  let n : Fin 64 := ⟨b.val, by omega⟩
  let x := vat (canAt s c).bufs n
  let turn := decide (b.val < 8) || decide ((canAt s c).fifo.head? = some b.val)
  doIf (up s && segDutyHeld s c.val && x.full && turn) s
    (if midRead then modBuf s c n fun b => { b with locked := true, lockedAt := now s }
     else handleFrame (release s c b) c x bUpset)

/-! Transmission (R477 to R480). -/

/-- The frame at the head of those the panels' duty asks for, taken out (R368). -/
def takeQueued (s : State) (c : Nat) (f : CanFrame) : State :=
  let is (e : Nat × PanelFrame) : Bool := decide (e.1 = c) && decide (e.2.id = f.id) && decide (e.2.words = f.data)
  { s with panels := { s.panels with txq := s.panels.txq.eraseP is } }

/-- TX_REQUEST: a filled transmit buffer becomes pending; one already FULL is left alone (R477, R479). -/
def execTxRequest (c : Fin 2) (k : Fin 16) (f : CanFrame) (s : State) : Host.Outcome State Fault Refusal :=
  let fd := f.fdf && decide (cfgCanFdEnable s c.val = 1)
  let b : CanBuf :=
    { full := true, txResult := 1, id := bufId f.ide f.id, dlc := f.dlc, ide := f.ide, fdf := fd, brs := fd
      esi := fd && (canAt s c).passive, data := frameWords { f with fdf := fd } }
  doIf (up s && !(txBuf (canAt s c) k).full) s (modBuf (takeQueued s c.val f) c (txIdx k) fun _ => b)

/-- TX_CANCEL: before its start of frame the frame ends CANCELLED; in arbitration that waits for its loss; a win stands
(R478, R479). -/
def execTxCancel (c : Fin 2) (k : Fin 16) (p : TxPoint) (s : State) : Host.Outcome State Fault Refusal :=
  let x := txBuf (canAt s c) k
  doIf (up s && x.full) s
    (if p == .waiting && !x.won then
       (modBuf s c (txIdx k) cancelled).modCan c fun q => { q with txCancelled := satInc q.txCancelled }
     else modBuf s c (txIdx k) fun b => { b with cancel := true, won := b.won || p == .won })

/-- A frame given up with result v: its buffer is free again. -/
def endTx (s : State) (c : Fin 2) (k : Fin 16) (v : BitVec 4) : State :=
  let s1 := modBuf s c (txIdx k) fun b => { cancelled b with txResult := v, sending := false }
  if v = 3 then s1.modCan c fun q => { q with txCancelled := satInc q.txCancelled } else s1

/-- The transmit error count after an error: 8 more, but for an acknowledgement error while passive and a stuff error in
arbitration (ISO 11898-1:2015; R470). -/
def txCount (s : State) (c : Fin 2) (e : CanErr) (inBody : Bool) : State :=
  let k := canAt s c
  if k.mode == .normal && !(e == .ack && k.passive) && !(e == .stuff && !inBody) then setCounts s c (k.tec + 8) k.rec_ else s

/-- A frame on offer ends in an error (R478, R480). -/
def txFails (s : State) (c : Fin 2) (k : Fin 16) (e : CanErr) (dataPhase inBody : Bool) : State :=
  let x := txBuf (canAt s c) k
  let clash := inBody && (e == .bit1 || e == .bit0)
  let s1 := txCount (noteErr s c e dataPhase) c e inBody
  let n := if clash then x.errors + 1 else 0
  let s2 := if clash then s1.modCan c fun q => { q with collisions := satInc q.collisions } else s1
  let s3 := if 4 ≤ n then sysRaise s2 0x37 else s2
  if !x.full then modBuf s3 c (txIdx k) fun b => { b with sending := false }
  else if x.cancel || (canAt s c).mode != .normal then endTx s3 c k 3
  else if 4 ≤ n then endTx s3 c k 5
  else modBuf s3 c (txIdx k) fun b => { b with errors := n, won := false }

/-- A frame is being sent from buffer k: the controller is in NORMAL, or the frame was on its way when it left it
(R469, R477). -/
def txLive (s : State) (c : Fin 2) (k : Fin 16) : Bool :=
  let q := canAt s c
  let x := txBuf q k
  up s && ((q.mode == .normal && decide (q.tec ≤ 255) && x.full) || (q.mode == .restricted && (x.sending || (x.full && x.won))))

/-- CAN_TX_COMPLETE: DONE, or DONE_AFTER_CANCEL; a loop delay that takes the secondary sample point beyond 127 quanta is a
bit error (R466, R477, R478). -/
def execCanTxComplete (c : Fin 2) (k : Fin 16) (loopDelay : BitVec 7) (s : State) : Host.Outcome State Fault Refusal :=
  let x := txBuf (canAt s c) k
  let s1 := if x.fdf then s.modCan c fun q => { q with tdcv := loopDelay } else s
  let late := x.fdf && decide (cfgCanTdcEnable s c.val = 1) && decide (127 < loopDelay.toNat + (cfgCanTdco s c.val).toNat)
  let s2 := modBuf s1 c (txIdx k) fun b => { b with
    full := false, txResult := if b.cancel then 4 else 2, cancel := false, won := false, sending := false, errors := 0
    stamp := (canTime s).setWidth 16 }
  let s3 := (perfAdd s2 (0x7001 + 256 * c.val) 1).modCan c fun q => { q with txFrames := satInc q.txFrames }
  let q := canAt s c
  doIf (txLive s c k) s
    (if late then (let d := draw s1; txFails d.2 c k (if bit d.1 0 then .bit1 else .bit0) true true)
     else if q.mode == .normal then setCounts s3 c (q.tec - 1) q.rec_ else s3)

/-- CAN_TX_ERROR: a loss of arbitration is offered again, unless cancelled; so is an error, but for the fourth collision
running (R477, R478, R480). -/
def execCanTxError (c : Fin 2) (k : Fin 16) (e : TxErr) (s : State) : Host.Outcome State Fault Refusal :=
  let x := txBuf (canAt s c) k
  doIf (txLive s c k) s
    (match e with
     | .lost => if !x.full then modBuf s c (txIdx k) fun b => { b with sending := false }
       else if x.cancel then endTx s c k 3 else s
     | .err e d b => txFails s c k e d b)

end Sys2Proof.Machine
end

