-- ==== Sys2Proof/Machine/Linen.lean ====
section
/-! DEFINITION. The Linen history store: the NAND tiers, commits, recorder time, cursors, trends, and the meanings of its
commands (R488 to R519). -/

namespace Sys2Proof.Machine
open Sys2Proof

/-- The state with the history store's logic side passed through f. -/
def State.modLinen (s : State) (f : Linen → Linen) : State := { s with linen := f s.linen }

/-- The state with the NAND passed through f. -/
def State.modNand (s : State) (f : Nand → Nand) : State := { s with nand := f s.nand }

/-! The layout of the NAND (R502, R503; log entry 43). -/

/-- Records in one page (R503). -/
def perPage (s : State) : Nat := 64 * 2 ^ s.nand.page.toNat

/-- Bytes of one block, of 64 pages (log entry 43). -/
def blockBytes (s : State) : Nat := 64 * 64 * perPage s

/-- Blocks of a tier of so many GiB and 3 % spare (R502). -/
def tierBlocks (s : State) (gib : Nat) : Nat := gib * 2 ^ 30 * 103 / 100 / blockBytes s

/-- Blocks of target 0 that come before the main tier (R502). -/
def mainStart (s : State) : Nat := 2 + tierBlocks s 2 + tierBlocks s 4

/-- Blocks of target t in all. -/
def targetBlocks (s : State) (t : Nat) : Nat :=
  (if t = 0 then s.nand.gib0.toNat else s.nand.gib1.toNat) * 2 ^ 30 / blockBytes s

/-- Places of the main tier: the rest of target 0, then target 1 from block 2 (R502). -/
def mainPlaces (s : State) : Nat := (targetBlocks s 0 - mainStart s) + (targetBlocks s 1 - 2)

/-- The block at place i of the main tier, as target * 2^24 + block. -/
def mainBlock (s : State) (i : Nat) : Nat :=
  let n := targetBlocks s 0 - mainStart s
  if i < n then mainStart s + i else 2 ^ 24 + 2 + (i - n)

/-- Blocks kept erased ahead of the write point (R505). -/
def mainReserve (s : State) : Nat := max (mainPlaces s * 3 / 100) 64

/-- Capacity of the permanent tier in records: 2 GiB (R502). -/
def permCap : Nat := 2 ^ 31 / 64

/-- The permanent or the trend tier uses block b, its own or one taken from the end of the main tier (R507). -/
def lent (s : State) (b : Nat) : Bool :=
  (s.nand.permLog.any fun k => decide (k.id = b)) || s.nand.trendLog.any fun k => decide (k.id = b)

/-- The first usable place from i onwards, of at most `fuel` tried (R502, R507). -/
def findPlace (s : State) : Nat → Nat → Option Nat
  | 0, _ => none
  | fuel + 1, i =>
    let b := mainBlock s (i % mainPlaces s)
    if s.nand.badTable.contains b || (s.nand.main.any fun k => decide (k.id = b)) || lent s b then findPlace s fuel (i + 1) else some b

/-- The next block to open (R502, R507). -/
def nextBlock (s : State) : Option Nat :=
  if mainPlaces s = 0 then none
  else findPlace s (min (mainPlaces s) (s.nand.badTable.length + s.nand.main.length + s.nand.permLog.length +
    s.nand.trendLog.length + 1)) s.nand.openings.toNat

/-- The write label of a block opened now, where the time is SYNCED (R506). -/
def writeLabel (s : State) : Option (BitVec 64) := if wallQ s = 2 then some (wallNow s) else none

/-- One erase of a block of the main tier (R502, R545). -/
def countErase (s : State) : State :=
  perfAdd (s.modNand fun n => { n with eraseSum := n.eraseSum + 1 }) 0x5002 1

/-- A block opened at the write point: erased immediately before (R502, R503). -/
def openBlock (s : State) (recs : List (Word × Rec)) (pages : Nat) : Option State :=
  (nextBlock s).map fun b =>
    countErase (s.modNand fun n =>
      { n with openings := n.openings + 1
               main := { id := b, writeSeq := n.openings + 1, recs := recs, pages := pages
                         erases := n.openings.toNat / mainPlaces s + 1, at_ := opMs s, wall := writeLabel s } :: n.main })

/-- Places of the permanent and of the trend tier, with the first block of each (R502). -/
def tierPlaces (s : State) (trend : Bool) : Nat × Nat :=
  if trend then (2 + tierBlocks s 2, tierBlocks s 4) else (2, tierBlocks s 2)

/-- The blocks of the permanent or of the trend tier in use, newest first. -/
def tierLog (s : State) (trend : Bool) : List TierBlock := if trend then s.nand.trendLog else s.nand.permLog

/-- The state with the blocks of a tier in use put. -/
def putLog (s : State) (trend : Bool) (l : List TierBlock) : State :=
  s.modNand fun n => if trend then { n with trendLog := l } else { n with permLog := l }

/-- Bad blocks among a tier's own places (R507). -/
def badIn (s : State) (trend : Bool) : Nat :=
  let t := tierPlaces s trend
  countIf s.nand.badTable fun b => decide (t.1 ≤ b ∧ b < t.1 + t.2)

/-- The last block of the main tier that is good and free, of at most so many tried (R507). -/
def lastFree (s : State) : Nat → Option Nat
  | 0 => none
  | i + 1 =>
    let b := mainBlock s i
    if s.nand.badTable.contains b || (s.nand.main.any fun k => decide (k.id = b)) || lent s b then lastFree s i else some b

/-- The next block of a tier, ascending from its newest and round, that is good and not in use; the last free one of the main
tier where its own are spent (R502, R507). -/
def nextIn (s : State) (trend : Bool) : Option Nat :=
  let t := tierPlaces s trend
  let l := tierLog s trend
  let from_ := match l with
    | b :: _ => b.id + 1 - t.1
    | [] => 0
  match ((List.range t.2).map fun i => t.1 + (from_ + i) % t.2).find? fun b =>
    !(s.nand.badTable.contains b || l.any fun k => decide (k.id = b)) with
  | some b => some b
  | none => if badIn s trend = 0 then none else lastFree s (mainPlaces s)

/-- A block of a tier opened at its write point with so many pages programmed: erased immediately before (R502, R503). -/
def openTier (s : State) (trend : Bool) (pages : Nat) : Option State :=
  (nextIn s trend).map fun b =>
    let l := tierLog s trend
    let q := ((l.head?.map TierBlock.writeSeq).getD 0) + 1
    perfAdd (putLog s trend ({ id := b, writeSeq := q, pages := pages, erases := (q.toNat - 1) / (tierPlaces s trend).2 + 1
                               at_ := opMs s, wall := writeLabel s } :: l)) 0x5002 1

/-- One page of a tier programmed; none where the tier has no block to write (R503). -/
def programTier (s : State) (trend : Bool) : Option State :=
  match tierLog s trend with
  | b :: t =>
    if b.pages < 64 then some (perfAdd (putLog s trend ({ b with pages := b.pages + 1 } :: t)) 0x5000 1)
    else (openTier s trend 1).map fun u => perfAdd u 0x5000 1
  | [] => (openTier s trend 1).map fun u => perfAdd u 0x5000 1

/-- A NAND record: cause, block and erase count (R490). -/
def nandRec (s : State) (cause : Nat) (b : NandBlock) : Rec :=
  mkRec s .d 0x4E (subj s 7 0) (at' 24 cause) [w32 b.id, w32 b.erases]

/-- A cursor's fill is reading the main tier (R505). -/
def mainBusy (s : State) : Bool := s.linen.cursors.toList.any fun c => c.busy && decide (c.tier = 0)

/-- The oldest blocks erased until the reserve is whole, not while a fill reads (R505). -/
def recycle (s : State) : State :=
  let keep := mainPlaces s - mainReserve s
  if mainBusy s || decide (s.nand.main.length ≤ keep) then s
  else
    let n := s.nand.main.length - keep
    perfAdd (s.modNand fun k => { k with main := k.main.take keep }) 0x5002 n

/-! Commits (R499, R503). -/

/-- RESUME_MS of a checkpoint record (R490). -/
def checkpointMs (r : Rec) : Nat := bits (r.payload.getD 0 0) 15 0 * 2 ^ 32 + (r.payload.getD 1 0).toNat

/-- Per cent fill of the permanent tier (R519). -/
def permFill (s : State) : Nat := s.nand.perm.length * 100 / permCap

/-- PERMANENT_FILL follows the permanent tier (R505, R517). -/
def permCheck (s : State) : State :=
  let full := decide (permCap ≤ s.nand.perm.length)
  let s := s.modLinen fun l => { l with permFull := full }
  if full || decide ((cfgHistPermanentWarn s).toNat ≤ permFill s) then
    (if sysActive s 0x3B then s else sysRaise s 0x3B)
  else s

/-- Milliseconds of a day. -/
def dayMs : Nat := 86400000

/-- The permanent or the trend tier has no spare block: its bad blocks are as many as the 3 % that R502 adds (R507). -/
def noSpare (s : State) (trend : Bool) : Bool :=
  let n := (tierPlaces s trend).2
  decide (0 < n) && decide (n - (if trend then 4 else 2) * 2 ^ 30 / blockBytes s ≤ badIn s trend)

/-- NAND_WEAR: the mean erase count reaches 50 000 within 730 days at the rate of the last 30 days, or no spare block is
left (R507, R517). -/
def wearStands (s : State) : Bool :=
  let old := match s.nand.wearLog.find? fun e => decide (e.1 + 30 ≤ opMs s / dayMs) with
    | some e => e.2
    | none => ((s.nand.wearLog.getLast?).map Prod.snd).getD s.nand.eraseSum
  let grown := s.nand.eraseSum - old
  decide (50000 * mainPlaces s ≤ s.nand.eraseSum + grown * 730 / 30) ||
    decide (mainPlaces s ≤ s.nand.badTable.length + s.nand.main.length) || noSpare s false || noSpare s true

/-- The daily note of erases, and NAND_WEAR after it (R507). -/
def wearCheck (s : State) : State :=
  let d := opMs s / dayMs
  let s :=
    if s.nand.wearLog.head?.map Prod.fst = some d then s
    else s.modNand fun n => { n with wearLog := ((d, n.eraseSum) :: n.wearLog).take 31 }
  sysSet s 0x3C (wearStands s)

/-- Records with their numbers enter the open block; class P also the permanent tier, a checkpoint its resume time
(R494, R503). -/
def commitRecs (s : State) (rs : List (Word × Rec)) : State :=
  let ps := rs.filter fun e => e.2.cls == .p
  let ck := (rs.filter fun e => e.2.type = 0x4C && recPairsOk e.2).getLast?
  permCheck (s.modNand fun n =>
    { n with
      main := match n.main with
        | b :: t => { b with recs := b.recs ++ rs, pages := b.pages + 1 } :: t
        | [] => []
      perm := (n.perm ++ ps).take permCap
      resume := match ck with
        | some e => some (checkpointMs e.2, e.2.cycle)
        | none => n.resume })

/-- The open block, where it has a page left. -/
def hasPage (s : State) : Bool := match s.nand.main with
  | b :: _ => decide (b.pages < 64)
  | [] => false

/-- A program that fails: the block is retired, its committed records copied forward, its number in the bad-block table
(R503, R507). -/
def retireOpen (s : State) : State := match s.nand.main with
  | [] => s
  | b :: t =>
    let s1 := s.modNand fun n =>
      { n with main := t, badTable := b.id :: n.badTable }
    let s2 := stage s1 (nandRec s1 0 b)
    match openBlock s2 b.recs b.pages with
    | some s3 => s3
    | none => s2

/-- Numbered records waiting, at most a page of them. -/
def segment (s : State) : List (Word × Rec) :=
  (s.linen.staged.take (perPage s)).filterMap fun x => x.seq.map fun q => (q, { x.r with integrity := x.r.integrity || (x.hitA && x.hitB) })

/-- Dropping ends where the backlog falls below 75 % of a copy (R500). -/
def endDropping (s : State) : State :=
  if s.linen.staged.length * 4 < stagingCap * 3 then s.modLinen fun l => { l with dropping := false } else s

/-- One page programmed, and one of the permanent tier where it holds class P records (R499, R503, R505). -/
def programPage (s : State) : State :=
  let rs := segment s
  let s0 := if (rs.any fun e => e.2.cls == .p) && !decide (permCap ≤ s.nand.perm.length) then (programTier s false).getD s else s
  let s1 := commitRecs s0 rs
  recycle (wearCheck (endDropping (perfAdd (s1.modLinen fun l => { l with staged := l.staged.drop rs.length }) 0x5000 1)))

/-- NAND_SEGMENT_PROGRAM: a page of the oldest staged records; `ok` where the program and its read-back succeed. With no
block to write HISTORY_FAULT is raised (R503 to R508). -/
def execNandSegmentProgram (ok : Bool) (s : State) : Host.Outcome State Fault Refusal :=
  doIf (up s && histReady s && !(segment s).isEmpty) s
    (match if hasPage s then some s else openBlock s [] 0 with
     | none => sysRaise (s.modLinen fun l => { l with st := .fault }) 0x39
     | some t => if ok then programPage t else wearCheck (retireOpen t))

/-- The NAND as a reset leaves it: under a page program that it cuts short, n of whose records check, with that page as the last
of its open block; the trend cache is lost (R504, R514). -/
def nandThroughReset (s : State) (cut : Option Nat) : Nand :=
  let lose (n : Nand) : Nand := { n with trends := n.trends.map fun e => (e.1, { e.2 with cache := [] }) }
  match cut with
  | some n =>
    if histReady s && !(segment s).isEmpty then
      let t := if hasPage s then s else (openBlock s [] 0).getD s
      lose { t.nand with interrupted := true, kept := t.nand.kept ++ (segment s).take n }
    else lose s.nand
  | none => lose s.nand

/-- Twelve months in milliseconds, as 365 days (R506; log entry 115). -/
def yearMs : Nat := 365 * dayMs

/-- A block is to be refreshed: 12 months of operating time since it was programmed, a read that corrects 16 bits in 1 024
bytes, or a SYNCED write label more than 12 months before the SYNCED wall time (R506). -/
def refreshDue (s : State) (at_ : Nat) (wall : Option (BitVec 64)) (corrected : Nat) : Bool :=
  decide (at_ + yearMs ≤ opMs s) || decide (16 ≤ corrected) ||
    match wall with
    | some w => decide (wallQ s = 2) && decide (bits (w.extractLsb' 32 32) 31 0 + yearMs / 1000 < s.bkup.seconds.toNat)
    | none => false

/-- A block of the permanent or of the trend tier copied to its tier's write point and recycled, its contents unchanged
(R506). -/
def refreshTier (s : State) (trend : Bool) (b : TierBlock) : State :=
  match openTier s trend b.pages with
  | none => s
  | some t =>
    let u := perfAdd (putLog t trend ((tierLog t trend).filter fun k => decide (k.id ≠ b.id))) 0x5002 1
    stage u (mkRec u .d 0x4E (subj u 7 0) (at' 24 1) [w32 b.id, w32 b.erases])

/-- The block of a tier with this number. -/
def tierBlockAt (s : State) (trend : Bool) (block : Nat) : Option TierBlock := (tierLog s trend).find? fun b => decide (b.id = block)

/-- A fill reads the trend tier (R505). -/
def trendBusy (s : State) : Bool := s.linen.cursors.toList.any fun c => c.busy && decide (c.tier = 2)

/-- A block of the main tier refreshed (R506). -/
def refreshMain (s : State) (b : NandBlock) : State :=
  match openBlock s b.recs b.pages with
  | none => sysRaise (s.modLinen fun l => { l with st := .fault }) 0x39
  | some t =>
    let t := countErase (t.modNand fun n => { n with main := n.main.filter fun k => decide (k.id ≠ b.id) })
    wearCheck (stage t (nandRec t 1 b))

/-- NAND_BLOCK_REFRESH: the block's records copied unchanged to the write point of its tier, the block recycled; `corrected`
the bits that a read of it corrected in 1 024 bytes (R505, R506). -/
def execNandBlockRefresh (block corrected : Nat) (s : State) : Host.Outcome State Fault Refusal :=
  match s.nand.main.find? (fun b => decide (b.id = block)), tierBlockAt s false block, tierBlockAt s true block with
  | some b, _, _ => doIf (up s && histReady s && !mainBusy s && refreshDue s b.at_ b.wall corrected) s (refreshMain s b)
  | none, some b, _ => doIf (up s && histReady s && refreshDue s b.at_ b.wall corrected) s (refreshTier s false b)
  | none, none, some b => doIf (up s && histReady s && !trendBusy s && refreshDue s b.at_ b.wall corrected) s (refreshTier s true b)
  | none, none, none => .next s

/-! The scan and HISTORY READY (R495, R496, R498, R508). -/

/-- The record in RECORD_SEQ order: ages fall from the oldest, counted back from a number. -/
def insertBySeq (top : Word) (e : Word × Rec) : List (Word × Rec) → List (Word × Rec)
  | [] => [e]
  | x :: t => if (top - x.1).toNat ≤ (top - e.1).toNat then e :: x :: t else x :: insertBySeq top e t

/-- The committed records of the main tier, oldest first, those of an interrupted page that check among them (R498, R503,
R504). -/
def committed (s : State) : List (Word × Rec) :=
  match s.nand.main with
  | [] => []
  | b :: t =>
    let newest := (((b :: t).flatMap fun k => (k.recs.getLast?).toList) ++ s.nand.kept.getLast?.toList).map Prod.fst |>.foldl
      (fun m q => if (q - m).toNat < 2 ^ 31 then q else m) ((b.recs.headD (s.nand.kept.headD (0, {}))).1)
    ((b :: t).reverse.flatMap NandBlock.recs ++ s.nand.kept).foldr (insertBySeq newest) []

/-- The newest committed record (R495). -/
def newestCommitted (s : State) : Option (Word × Rec) := (committed s).getLast?

/-- The NAND fitted meets R501 in what the scan sees. -/
def nandFits (i : NandInfo) : Bool :=
  let ok (g : BitVec 8) : Bool := decide (8 ≤ g.toNat ∧ g.toNat ≤ 32)
  decide (i.page ≠ 3) && ok i.gib0 && (decide (i.targets = 1) || (decide (i.targets = 2) && ok i.gib1))

/-- The highest NV-DDR2 timing mode that each target fitted supports (R575). -/
def timingMode (i : NandInfo) : Nat :=
  let ok (k : Nat) : Bool := i.modes0.getLsbD k && (decide (i.targets = 1) || i.modes1.getLsbD k)
  ((List.range 8).reverse.find? ok).getD 0

/-- What the scan leaves: what is fitted, an interrupted page closed with its open block (R504, R508, R575). -/
def scanDone (s : State) (i : NandInfo) : State :=
  let s1 := (s.modNand fun n =>
    { n with targets := i.targets, page := i.page, gib0 := i.gib0, gib1 := if i.targets = 2 then i.gib1 else 0
             badTable := i.bad, timing := timingMode i, odt := decide (5 ≤ timingMode i) }).modLinen fun l => { l with scanned := true }
  if s1.nand.interrupted then
    let b := s1.nand.main.headD {}
    let s2 := s1.modNand fun n =>
      { n with interrupted := false
               main := match n.main with
                 | b :: t => { b with pages := 64 } :: t
                 | [] => [] }
    stage s2 (nandRec s2 3 b)
  else s1

/-- The Damask checkpoint records of a point: checkpoint number, candidate, candidates, and the link (R336, R490). -/
def damaskOf (subject : Word) (r : Rec) : Option (Nat × Nat × Nat × RootLink) :=
  if r.type = 0x4B && r.subject == subject then
    some (bits r.detail 31 16, bits r.detail 15 8, bits r.detail 7 0,
      { root := (r.payload.getD 0 0).setWidth 16, obs := bits (r.payload.getD 1 0) 6 0
        history := r.payload.getD 2 0 ++ r.payload.getD 3 0, entered := bits r.detail 15 8 })
  else none

/-- The newest complete checkpoint among the records given, newest first (R336, R490). -/
def damaskNewest : List (Nat × Nat × Nat × RootLink) → List (Nat × Nat × Nat × RootLink) → Option (List RootLink)
  | [], _ => none
  | e :: t, all =>
    let same := (all.filter fun x => x.1 == e.1 && x.2.2.1 == e.2.2.1)
    let links := (List.range e.2.2.1).filterMap fun k => (same.find? fun x => x.2.1 == k).map fun x => x.2.2.2
    if links.length = e.2.2.1 then some links else damaskNewest t all

/-- The candidate roots of each point this node evaluates, from the newest complete checkpoint of it in Linen (R336). -/
def restoreDamask (s : State) : State :=
  let rs := (committed s).map Prod.snd
  { s with points := tmap s.points fun p l =>
      let es := (rs.filterMap (damaskOf (pointSubject s p))).reverse
      match damaskNewest es es with
      | some links => { l with alarm := { l.alarm with roots := links } }
      | none => l }

/-- NAND_SCAN_COMPLETE (R504, R508, R517). -/
def execNandScanComplete (info : NandInfo) (s : State) : Host.Outcome State Fault Refusal :=
  doIf (up s && s.linen.st == .scanning && !s.linen.scanned) s
    (if info.targets = 0 then sysRaise (s.modLinen fun l => { l with st := .noNand }) 0x39
     else if nandFits info then
       let t := scanDone s info
       if (nextBlock t).isSome || hasPage t then restoreDamask t
       else sysRaise (t.modLinen fun l => { l with st := .fault }) 0x39
     else sysRaise (s.modLinen fun l => { l with st := .fault }) 0x39)

/-- Recorder time is to be resumed from NAND: the backup is invalid, or the recorder time it gave at t0 is not later in both
parts than the newest committed record's (R492, R495; log entry 91). -/
def mustResume (s : State) : Bool :=
  !s.bkup.valid || match newestCommitted s with
    | none => false
    | some e => decide (powerCycle s ≤ e.2.cycle.toNat) || decide (opMs s - s.sys.msSince.toNat ≤ e.2.opMs.toNat)

/-- OP_MS taken for t0 (R495). -/
def resumeBase (s : State) : Nat :=
  let ck := (s.nand.resume.map Prod.fst).getD 0
  match newestCommitted s with
  | none => ck
  | some e => max ck (e.2.opMs.toNat + 1)

/-- Every staged record given the power cycle and recorder time base (R496). -/
def restamp (s : State) (all : Bool) (cycle : BitVec 24) (oldT0 newT0 : Nat) : State :=
  s.modLinen fun l => { l with staged := l.staged.map fun x =>
    if x.r.cycle = 0 then
      { x with r := { x.r with cycle := cycle, opMs := x.r.opMs + BitVec.ofNat 48 newT0, restamped := true
                               resumed := l.resumed } }
    else if all then
      { x with r := { x.r with cycle := cycle, opMs := BitVec.ofNat 48 (x.r.opMs.toNat - oldT0 + newT0), restamped := true
                               resumed := l.resumed } }
    else x }

/-- TIME becomes READY: staged records take recorder time (R496). -/
def timeReady (s : State) : State :=
  let t0 := opMs s - s.sys.msSince.toNat
  restamp { s with bkup := { s.bkup with timeKnown := true, recT0 := t0 } } false (BitVec.ofNat 24 (powerCycle s)) 0 t0

/-- Recorder time resumed, and every record staged since t0 restamped (R495, R496). -/
def resumeTime (s : State) : State :=
  let base := resumeBase s
  let cyc := match newestCommitted s with
    | none => 1
    | some e => e.2.cycle.toNat + 1
  let op := base + s.sys.msSince.toNat
  let old := s.bkup.recT0
  let s1 := s.modLinen fun l => { l with resumed := true }
  let s2 : State := { s1 with bkup := { s1.bkup with
    cycle := Pair.mk0 (at' 8 cyc), opHi := Pair.mk0 (w32 (op / 2 ^ 32 % 65536)), opLo := Pair.mk0 (w32 op)
    timeKnown := true, recT0 := base } }
  restamp s2 true (BitVec.ofNat 24 cyc) old base

/-- Staged records numbered from q on (R498). -/
def numberFrom (t : Nat) : Word → List Staged → List Staged
  | _, [] => []
  | q, x :: xs => { x with seq := some q, at_ := t } :: numberFrom t (q + 1) xs

/-- The staged records numbered at HISTORY READY wait for an EVENT as those staged later do (R455, R498). -/
def noteEvents (s : State) : State := s.linen.staged.foldl (fun s x => noteEvent s (x.seq.getD 0) x.r) s

/-- The START record (R490). -/
def startRec (s : State) (sigValid : Bool) (newest : Word) : Rec :=
  mkRec s .p 0x02 (subj s 7 0) 0
    ([s.sys.cause.setWidth 32, w32 (b2n sigValid + 2 * b2n s.linen.resumed)] ++ pws s.cfg.seqInUse ++ [s.cfg.fwVersion, newest])

/-- The TIME_RESUMED record (R490, R495). -/
def resumedRec (s : State) (base : Nat) (newest : Option (Word × Rec)) : Rec :=
  let ms := (newest.map fun e => e.2.opMs.toNat).getD 0
  let cyc := (newest.map fun e => e.2.cycle.toNat).getD 0
  mkRec s .p 0x03 (subj s 7 0) 0
    [w32 (base / 2 ^ 32 % 65536), w32 base, w32 (ms / 2 ^ 32), w32 ms, w32 cyc]

/-- A RECORDER_CHECKPOINT of now (R490, R494). -/
def checkpointRec (s : State) : Rec :=
  let t := (recMs s).toNat + 60000
  let hi := w32 (t / 2 ^ 32 % 65536)
  mkRec s .d 0x4C (subj s 7 0) 0 [hi, w32 t, ~~~hi, ~~~(w32 t)]

/-- The records of an interrupted page copied first into a new block, whose copies are the ones used (R504). -/
def copyKept (s : State) : State :=
  if s.nand.kept.isEmpty then s
  else match openBlock s [] 0 with
    | none => s
    | some t =>
      let u := if t.nand.kept.any fun e => e.2.cls == .p then (programTier t false).getD t else t
      perfAdd (commitRecs (u.modNand fun n => { n with kept := [] }) t.nand.kept) 0x5000 1

/-- HISTORY becomes READY: an interrupted page's records copied, recorder time resumed where R495 asks for it, the staged records numbered, START,
TIME_RESUMED and a checkpoint staged, the index begun (R490, R494 to R498, R508). -/
def histStart (s0 : State) : State :=
  let s := copyKept s0
  let newest := newestCommitted s
  let sig := s.bkup.valid
  let res := mustResume s
  let base := resumeBase s
  let s1 := if res then resumeTime s else s
  let q := (newest.map fun e => e.1 + 1).getD 0
  let s2 := noteEvents (s1.modLinen fun l =>
    { l with st := .indexing, staged := numberFrom (now s) q l.staged, nextSeq := q + w32 l.staged.length })
  let s3 := stage s2 (startRec s2 sig ((newest.map Prod.fst).getD 0xFFFFFFFF))
  let s4 := if res then stage s3 (resumedRec s3 base newest) else s3
  stage s4 (checkpointRec s4)

/-- INDEX_BUILD_COMPLETE: the index built, cursors leave BUSY as their fills end (R508, R517). -/
def execIndexBuildComplete (s : State) : Host.Outcome State Fault Refusal :=
  doIf (up s && s.linen.st == .indexing) s (sysClear (s.modLinen fun l => { l with st := .inService, indexed := true }) 0x39)

/-- RECORDER_CHECKPOINT: every 50 000 ms from HISTORY READY (R494). -/
def execRecorderCheckpoint (s : State) : Host.Outcome State Fault Refusal :=
  doIf (up s && histReady s) s (stage s (checkpointRec s))

/-- A record staged as class P is, whatever its class (R500). -/
def stageAsP (s : State) (r : Rec) : State :=
  if s.linen.staged.length < stagingCap then pushRec s r
  else match dropOldest s.linen.staged with
    | (l, some c) => pushRec { s with linen := countDrop { s.linen with staged := l } c true } r
    | (_, none) => pushRec s r

/-- The RECORDS_DROPPED record (R490). -/
def droppedRec (s : State) : Rec :=
  mkRec s .d 0x4D (subj s 7 0) 0 [s.linen.dropD, s.linen.dropE, s.linen.dropA, s.linen.dropP, s.linen.lostSeq]

/-- RECORDS_DROPPED_REPORT: every 10 s while records are dropped, and once when dropping has ended (R500). -/
def execRecordsDroppedReport (s : State) : Host.Outcome State Fault Refusal :=
  let l := s.linen
  let owed := l.dropping || decide (l.dropD ≠ 0 ∨ l.dropE ≠ 0 ∨ l.dropA ≠ 0 ∨ l.dropP ≠ 0 ∨ l.lostSeq ≠ 0)
  doIf (up s && owed) s
    (stageAsP (s.modLinen fun l => { l with dropD := 0, dropE := 0, dropA := 0, dropP := 0, lostSeq := 0 }) (droppedRec s))

/-! Cursors (R510 to R515). -/

/-- Cursor c. -/
def cursorAt (s : State) (c : Fin 8) : Cursor := vat s.linen.cursors c

/-- The requester owns the cursor. -/
def ownsCursor (s : State) (r : Req) (c : Fin 8) : Bool :=
  let k := cursorAt s c
  k.owned && decide (k.mac = r.mac) && decide (k.sess = r.sess)

/-- A cursor released (R510). -/
def releaseCursor (s : State) (c : Fin 8) : State := s.modCursor c fun k => { k with owned := false, busy := false }

/-- CLAIM applied (R510). -/
def claimCursor (s : State) (r : Req) (c : Fin 8) : State :=
  if (cursorAt s c).owned then s
  else s.modCursor c fun k => { k with owned := true, mac := r.mac, sess := r.sess, at_ := now s }

/-- CLAIM (R510). -/
def execCursorClaim (r : Req) (c : Fin 8) (s : State) : Host.Outcome State Fault Refusal := doIf (up s && histReady s) s (claimCursor s r c)

/-- RELEASE (R510). -/
def execCursorRelease (r : Req) (c : Fin 8) (s : State) : Host.Outcome State Fault Refusal :=
  doIf (up s && ownsCursor s r c) s (releaseCursor s c)

/-- CURSOR_IDLE_TIMEOUT: 60 s without an access by the owner (R510). -/
def execCursorIdleTimeout (c : Fin 8) (s : State) : Host.Outcome State Fault Refusal :=
  doIf (up s && (cursorAt s c).owned && decide ((cursorAt s c).at_ + 60000 ≤ now s)) s (releaseCursor s c)

/-- A position set and a fill begun (R511). -/
def startFill (s : State) (c : Fin 8) (hi lo : Word) : State :=
  s.modCursor c fun k => { k with posHigh := hi, posLow := lo, busy := true, at_ := now s }

/-- POSITION_LOW written by the owner (R511). -/
def execPositionLowWrite (r : Req) (c : Fin 8) (w : Word) (s : State) : Host.Outcome State Fault Refusal :=
  doIf (up s && ownsCursor s r c) s (startFill s c (cursorAt s c).posHigh w)

/-- ADVANCE applied: one past the last record examined (R511). -/
def advanceCursor (s : State) (c : Fin 8) : State :=
  let k := cursorAt s c
  if k.tier = 2 then startFill s c (w32 (k.nextPos / 2 ^ 32 % 65536)) (w32 k.nextPos) else startFill s c k.posHigh (w32 k.nextPos)

/-- ADVANCE (R511). -/
def execCursorAdvance (r : Req) (c : Fin 8) (s : State) : Host.Outcome State Fault Refusal :=
  doIf (up s && ownsCursor s r c) s (advanceCursor s c)

/-- Every numbered record, committed or staged, oldest first, with whether it is staged (R511). -/
def allRecs (s : State) : List (Word × Rec × Bool) :=
  (committed s).map (fun e => (e.1, e.2, false)) ++
  s.linen.staged.filterMap fun x => x.seq.map fun q => (q, x.r, true)

/-- The class P records by permanent index, staged ones after the committed (R511; log entry 44). -/
def permRecs (s : State) : List (Word × Rec × Bool) :=
  s.nand.perm.map (fun e => (e.1, e.2, false)) ++
  s.linen.staged.filterMap fun x => if x.r.cls == .p then x.seq.map fun q => (q, x.r, true) else none

/-- A sample is usable (R291, R514). -/
def codeUsable (q : BitVec 8) : Bool := decide (q.toNat ≤ 1)

/-- The mean of finite values, rounded once (R514; log entry 46). -/
def fMean (ws : List Word) : Word := if ws.isEmpty then fNan else fOfUnits ((ws.map fUnits).sum) ws.length

/-- The summary of a period's samples (R514, R515). -/
def trendSummary (start : Nat) (xs : List (Nat × Word × BitVec 8)) : TrendEntry :=
  let us := (xs.filter fun x => codeUsable x.2.2 && fIsFin x.2.1).map fun x => x.2.1
  { opMs := start
    worst := (xs.map fun x => x.2.2).foldl (fun a b => if a.toNat < b.toNat then b else a) 0
    count := us.length
    mean := fMean us
    lo := match us with
      | [] => fNan
      | u :: t => t.foldl fMin u
    hi := match us with
      | [] => fNan
      | u :: t => t.foldl fMax u }

/-- ARCHIVE_PERIOD_S in ms: the next lower multiple of TREND_PERIOD_S (R516). -/
def archiveMs (s : State) : Nat :=
  let t := (cfgHistTrendPeriodS s).toNat
  let a := (cfgHistArchivePeriodS s).toNat
  1000 * (if t = 0 then a else max t (a / t * t))

/-- The summary of the period that starts at `start`, from the cache (R514). -/
def cachePeriod (s : State) (t : Trend) (start : Nat) : TrendEntry :=
  trendSummary start (t.cache.filter fun x => decide (start ≤ x.1 ∧ x.1 < start + archiveMs s))

/-- The entries of a point, oldest first, those newer than the archive formed from the cache (R515). -/
def trendEntries (s : State) (p : Nat) : List TrendEntry :=
  let t := tgetD s.nand.trends p {}
  let a := t.archive.reverse
  let starts := ((t.cache.reverse.map fun x => x.1 / archiveMs s * archiveMs s).eraseDups).filter fun m =>
    match t.archive.head? with
    | some e => decide (e.opMs < m)
    | none => true
  a ++ starts.map (cachePeriod s t)

/-- The five words of a trend entry (R515). -/
def trendWords (e : TrendEntry) : List Word :=
  [at' 24 e.worst.toNat ||| at' 16 (min e.count 255) ||| w32 (e.opMs / 2 ^ 32 % 65536), w32 e.opMs, e.mean, e.lo, e.hi]

/-- SEEK_OLDEST applied (R511, R519). -/
def seekOldestCursor (s : State) (c : Fin 8) : State :=
  let k := cursorAt s c
  match k.tier.toNat with
  | 0 => startFill s c k.posHigh ((allRecs s).headD (s.linen.nextSeq, {}, false)).1
  | 1 => startFill s c k.posHigh 0
  | _ =>
    let o := ((trendEntries s (bits k.filter 15 0)).head?.map TrendEntry.opMs).getD 0
    startFill s c (w32 (o / 2 ^ 32 % 65536)) (w32 o)

/-- SEEK_NEWEST applied: NEXT_SEQ; in the other tiers one past their newest (R511; log entry 44). -/
def seekNewestCursor (s : State) (c : Fin 8) : State :=
  let k := cursorAt s c
  match k.tier.toNat with
  | 0 => startFill s c k.posHigh s.linen.nextSeq
  | 1 => startFill s c k.posHigh (w32 (permRecs s).length)
  | _ => startFill s c (w32 ((recMs s).toNat / 2 ^ 32)) (w32 (recMs s).toNat)

/-- SEEK_OLDEST (R511). -/
def execSeekOldest (r : Req) (c : Fin 8) (s : State) : Host.Outcome State Fault Refusal :=
  doIf (up s && ownsCursor s r c) s (seekOldestCursor s c)

/-- SEEK_NEWEST (R511). -/
def execSeekNewest (r : Req) (c : Fin 8) (s : State) : Host.Outcome State Fault Refusal :=
  doIf (up s && ownsCursor s r c) s (seekNewestCursor s c)

/-- CURSOR_CONTROL written by the owner (R519). -/
def writeCursorControl (s : State) (c : Fin 8) (w : Word) : State :=
  if bits w 31 30 = 3 then s
  else s.modCursor c fun k =>
    { k with tier := w.extractLsb' 30 2, mask := w.extractLsb' 26 4, follow := bit w 25, at_ := now s }

/-- What a fill has taken so far. -/
structure Fill where
  /-- Words taken. -/
  words : List Word
  /-- Records taken. -/
  taken : Nat
  /-- Records examined. -/
  seen : Nat
  /-- One past the last examined. -/
  next : Nat
  /-- A staged record was taken. -/
  staged : Bool
  /-- Unreadable records passed over. -/
  unread : Nat
  /-- The end was reached. -/
  head : Bool
  deriving DecidableEq, Repr

/-- Records examined in order until 16 are taken or 65 536 examined (R511). -/
def fillGo (k : Cursor) (bad : Word → Bool) : List (Nat × Word × Rec × Bool) → Fill → Fill
  | [], f => { f with head := true }
  | (i, q, r, st) :: t, f =>
    if f.taken ≥ 16 ∨ f.seen ≥ 65536 then f
    else if bad q then fillGo k bad t { f with seen := f.seen + 1, next := i + 1, unread := f.unread + 1 }
    else if cursorTakes k r then
      fillGo k bad t { f with words := f.words ++ recWords q r, taken := f.taken + 1, seen := f.seen + 1, next := i + 1
                              staged := f.staged || st }
    else fillGo k bad t { f with seen := f.seen + 1, next := i + 1 }

/-- The sum of two 16-bit counts that stops at 0xFFFF. -/
def cap16 (n : Nat) : BitVec 16 := BitVec.ofNat 16 (min n 65535)

/-- A fill's end put into the cursor (R511, R519). -/
def endFill (s : State) (c : Fin 8) (f : Fill) (skip : Nat) : State :=
  s.modCursor c fun k =>
    { k with busy := false, atHead := f.head, recycled := decide (skip ≠ 0), stagedPresent := f.staged
             entries := BitVec.ofNat 8 f.taken, skipRecycled := cap16 skip, skipUnread := cap16 f.unread
             nextPos := f.next, window := f.words, filledAt := some (now s) }

/-- The pages found unreadable noted in their blocks, each with a NAND record (R490, R511). -/
def noteBad (s : State) (bad : List (Word × Word)) : State :=
  let inRange (q : Word) (p : Word × Word) : Bool := decide ((q - p.1).toNat ≤ (p.2 - p.1).toNat)
  bad.foldl (fun s p =>
    match s.nand.main.find? fun b => b.recs.any (fun e => inRange e.1 p) && !b.badPages.contains p with
    | none => s
    | some b =>
      let s := s.modNand fun n => { n with main := n.main.map fun k =>
        if k.id = b.id then { k with badPages := p :: k.badPages } else k }
      stage s (nandRec s 2 b)) s

/-- A record of the main tier lies in an unreadable page (R511). -/
def inBadPage (s : State) (q : Word) : Bool :=
  s.nand.main.any fun b => b.badPages.any fun p => decide ((q - p.1).toNat ≤ (p.2 - p.1).toNat)

/-- The fill of a cursor in the main tier (R511). -/
def fillMain (s : State) (c : Fin 8) : State :=
  let k := cursorAt s c
  let all := allRecs s
  let old := (all.headD (s.linen.nextSeq, {}, false)).1
  let skip := if (old - k.posLow).toNat < 2 ^ 31 then (old - k.posLow).toNat else 0
  let from_ := if skip = 0 then k.posLow else old
  let xs := (all.filter fun e => decide ((e.1 - from_).toNat < 2 ^ 31)).map fun e => (e.1.toNat, e.1, e.2.1, e.2.2)
  endFill s c (fillGo k (fun q => inBadPage s q) xs ⟨[], 0, 0, from_.toNat, false, 0, false⟩) skip

/-- The fill of a cursor in the permanent tier (R511). -/
def fillPerm (s : State) (c : Fin 8) : State :=
  let k := cursorAt s c
  let xs := (permRecs s).zipIdx.map fun e => (e.2, e.1.1, e.1.2.1, e.1.2.2)
  endFill s c (fillGo k (fun _ => false) (xs.drop k.posLow.toNat) ⟨[], 0, 0, k.posLow.toNat, false, 0, false⟩) 0

/-- The fill of a cursor in the trend tier (R515). -/
def fillTrend (s : State) (c : Fin 8) : State :=
  let k := cursorAt s c
  let pos := bits k.posHigh 15 0 * 2 ^ 32 + k.posLow.toNat
  let es := (trendEntries s (bits k.filter 15 0)).filter fun e => decide (pos ≤ e.opMs)
  let got := es.take 48
  endFill s c ⟨got.flatMap trendWords, got.length, got.length, ((got.getLast?).map fun e => e.opMs + 1).getD pos, false, 0,
    decide (es.length ≤ 48)⟩ 0

/-- WINDOW_FILL_COMPLETE; `bad` the first and last RECORD_SEQ of each page the fill found unreadable. The erase that waited
for it follows (R505, R511, R513). -/
def execWindowFillComplete (c : Fin 8) (bad : List (Word × Word)) (s : State) : Host.Outcome State Fault Refusal :=
  doIf (up s && s.linen.st == .inService && (cursorAt s c).busy) s
    (let t := noteBad s bad
     let u := match (cursorAt t c).tier.toNat with
       | 0 => fillMain t c
       | 1 => fillPerm t c
       | _ => fillTrend t c
     recycle u)

/-! Trends (R514). -/

/-- The sample of a point: NaN with quality INTEGRITY where its pair fails (R514). -/
def trendSampleOf (s : State) (l : LocalPt) : Nat × Word × BitVec 8 :=
  if l.pub.value.ok && l.pub.quality.ok then (opMs s, l.pub.value.v, BitVec.ofNat 8 (bits l.pub.quality.v 2 0))
  else (opMs s, fNan, 4)

/-- The state with the trend store of point p passed through f. -/
def State.modTrend (s : State) (p : Nat) (f : Trend → Trend) : State :=
  s.modNand fun n => { n with trends := tset n.trends p (f (tgetD n.trends p {})) }

/-- One point's sample stored; a failing pair counts at the consumer (R60, R514). -/
def trendStep (s : State) (e : Nat × LocalPt) : State :=
  let s1 := s.modTrend e.1 fun t => { t with cache := (trendSampleOf s e.2 :: t.cache).take 49152 }
  if e.2.pub.value.ok && e.2.pub.quality.ok then s1 else pairFail s1 9 (pointSubject s e.1) [e.2.pub.value, e.2.pub.quality]

/-- TREND_SAMPLE: each point evaluated as owner (R514). -/
def execTrendSample (s : State) : Host.Outcome State Fault Refusal :=
  doIf (up s) s ((s.points.filter fun e => !e.2.byDuty).foldl trendStep s)

/-- The oldest blocks of the trend tier erased until its reserve is whole, not while a fill reads it (R505). -/
def recycleTrend (s : State) : State :=
  let n := (tierPlaces s true).2
  let keep := n - max (n * 3 / 100) 64
  let l := s.nand.trendLog
  if trendBusy s || decide (l.length ≤ keep) then s
  else perfAdd (putLog s true (l.take keep)) 0x5002 (l.length - keep)

/-- Trend entries of 16 bytes in a page (R514). -/
def pageEntries (s : State) : Nat := 4 * perPage s

/-- The full pages of the trend buffer programmed, at most so many (R503, R514). -/
def flushTrend : Nat → State → State
  | 0, s => s
  | f + 1, s =>
    if pageEntries s ≤ s.nand.trendBuf then
      match programTier s true with
      | some t => flushTrend f (recycleTrend (t.modNand fun n => { n with trendBuf := n.trendBuf - pageEntries s }))
      | none => s
    else s

/-- The entries that the trend tier and its buffer hold (R502, R505, R514). -/
def trendRoom (s : State) : Nat := (s.nand.trendLog.map TierBlock.pages).sum * pageEntries s + s.nand.trendBuf

/-- The entries of every point's archive. -/
def trendTotal (t : Tab Trend) : Nat := (t.map fun e => e.2.archive.length).sum

/-- The oldest periods taken out, at most so many, until the archives hold no more entries than there is room for (R505). -/
def trimTrends : Nat → Nat → Tab Trend → Tab Trend
  | 0, _, t => t
  | f + 1, room, t =>
    if trendTotal t ≤ room then t
    else match (t.filterMap fun e => (e.2.archive.getLast?).map TrendEntry.opMs).min? with
      | none => t
      | some m => trimTrends f room (t.map fun e => (e.1, { e.2 with archive := e.2.archive.filter fun x => decide (x.opMs ≠ m) }))

/-- One entry more in the archive of each of the points (R514). -/
def archiveAll (s : State) (l : List (Nat × LocalPt)) (start : Nat) : State :=
  l.foldl (fun t e => t.modTrend e.1 fun r => { r with archive := cachePeriod s r start :: r.archive }) s

/-- TREND_ARCHIVE: one entry per point for the period just over, through the trend buffer to the trend tier, whose recycling
takes the oldest out (R502, R505, R514; log entry 47). -/
def execTrendArchive (s : State) : Host.Outcome State Fault Refusal :=
  let start := opMs s / archiveMs s * archiveMs s - archiveMs s
  let own := s.points.filter fun e => !e.2.byDuty
  let t := (archiveAll s own start).modNand fun n => { n with trendBuf := n.trendBuf + own.length }
  let u := flushTrend (t.nand.trendBuf / pageEntries t + 1) t
  doIf (up s) s (u.modNand fun n => { n with trends := trimTrends (trendTotal n.trends) (trendRoom u) n.trends })

end Sys2Proof.Machine
end

