-- ==== Sys2Proof/Machine/Time.lean ====
section
/-! DEFINITION. The time and backup domain: the clock and its setting, time quality, steps, supply, PWRON, and the meanings
of its commands (R520 to R544). -/

namespace Sys2Proof.Machine
open Sys2Proof

/-- The state with the backup domain passed through f. -/
def State.modBkup (s : State) (f : Bkup → Bkup) : State := { s with bkup := f s.bkup }

/-- The payload of a TIME message (R536). -/
def timeMsg (s : State) (kind cause : Nat) (qb qa : TimeQ) (before after : BitVec 64) : List Word :=
  let w0 := at' 24 kind ||| at' 16 cause ||| at' 14 qb.code ||| at' 12 qa.code
  [w0, ~~~w0, before.extractLsb' 32 32, before.extractLsb' 0 32, after.extractLsb' 32 32, after.extractLsb' 0 32] ++
    timeWords s ++ [s.bkup.rtcOffset]

/-- The time quality set; a change sends TIME of KIND QUALITY, and leaving UNSET clears BACKUP_LOST (R534, R536, R542). -/
def setQuality (s : State) (q : TimeQ) : State :=
  if s.bkup.quality = q then s
  else
    let old := s.bkup.quality
    let s1 := s.modBkup fun b => { b with quality := q, goodRun := 0, badRun := 0, shiftSum := 0, trimAt := now s }
    let s2 := bcast s1 1 0x2D (timeMsg s1 3 0 old q (wallNow s1) (wallNow s1))
    if old == .unset then sysClear s2 0x3E else s2

/-- A label as a count of 1/32 768 s. -/
def labelCount (w : BitVec 64) : Nat := (w.extractLsb' 32 32).toNat * 32768 + (w.extractLsb' 0 15).toNat

/-- The difference of two labels is greater than 1 s. -/
def moreThanSecond (a b : BitVec 64) : Bool :=
  decide (labelCount a + 32768 < labelCount b ∨ labelCount b + 32768 < labelCount a)

/-- A step of the label to sec and sub: CLOCK_SET staged, TIME of KIND STEP sent, the quality HELD, and CLOCK_STEP raised
for a step of cause 1 or 2 greater than 1 s; a shift that holds the prescaler is abandoned (R528, R529, R531, R535). -/
def clockStep (s : State) (cause : Nat) (sec : Word) (sub : BitVec 15) : State :=
  let before := wallNow s
  let qb := s.bkup.quality
  let s1 := s.modBkup fun b => { b with seconds := sec, sub := sub, shiftLeft := 0 }
  let after := wallNow s1
  let s2 := bcast s1 1 0x2D (timeMsg s1 2 cause qb .held before after)
  let s3 := stage s2 (mkRec s2 .p 0x04 (subj s2 7 0) 0
    [before.extractLsb' 32 32, before.extractLsb' 0 32, after.extractLsb' 32 32, after.extractLsb' 0 32,
      w32 (cause * 16 + TimeQ.held.code * 4 + qb.code)])
  let s4 := setQuality s3 .held
  if moreThanSecond before after then sysRaise s4 0x3F else s4

/-- BACKUP_SUPPLY_CHANGEOVER (R520). -/
def execBackupSupplyChangeover (toVbat : Bool) (s : State) : Host.Outcome State Fault Refusal :=
  .next (s.modBkup fun b => { b with onVbat := toVbat })

/-- BROWNOUT_LATCH_SET; `lost` where the domain loses its supply entirely, which ends SHUTDOWN (R521, R538). -/
def execBrownoutLatchSet (lost : Bool) (s : State) : Host.Outcome State Fault Refusal :=
  .next (s.modBkup fun b => if lost then { b with latch := true, shutdown := false, shutWait := none, pwron := true } else { b with latch := true })

/-- VBAT_TEST: made while VAUX supplies the domain (R522, R542). -/
def execVbatTest (mv : BitVec 12) (s : State) : Host.Outcome State Fault Refusal :=
  let low := decide (mv.toNat < (cfgTimeVbatLowMv s).toNat)
  let absent := decide (mv.toNat < 1000)
  doIf (up s && !s.bkup.onVbat) s
    (sysSet (s.modBkup fun b => { b with vbatMv := mv, vbatLow := low || absent, vbatAbsent := absent }) 0x3D (low || absent))

/-- OP_MS of n as its two pairs (R525). -/
def setOpMs (b : Bkup) (n : Nat) : Bkup :=
  { b with opHi := Pair.mk0 (w32 (n / 2 ^ 32 % 65536)), opLo := Pair.mk0 (w32 n) }

/-- The prescaler a millisecond later: 4 096 counts in 125 ms, held by a shift and never past a roll-over, which is a
command of its own (R524, R532; log entry 3). -/
def prescalerMs (b : Bkup) (ms : Nat) : BitVec 15 :=
  if b.shiftLeft ≠ 0 then b.sub
  else
    let n := b.sub.toNat + 32 + (if ms % 125 < 96 then 1 else 0)
    if n < 32768 then BitVec.ofNat 15 n else 32767

/-- Per cent of a ring port's line rate that bits in one second make (R426, R462). -/
def loadPercent (p : RingPort) (n : Nat) : Nat := min 255 (n * 100 / (if p.mode = 3 then 2500000000 else 1000000000))

/-- LOAD_C012 and LOAD_C3 of the second that ends, the higher of link A and link B (R462). -/
def loadRoll (s : State) : State :=
  if now s % 1000 = 0 then
    let a := vat s.ring.ports 0
    let b := vat s.ring.ports 1
    let clr (p : RingPort) : RingPort := { p with bits012 := 0, bits3 := 0 }
    { s with ring := { s.ring with
        loadC012 := BitVec.ofNat 8 (max (loadPercent a a.bits012) (loadPercent b b.bits012))
        loadC3 := BitVec.ofNat 8 (max (loadPercent a a.bits3) (loadPercent b b.bits3))
        ports := vmod (vmod s.ring.ports 0 clr) 1 clr } }
  else s

/-- OP_MS_INCREMENT: a millisecond of operation passes (R99, R462, R525, R545); a SYNCED clock that has had no comparison for
3 s is HELD (R534). -/
def execOpMsIncrement (s : State) : Host.Outcome State Fault Refusal :=
  let s1 := { s with clk := { s.clk with now := s.clk.now + 1 }, sys := { s.sys with msSince := satInc s.sys.msSince } }
  let s2 := s1.modBkup fun b =>
    let b : Bkup := { b with sub := prescalerMs b (opMs s) }
    if b.onVbat then b else setOpMs b (opMs s + 1)
  let s3 := perfAdd (loadRoll s2) 0x8000 1024
  doIf (up s) s
    (if s3.bkup.quality == TimeQ.synced && decide (s3.bkup.comparedAt + 3000 ≤ now s3) then setQuality s3 .held else s3)

/-- A positive shift adds counts, carrying into SECONDS; a negative one holds the prescaler (R532). -/
def applyShift (s : State) (n : Int) : State :=
  s.modBkup fun b =>
    let b : Bkup := { b with lastShift := BitVec.ofInt 16 n, shiftSum := if b.quality == TimeQ.synced then b.shiftSum + n else b.shiftSum }
    if n < 0 then { b with shiftLeft := n.natAbs }
    else
      let t := b.sub.toNat + n.toNat
      { b with seconds := b.seconds + w32 (t / 32768), sub := BitVec.ofNat 15 t }

/-- The nearest integer to a / b, halves away from zero (R531; log entry 42). -/
def roundDiv (a : Int) (b : Nat) : Int :=
  if a < 0 then -(((2 * a.natAbs + b) / (2 * b) : Nat) : Int) else (((2 * a.natAbs + b) / (2 * b) : Nat) : Int)

/-- A signed count of nanoseconds as RTC_OFFSET holds it, saturating above 0x8000_0000 (R543). -/
def offsetWord (n : Int) : Word := wInt (max (-2147483647) (min 2147483647 n))

/-- currentUtcOffset in use: the announced one where valid, else the one kept (R530). -/
def utcInUse (s : State) : Int :=
  if s.ring.ptp.utcValid then s.ring.ptp.utcOffset.toInt else s.bkup.utcOffset.toInt

/-- PTP time in ns converted to the label's count of ns since 2000 (R530). -/
def ptpLabelNs (s : State) (ptpNs : Int) : Int := ptpNs - (utcInUse s + 946684800) * 1000000000

/-- The grandmaster's clockClass is acceptable (R433, R534). -/
def classOk (s : State) : Bool := decide (s.ring.ptp.gmClass = 6 ∨ s.ring.ptp.gmClass = 7 ∨ s.ring.ptp.gmClass = 13)

/-- What a comparison does to the time quality (R534). -/
def qualityStep (s : State) (off : Int) : State :=
  let near := decide (off.natAbs ≤ 100000)
  let s := s.modBkup fun b =>
    { b with goodRun := if near && classOk s && s.ring.ptp.utcValid then b.goodRun + 1 else 0, badRun := if near then 0 else b.badRun + 1, comparedAt := now s }
  match s.bkup.quality with
  | .held => if 3 ≤ s.bkup.goodRun then setQuality s .synced else s
  | .synced => if decide (3 ≤ s.bkup.badRun) || !classOk s then setQuality s .held else s
  | .unset => s

/-- currentUtcOffset is announced with a value other than the one kept (R530, R531). -/
def utcChanged (s : State) : Bool := s.ring.ptp.utcValid && decide (s.ring.ptp.utcOffset ≠ s.bkup.utcOffset)

/-- The comparison of the RTC at a roll-over with the PTP time; a change of currentUtcOffset steps (R530, R531). -/
def compareRtc (s : State) (ptpNs : Int) : State :=
  let changed := utcChanged s
  let s := s.modBkup fun b =>
    if s.ring.ptp.utcValid then { b with utcOffset := s.ring.ptp.utcOffset, utcValid := true } else { b with utcValid := false }
  let label := ptpLabelNs s ptpNs
  let off := (s.bkup.seconds.toNat : Int) * 1000000000 - label
  let s := s.modBkup fun b => { b with rtcOffset := offsetWord off }
  if s.bkup.quality == .unset || changed || decide ((cfgTimeStepThresholdMs s).toNat * 1000000 < off.natAbs) then
    let sec := wInt (label / 1000000000)
    let sub : BitVec 15 := BitVec.ofInt 15 (label % 1000000000 * 32768 / 1000000000)
    let s := s.modBkup fun b => { b with stageSec := sec, stageSub := sub.setWidth 32, staged := false }
    let s := clockStep s 2 sec sub
    s.modBkup fun b => { b with comparedAt := now s }
  else
    let s := if decide (1000000000 ≤ off.natAbs * 32768) && decide (s.bkup.shiftLeft = 0) then
        applyShift s (-(roundDiv (off * 32768) 1000000000)) else s
    qualityStep s off

/-- The roll-over itself: SECONDS advances, SUBSECOND is 0, a new trim code takes effect, PPS rises (R524, R533, R537). -/
def rollover (s : State) : State :=
  s.modBkup fun b =>
    { b with seconds := b.seconds + 1, sub := 0, trim := b.trimNew.getD b.trim, trimNew := none, pps := b.quality != .unset }

/-- RTC_ROLLOVER_COMPARISON: the roll-over, and with TIME_SOURCE 1 and PTP state SLAVE the comparison (R530 to R534). -/
def execRtcRolloverComparison (ptpNs : Int) (s : State) : Host.Outcome State Fault Refusal :=
  let s1 := rollover s
  .next (if up s && decide (cfgTimeTimeSource s = 1) && s.ring.ptp.st == .slave then compareRtc s1 ptpNs else s1)

/-- The stage words written; both in one message set STAGED, one alone clears it (R528). -/
def stageWords (s : State) (sec sub : Option Word) : State :=
  s.modBkup fun b => match sec, sub with
    | some x, some y => { b with stageSec := x, stageSub := y, staged := true, stagedAt := now s }
    | some x, none => { b with stageSec := x, staged := false }
    | none, some y => { b with stageSub := y, staged := false }
    | none, none => b

/-- STAGE_WRITE (R528, R544). -/
def execStageWrite (r : Req) (sec sub : Option Word) (s : State) : Host.Outcome State Fault Refusal :=
  doIf (may s r 2 && fnReady s 0x02 0) s (stageWords s sec sub)

/-- A COMMIT is not ignored (R528). -/
def commitOk (s : State) : Bool :=
  s.bkup.staged && decide (s.bkup.stageSub.toNat ≤ 32767) &&
    !(decide (cfgTimeTimeSource s = 1) && s.bkup.quality == .synced)

/-- COMMIT written (R528, R535). -/
def commitStage (s : State) : State :=
  if commitOk s then
    clockStep (s.modBkup fun b => { b with staged := false }) 1 s.bkup.stageSec (s.bkup.stageSub.setWidth 15)
  else s

/-- COMMIT (R528, R529). -/
def execRtcCommit (r : Req) (s : State) : Host.Outcome State Fault Refusal := doIf (may s r 2 && fnReady s 0x02 0) s (commitStage s)

/-- CANCEL_STAGE (R544). -/
def execCancelStage (r : Req) (s : State) : Host.Outcome State Fault Refusal :=
  doIf (may s r 2 && fnReady s 0x02 0) s (s.modBkup fun b => { b with staged := false })

/-- STAGE_LAPSE: 10 s after staging (R528). -/
def execStageLapse (s : State) : Host.Outcome State Fault Refusal :=
  doIf (up s && s.bkup.staged && decide (s.bkup.stagedAt + 10000 ≤ now s)) s (s.modBkup fun b => { b with staged := false })

/-- RTC_SHIFT written by a station (R532, R544). -/
def writeShift (s : State) (w : Word) : State :=
  let n := (w.extractLsb' 0 16).toInt
  if decide (s.bkup.shiftLeft ≠ 0) || decide (cfgTimeTimeSource s = 1) || decide (n = -32768) then s else applyShift s n

/-- RTC_SHIFT_WRITE (R532). -/
def execRtcShiftWrite (r : Req) (w : Word) (s : State) : Host.Outcome State Fault Refusal := doIf (may s r 2 && fnReady s 0x02 0) s (writeShift s w)

/-- SHIFT_COMPLETE (R532). -/
def execShiftComplete (s : State) : Host.Outcome State Fault Refusal :=
  doIf (decide (s.bkup.shiftLeft ≠ 0)) s (s.modBkup fun b => { b with shiftLeft := 0 })

/-- RTC_TRIM_CODE written: ignored while AUTO_TRIM is 1 (R533, R544). -/
def writeTrim (s : State) (w : Word) : State :=
  if cfgTimeAutoTrim s = 1 then s else s.modBkup fun b => { b with trimNew := some (w.extractLsb' 0 5) }

/-- RTC_TRIM_CODE_WRITE (R533). -/
def execRtcTrimCodeWrite (r : Req) (w : Word) (s : State) : Host.Outcome State Fault Refusal := doIf (may s r 2 && fnReady s 0x02 0) s (writeTrim s w)

/-- AUTO_TRIM_ADJUST, after 600 s of unbroken SYNCED: their shifts sum to more than 1.0 ppm where they pass 19.66 counts (R533). -/
def execAutoTrimAdjust (s : State) : Host.Outcome State Fault Refusal :=
  doIf (up s && decide (cfgTimeAutoTrim s = 1) && s.bkup.quality == .synced && decide (s.bkup.trimAt + 600000 ≤ now s)) s
    (s.modBkup fun b =>
      let t := b.trim.toNat
      let n := if 20 ≤ b.shiftSum then some (t - 1) else if b.shiftSum ≤ -20 then some (min 31 (t + 1)) else none
      { b with shiftSum := 0, trimAt := now s, trimNew := (n.map (BitVec.ofNat 5)).orElse fun _ => b.trimNew })

/-- TIME_PERIODIC (R536). -/
def execTimePeriodic (s : State) : Host.Outcome State Fault Refusal :=
  doIf (up s) s (bcast s 1 0x2D (timeMsg s 1 0 s.bkup.quality s.bkup.quality (wallNow s) (wallNow s)))

/-- SHUTDOWN written: the node waits (R538). -/
def startShutdown (s : State) : State :=
  s.modBkup fun b => { b with shutWait := if b.shutWait.isSome then b.shutWait else some (now s) }

/-- SHUTDOWN (R538, R544). -/
def execShutdown (r : Req) (s : State) : Host.Outcome State Fault Refusal := doIf (may s r 3 && fnReady s 0x02 0) s (startShutdown s)

/-- PWRON_OFF: BACKLOG is 0 or 2 s have passed since the write; a WAKE_AT already reached ends SHUTDOWN at once (R538). -/
def execPwronOff (s : State) : Host.Outcome State Fault Refusal :=
  match s.bkup.shutWait with
  | none => .next s
  | some t =>
    doIf (up s && (s.linen.staged.isEmpty || decide (t + 2000 ≤ now s))) s
      (s.modBkup fun b =>
        if b.wakeAt ≠ 0 ∧ b.wakeAt.toNat ≤ b.seconds.toNat then { b with shutWait := none }
        else { b with shutWait := none, shutdown := true, pwron := false })

/-- WAKEN_LOW; SHUTDOWN has been entered from its write on (R538, R539; log entry 91). -/
def execWakenLow (s : State) : Host.Outcome State Fault Refusal :=
  .next (s.modBkup fun b => if b.shutdown || b.shutWait.isSome then { b with shutdown := false, shutWait := none, pwron := true }
    else { b with wakeSeen := true })

/-- WAKE_AT_MATCH (R538). -/
def execWakeAtMatch (s : State) : Host.Outcome State Fault Refusal :=
  doIf (s.bkup.shutdown && decide (s.bkup.wakeAt ≠ 0) && decide (s.bkup.wakeAt.toNat ≤ s.bkup.seconds.toNat)) s
    (s.modBkup fun b => { b with shutdown := false, pwron := true })

/-- OSCILLATOR_START: Gauze changes from its internal oscillator to the crystal lock (R578). -/
def execOscillatorStart (s : State) : Host.Outcome State Fault Refusal :=
  .next { s with gauze := { s.gauze with internalOsc := false } }

/-- TAP_INSTRUCTION: one other than BYPASS or IDCODE takes the logic balls (R579). -/
def execTapInstruction (ins : TapIns) (s : State) : Host.Outcome State Fault Refusal :=
  .next { s with pins := { s.pins with tapTaken := match ins with
    | .bypass => false
    | .idcode => false
    | _ => true } }

end Sys2Proof.Machine
end

