-- ==== Sys2Proof/Machine/Start.lean ====
section
/-! DEFINITION. Reset, the start, and the readiness of every function (R77 to R102, R105, R116, R125, R524). -/

namespace Sys2Proof.Machine
open Sys2Proof

/-! Reset (R78, R79, R97, R520). -/

/-- A UAI at a logic-side reset: the field die's half stands (R97). -/
def keepUai (u : Uai) : Uai :=
  { settlingDone := u.settlingDone, outFlags := u.outFlags, absentRun := u.absentRun, headLow := u.headLow
    dieSample := u.dieSample, dieDiag := u.dieDiag, openTc := u.openTc, convFail := u.convFail, mode := u.mode
    readySample := u.readySample, dieNew := u.dieNew, dieTemp := u.dieTemp, dieLead := u.dieLead, dieHead := u.dieHead
    dieAt := u.dieAt, set := u.set, freqOn := u.freqOn, freqPeak := u.freqPeak, freqFrom := u.freqFrom
    freqLast := u.freqLast, freqCount := u.freqCount }

/-- A loop output at a logic-side reset (R97). -/
def keepAo (a : Ao) : Ao :=
  { applied := a.applied, changedAt := a.changedAt, runs := a.runs, gone := a.gone, complAt := a.complAt
    safeBefore := a.safeBefore, from_ := a.from_, dieDiag := a.dieDiag, tol := a.tol, openTest := a.openTest
    hartFilter := a.hartFilter }

/-- A digital input at a logic-side reset (R97). -/
def keepDi (d : Di) : Di :=
  { filtered := d.filtered, counter := d.counter, raw := d.raw, openFlag := d.openFlag, dieTotal := d.dieTotal
    dieWrapped := d.dieWrapped, restarted := d.restarted, settling := d.settling, presets := d.presets, settings := d.settings
    totalGap := d.totalGap }

/-- A digital output at a logic-side reset (R97). -/
def keepDo (d : Do) : Do :=
  { energised := d.energised, overload := d.overload, thermal := d.thermal, latched := d.latched, shed := d.shed
    extDrive := d.extDrive, openLoad := d.openLoad, reverse := d.reverse, waitRestart := d.waitRestart, cutoffs := d.cutoffs
    cutAt := d.cutAt, shedAt := d.shedAt, openGone := d.openGone, extGone := d.extGone, extClear := d.extClear
    testsClear := d.testsClear, safeBefore := d.safeBefore, openTest := d.openTest }

/-- The spare converter at a logic-side reset: its place and its failures stand (R97, R189). -/
def keepSpare (p : Spare) : Spare :=
  { at_ := p.at_, phase := p.phase, fail := p.fail, spared := p.spared, failed2 := p.failed2, failed3 := p.failed3
    visitFail2 := p.visitFail2, next := p.next, history := p.history, refDeviation := p.refDeviation, refDrift := p.refDrift
    driftAt := p.driftAt, refFail := p.refFail, failAt := p.failAt }

/-- The backup domain at a logic-side reset: its contents stand (R520). -/
def keepBkup (b : Bkup) : Bkup :=
  { b with timeKnown := false, recT0 := 0, valid := false, staged := false, stageSec := 0, stageSub := 0, shutWait := none
           rtcOffset := 0x80000000, goodRun := 0, badRun := 0, shiftSum := 0 }

/-- The outputs in manual with their values: the start ends manual (R242). -/
def manualOuts (s : State) : List (Fin 12 × Pair) :=
  ((List.finRange 12).filter (inManual s)).map fun o => (o, manualPair s o)

/-- The records of the outputs that the start took out of manual (R242, R490; log entry 100). -/
def manualEnds (s : State) : State :=
  s.disc.manualWas.foldl (fun s e => stage s (mkRec s .e 0x14 (subj s 2 (outChan e.1)) 2 (pws e.2)))
    { s with disc := { s.disc with manualWas := [] } }

/-- The whole node as the logic side enters reset (R78, R79, R97, R504, R520). -/
def resetLogic (s : State) (cause : BitVec 2) (cut : Option Nat) : State :=
  { pending := s.pending
    clk := s.clk
    sys := { porn := decide (cause ≠ 0), nextCause := cause, stepping := s.sys.stepping, variantB := s.sys.variantB }
    pins := { tapTaken := s.pins.tapTaken }
    nor := { bytes := s.nor.bytes, declared := s.nor.declared }
    field := { s.field with linkSynced := false }
    uai := s.uai.map keepUai
    spare := keepSpare s.spare
    ao := s.ao.map keepAo
    disc := { di := s.disc.di.map keepDi, do_ := s.disc.do_.map keepDo, acqTick := s.disc.acqTick, acqAt := s.disc.acqAt
              dieSafen := s.disc.dieSafen, shedding := s.disc.shedding, manualWas := s.disc.manualWas ++ manualOuts s
              slowed := s.disc.slowed, dips := s.disc.dips, safenPin := s.disc.safenPin }
    nand := nandThroughReset s cut
    bkup := keepBkup s.bkup }

/-- LOGIC_RESET_ASSERT: PORn low or a rail below its threshold; a page program under way is cut short, `cut` the records of
its page that check (R78, R79, R80, R504). -/
def execLogicResetAssert (cause : BitVec 2) (cut : Option Nat) (s : State) : Host.Outcome State Fault Refusal :=
  doIf (up s) s (resetLogic s cause cut)

/-! The start (R78, R82, R103, R524). -/

/-- The density used for one declared (R103). -/
def densityUsed (mib : Nat) : Nat :=
  if 128 ≤ mib then 128 else if 64 ≤ mib then 64 else if 32 ≤ mib then 32 else if 16 ≤ mib then 16 else 0

/-- The backup domain is valid (R524). -/
def backupValid (b : Bkup) : Bool :=
  !b.latch && b.signature == ⟨0x4B444253, 0xB4BBBDAC⟩ && b.cycle.ok && b.opHi.ok && b.opLo.ok

/-- The start's check of the backup domain: POWER_CYCLE incremented, or the clock and the RAM cleared as a step of cause 3
(R524, R535). -/
def checkBackup (s : State) : State :=
  let b := s.bkup
  if backupValid b then
    { s with bkup := { b with
        valid := true, latch := false, wakeSeen := false, cycle := Pair.mk0 (b.cycle.v + 0x100)
        quality := if b.quality == .synced then .held else b.quality } }
  else
    let before := wallNow s
    let q := b.quality.code
    let s1 : State := { s with bkup := { b with
      valid := false, latch := false, wakeSeen := false, seconds := 0, sub := 0, shiftLeft := 0, quality := .unset
      ram := Vector.replicate 256 0, signature := ⟨0x4B444253, 0xB4BBBDAC⟩ } }
    stage s1 (mkRec s1 .p 0x04 (subj s1 7 0) 0
      [before.extractLsb' 32 32, before.extractLsb' 0 32, 0, 0, w32 (3 * 16 + q)])

/-- PORN_RELEASE: t0, with the density that the NOR declares (R78, R103, R524). -/
def execPornRelease (norMib : Option Nat) (s : State) : Host.Outcome State Fault Refusal :=
  let s1 : State := { s with
    sys := { s.sys with held := false, porn := true, cause := s.sys.nextCause }
    nor := { s.nor with declared := norMib, mib := densityUsed (norMib.getD 0) } }
  doIf s.sys.held s (manualEnds (checkBackup s1))

/-- The other slot's byte offset where its header is valid. -/
def otherBase (s : State) : Option Nat := if s.cfg.otherValid then some (slotBase s (!s.cfg.slot)) else none

/-- The sections in effect without a configuration: RING and TIME on their defaults, suspect (R125). -/
def absentRun : Tab Sect := [(3, lostSection), (4, lostSection)]

/-- TRIM from the TIME section, unless a valid backup keeps the code it has learned (R533). -/
def loadTrim (s : State) : State :=
  if s.bkup.valid && decide (cfgTimeAutoTrim s = 1) then s
  else { s with bkup := { s.bkup with trim := (cfgTimeRtcTrim s).setWidth 5 } }

/-- The TIME message of a clock found invalid, queued until RING is READY (R535, R536). -/
def lostClockMsg (s : State) : State :=
  if s.bkup.valid then s else bcast s 1 0x2D (timeMsg s 2 3 s.bkup.quality s.bkup.quality 0 (wallNow s))

/-- Everything that the field die must be told goes once the link is up (R96, R97). -/
def loadIfLinked (s : State) : State := if s.field.linkSynced then loadField s else s

/-- T_A: the slot chosen, sections 0x01 to 0x05 read (R82, R116, R119, R125, R134). -/
def readPhase0 (s : State) : State :=
  let c0 : Cfg := { s.cfg with
    interrupted := markerSet s, seqHighest := Pair.mk0 (highestSeq s), phasesDone := 1, slot := false }
  let s0 := clearMarker { s with cfg := c0, sys := { s.sys with phase := .firmware } }
  let lone (s : State) : State :=
    let s1 := { s with cfg := { s.cfg with absent := true, run := absentRun, seqInUse := Pair.mk0 0 } }
    loadIfLinked (lostClockMsg (loadTrim (sysRaise s1 0x02)))
  match chosenSlot s with
  | none => lone s0
  | some b =>
    let s1 := { s0 with
      cfg := { s0.cfg with slot := b, otherValid := slotOk s (!b), seqInUse := Pair.mk0 (seqOf s b) }
      sys := { s0.sys with slot := b } }
    let r := readTypes s1 (slotBase s1 b) (otherBase s1) 1 5 ([], ignoredReps (secTable s1 (slotBase s1 b)), false)
    let s2 := { s1 with cfg := { s1.cfg with report := r.2.1, fallback := r.2.2 } }
    match tget r.1 1 with
    | some c => if c.noCopy then lone s2 else
        loadIfLinked (lostClockMsg (loadTrim { s2 with cfg := { s2.cfg with absent := false, run := r.1 } }))
    | none => lone s2

/-- The firmware copy to load: the higher FW_SEQ, copy 0 of equals, the other where its body fails (R105). -/
def firmwareCopy (s : State) : Option Bool :=
  let order : List Bool := if fwHeaderOk s true && (!fwHeaderOk s false || decide ((fwWord s false 1).toNat < (fwWord s true 1).toNat))
    then [true, false] else [false, true]
  order.find? fun k => fwHeaderOk s k && fwBodyOk s k

/-- T_B: one firmware copy read (R82, R105). -/
def readPhase1 (s : State) : State :=
  let s0 : State := { s with sys := { s.sys with phase := .sections }, cfg := { s.cfg with phasesDone := 2 } }
  match firmwareCopy s with
  | some k => { s0 with cfg := { s0.cfg with
      fwLoaded := true, fwCopy := k, fwSeq := fwWord s k 1, fwVersion := fwWord s k 5 } }
  | none => sysRaise s0 0x05

/-- Sections 0x06 to 0x12 and the rules of T_C; without a configuration HISTORY on its defaults, once a firmware copy is
loaded (R82, R105, R121, R125, R509). -/
def readRest (s : State) : State :=
  if s.cfg.fwLoaded && !s.cfg.absent then
    let b := slotBase s s.cfg.slot
    let r := readTypes s b (otherBase s) 6 18 (s.cfg.run, s.cfg.report, s.cfg.fallback)
    let t := tcRules r.1
    { s with cfg := { s.cfg with run := t.1, report := r.2.1 ++ t.2, fallback := r.2.2 } }
  else if s.cfg.fwLoaded then { s with cfg := { s.cfg with run := tset s.cfg.run 14 lostSection } }
  else s

/-- CALLING_CRC: the CRC-32 of the CALLING section as read (R106, R363). -/
def callingCrc (s : State) : Word := match tget s.cfg.run 11 with
  | none => 0
  | some c =>
    let base := if c.fellBack then slotBase s (!s.cfg.slot) else slotBase s s.cfg.slot
    if c.noCopy then 0
    else match entryOf (secTable s base) 11 with
      | none => 0
      | some e => crc32 (memBytes norByte s.nor.bytes (base + e.off) e.len)

/-- The points this node evaluates from the start: its own but for those that a CAN controller feeds (R283, R412). -/
def startPoints (s : State) : State :=
  { s with points := ((ownPoints s).filter fun p => (feederOf s p).isNone).map fun p => (p, ({} : LocalPt)) }

/-- T_C: the rest read, what depends on it set up (R82, R121, R123, R336, R363, R379, R468). -/
def readPhase2 (s : State) : State :=
  let s1 := readRest s
  let s2 := startPoints { s1 with
    cfg := { s1.cfg with phasesDone := 3, work := s1.cfg.run, reportTotal := s1.cfg.report.length }
    sys := { s1.sys with phase := .part }
    call := { s1.call with crc := callingCrc s1 } }
  let s3 := if s2.linen.scanned then restoreDamask s2 else s2
  let s4 := if s3.cfg.absent then s3 else canSetUp (canSetUp s3 0) 1
  startReport (noteSuspects (loadIfLinked (syncTasks s4)))

/-- NOR_READ_PHASE_COMPLETE: T_A, T_B and T_C in turn (R82, R101). -/
def execNorReadPhaseComplete (phase : Fin 3) (s : State) : Host.Outcome State Fault Refusal :=
  doIf (up s && decide (s.cfg.phasesDone = phase.val)) s
    (match phase with
     | 0 => readPhase0 s
     | 1 => readPhase1 s
     | _ => readPhase2 s)

/-! Readiness (R83). -/

/-- A channel's condition (R83). -/
def chanCond (s : State) (i : Nat) : Bool :=
  linkReady s && decide (1 ≤ s.cfg.phasesDone) &&
  if h : i < 16 then
    let u := uaiAt s ⟨i, h⟩
    let p := portAt s (uaiPort ⟨i, h⟩)
    u.sent && u.settlingDone && u.readySample && (decide (p.mode ≠ 1) || p.firstProbeDone)
  else if h : i < 20 then
    let o : Fin 4 := ⟨i - 16, by omega⟩
    ((feltAt s (aoOut o)).safe.map Pair.ok == some true) && (aoAt s o).haveCmd && s.disc.safenSent
  else if h : i < 36 then
    let d := diAt s ⟨i - 20, by omega⟩
    d.loaded && !d.settling
  else if h : i < 44 then
    let o : Fin 8 := ⟨i - 36, by omega⟩
    ((feltAt s ⟨4 + o.val, by omega⟩).safe.map Pair.ok == some true) && (doAt s o).haveCmd && s.disc.safenSent
  else false

/-- Three quads in service, or two where one has FAILED (R83; log entry 98). -/
def quadsEnough (s : State) : Bool :=
  let n := ((List.finRange 4).filter fun q => (quadAt s q).st.inService).length
  decide (3 ≤ n) || (decide (n = 2) && (List.finRange 4).any fun q => (quadAt s q).st == .failed)

/-- The condition of a function that READY waits for (R83, R89, R105, R509). -/
def fnCond (s : State) (fn idx : Nat) : Bool :=
  let read := decide (s.cfg.phasesDone = 3)
  match fn with
  | 1 => decide (1 ≤ s.cfg.phasesDone)
  | 2 => decide (1 ≤ s.cfg.phasesDone) && (s.bkup.valid || s.bkup.timeKnown)
  | 3 => s.field.running
  | 4 => chanCond s idx
  | 5 => read && groupDone s idx && (fnReady s 0x0A 0 || s.points.any fun e => !e.2.byDuty && decide (groupOf s e.1 = idx))
  | 6 => if idx = 0 then (canAt s 0).mode == .restricted || (canAt s 0).mode == .normal
    else (canAt s 1).mode == .restricted || (canAt s 1).mode == .normal
  | 7 => read && fnReady s 0x09 0
  | 8 => read && s.linen.scanned && s.linen.st == .scanning && s.cfg.fwLoaded
  | 10 => read && s.cfg.fwLoaded && decide (s.canvas.epoch.v ≠ 0) && quadsEnough s
  | 11 => read && fnReady s 0x0A 0
  | _ => false

/-- The depth of class c's token bucket in bit times (R437). -/
def bucketDepth (c : Fin 4) : Nat := match c.val with
  | 0 => 524288
  | 1 => 2097152
  | 2 => 8388608
  | _ => 524288

/-- Every token bucket full (R437). -/
def fullBuckets (s : State) : Vector ClassSt 4 :=
  Vector.ofFn fun c => { classAt s c with bucket := bucketDepth c, bucketAt := now s }

/-- The switch comes into service: ports out of electrical idle in their modes, the token buckets full,
the session taken, PTP listening (R83, R426, R433, R437, R445, R447). -/
def ringStart (s : State) : State :=
  let md (p : Nat) : BitVec 4 := BitVec.ofNat 4 (cfgLinkPortMode s p).toNat
  let port (p : Nat) (r : RingPort) : RingPort := { r with mode := md p, st := if md p = 0 then .off else .down }
  let r := s.ring
  { s with
    ring := { r with
      ports := vmod (vmod (vmod r.ports 0 (port 0)) 1 (port 1)) 2 (port 2), classes := fullBuckets s
      session := if s.bkup.valid then BitVec.ofNat 16 (powerCycle s) else 0
      bindings := if s.cfg.absent then r.bindings else tset r.bindings (nodeNum s) (nodeMac s)
      ptp := { r.ptp with st := if cfgRingPtpEnable s = 1 then .listening else .disabled, announceAt := now s }
      returnedAB := now s, returnedBA := now s }
    pins := { s.pins with laIdle := decide (md 0 = 0), lbIdle := decide (md 1 = 0), lsIdle := decide (md 2 = 0) } }

/-- TIME comes into service: recorder time, the multiples of ROTATION_DAYS and of DUMP_PERIOD_S gone by (R400, R555), VBAT_LOW and BACKUP_LOST (R83, R496, R522, R542). -/
def timeStart (s : State) : State :=
  let s0 := if s.bkup.timeKnown then s else timeReady s
  let s1 : State := { s0 with
    canvas := { s0.canvas with rotatedAt := opMs s0 }, perf := { s0.perf with dumpAt := opMs s0 } }
  let s2 := sysSet s1 0x3D s1.bkup.vbatLow
  if !s.bkup.valid && s.bkup.quality == .unset then sysSet s2 0x3E true else s2

/-- The samplers as the COUNTERS section sets them (R561). -/
def loadSampler (s : State) (k : Fin 16) : State :=
  if cfgHas s 15 k.val then
    s.modSampler k fun c => { c with
      event := BitVec.ofNat 16 (cfgSmpEvent s k.val).toNat, enable := decide (cfgSmpEnable s k.val = 1)
      chain := decide (cfgSmpChain s k.val = 1), sample := decide (cfgSmpSample s k.val = 1)
      preload := cfgSmpPreload s k.val }
  else s

/-- A sampler as it begins: its COUNT is its PRELOAD (R561, R562). -/
def startSampler (s : State) (k : Fin 16) : State :=
  let s1 := loadSampler s k
  if cfgHas s 15 k.val then s1.modSampler k fun c => { c with count := c.preload } else s1

/-- Every feature of VIBRATION begins from a fresh span (R223, R225). -/
def vibStart (s : State) : State :=
  let s := { s with vib := { s.vib with readyAt := opMs s, ch := s.vib.ch.map fun v => { v with schedAt := opMs s } } }
  (List.finRange 16).foldl (fun s n => (List.range 64).foldl (fun s i =>
    if featUsed s n (i + 1) then
      if featShed s n (i + 1) then s.modFeat n (i + 1) fun f => { f with st := .heldShed } else resumeFeat s n (i + 1)
    else s) s) s

/-- What a function does as it comes into service. -/
def fnStart (s : State) (fn idx : Nat) : State := match fn with
  | 1 => ringStart s
  | 2 => timeStart s
  | 3 => spareConds (latchedCond (lockedCond (vfldConds (loadField { s with field := { s.field with linkSynced := true } }))))
  | 4 => if h : 20 ≤ idx ∧ idx < 36 then restoreTotal s ⟨idx - 20, by omega⟩ else s
  | 8 => histStart s
  | 10 => captureDump ((List.finRange 16).foldl startSampler s) 4
  | 11 => vibStart s
  | _ => s

/-- What follows a function's READY: the start report, an output's commands, group 0 without points (R83, R89, R127, R237). -/
def fnFollow (s : State) (fn idx : Nat) : State := match fn with
  | 1 => startReport s
  | 4 => if h : 16 ≤ idx ∧ idx < 20 then refreshOut s ⟨idx - 16, by omega⟩
    else if h : 36 ≤ idx ∧ idx < 44 then refreshOut s ⟨idx - 36 + 4, by omega⟩ else s
  | 10 =>
    if (fnConfigured s).contains (fnKey 5 0) && !fnReady s 5 0 && !(ownLocal s).any fun p => decide (groupOf s p = 0) then
      becomeReady s 5 0 else s
  | _ => s

/-- FUNCTION_READY: a configured function whose condition holds comes into service and announces READY (R83, R85, R90). -/
def execFunctionReady (fn : BitVec 8) (idx : BitVec 16) (s : State) : Host.Outcome State Fault Refusal :=
  let f := fn.toNat
  let i := idx.toNat
  doIf (up s && (fnConfigured s).contains (fnKey f i) && decide (i < 256) && !fnReady s f i && fnCond s f i) s
    (fnFollow (becomeReady (fnStart s f i) f i) f i)

/-! The READY deadline (R90). -/

/-- The hold of a point marked at the deadline: FLT active, its TRANSITION_SEQ going on from the replica's (R90, R327). -/
def markHold (s : State) (p : Nat) (a : AlarmSt) : AlarmSt :=
  let seq := match tget s.canvas.replica p with
    | some r => if tseqNewer r.seq a.seq then r.seq else a.seq
    | none => a.seq
  let b := { a with seq := seq }
  if bit (cfgLimLimitEnable s p) 6 then
    b.mapConds fun n c => if n = 6 then { c with raw := true, active := true, held := false } else c
  else b

/-- A local point not yet evaluated at the deadline: BAD, FLT raised with cause NOT_READY (R90). -/
def markPoint (s : State) (p : Nat) : State := match tget s.points p with
  | none => s
  | some l =>
    if l.evaluated || l.byDuty then s
    else
      let t := stampNow s
      let c := changeEvents l.alarm (markHold s p l.alarm)
      let s1 := s.modPoint p fun l => { l with
        marked := true, alarm := { c.1 with stateWord := Pair.mk0 (stateWordOf c.1) }
        pub := { l.pub with
          quality := Pair.mk0 (qualityWord 1 false (sourceOf s p l 0).suspect 3), cycle := t.cycle, opMs := t.ms, wall := t.wall
          wallQ := t.q } }
      let s2 := emitAlarms p t false (trail l.alarm c.1 c.2) (publishState s1 p)
      publishDelta (refreshGroup s2 (groupOf s p)) p

/-- A group not yet READY at the deadline announces READY with its marked points counted (R90). -/
def markGroup (s : State) (g : Nat) : State :=
  if fnReady s 5 g then s
  else
    let n := (s.points.filter fun e => !e.2.byDuty && e.2.marked && decide (groupOf s e.1 = g)).length
    becomeReady (s.modFn (fnKey 5 g) fun f => { f with notStarted := n }) 5 g

/-- The record of a function not READY at the deadline (R90, R490). -/
def lateRec (s : State) (k : Nat) : State :=
  if (fnAt s k).ready then s else stage s (mkRec s .d 0x43 (subj s 3 k) 0 [])

/-- READY_DEADLINE_EXPIRY (R81, R90). -/
def execReadyDeadlineExpiry (s : State) : Host.Outcome State Fault Refusal :=
  doIf (up s && !s.sys.deadlinePassed && decide ((cfgIdReadyDeadline s).toNat ≤ s.sys.msSince.toNat)) s
    (let s0 : State := { s with sys := { s.sys with deadlinePassed := true } }
     if startComplete s0 then s0
     else
       let s1 := (s0.points.map Prod.fst).foldl markPoint s0
       let n := (s1.points.filter fun e => !e.2.byDuty && e.2.marked).length
       let s2 : State := { s1 with sys := { s1.sys with notStarted := w32 n, phase := .nor } }
       let s3 := (if s2.cfg.absent then [] else ownGroups s2).foldl markGroup s2
       let s4 := (fnConfigured s3).foldl lateRec s3
       let s5 := sysRaise s4 0x01
       startDone (if allReady s5 then sysClear s5 0x01 else s5) .completeLate)

end Sys2Proof.Machine
end

