-- ==== Sys2Proof/Machine/Amend.lean ====
section
/-! DEFINITION. Amendments and image loads (R128 to R131, R137, R138, R143). -/

namespace Sys2Proof.Machine
open Sys2Proof

/-! The owner (R128). -/

/-- The requester owns the open amendment (R128). -/
def ownsAmend (s : State) (r : Req) : Bool :=
  s.nor.amend == .open_ && decide (s.nor.ownerMac = r.mac) && decide (s.nor.ownerSess = r.sess)

/-- The open amendment abandoned (R128, R131). -/
def closeAmend (s : State) : State := { s with nor := { s.nor with amend := .idle } }

/-- A request from the owner's MAC address under a new SESSION acts as ABORT (R128, R131). -/
def noteOwner (s : State) (r : Req) : State :=
  if s.nor.amend == .open_ && decide (s.nor.ownerMac = r.mac) && decide (s.nor.ownerSess ≠ r.sess) then closeAmend s else s

/-- An amendment may be opened (R128). -/
def mayOpen (s : State) : Bool :=
  let a := s.nor.amend
  let i := s.nor.image
  startComplete s && !(a == .open_ || a == .checking || a == .committing) && s.nor.job.isNone && s.nor.waiting.isEmpty &&
    (i == .idle || i == .rejected)

/-- OPEN written (R128, R131). -/
def openAmend (s : State) (r : Req) : State :=
  if mayOpen s then
    { s with nor := { s.nor with
        amend := .open_, ownerMac := r.mac, ownerSess := r.sess, amendAt := now s, buffer := [], amendLen := 0 } }
  else s

/-- OPEN (R128, R143). -/
def execAmendOpen (r : Req) (s : State) : Host.Outcome State Fault Refusal := let s := noteOwner s r; doIf (may s r 2) s (openAmend s r)

/-- ABORT written (R131). -/
def abortAmend (s : State) (r : Req) : State := if ownsAmend s r then closeAmend s else s

/-- ABORT (R131, R143). -/
def execAmendAbort (r : Req) (s : State) : Host.Outcome State Fault Refusal := let s := noteOwner s r; doIf (may s r 2) s (abortAmend s r)

/-- AMEND_OPEN_TIMEOUT: 60 s without a write by the owner (R131). -/
def execAmendOpenTimeout (s : State) : Host.Outcome State Fault Refusal :=
  doIf (up s && s.nor.amend == .open_ && decide (s.nor.amendAt + 60000 ≤ now s)) s (closeAmend s)

/-- APPLY written (R129, R131). -/
def applyAmend (s : State) (r : Req) : State :=
  if ownsAmend s r then { s with nor := { s.nor with amend := .checking } } else s

/-- APPLY (R131, R143). -/
def execAmendApply (r : Req) (s : State) : Host.Outcome State Fault Refusal := let s := noteOwner s r; doIf (may s r 2) s (applyAmend s r)

/-- A write to AMEND_LENGTH (R140). -/
def writeAmendLen (s : State) (r : Req) (w : Word) : State :=
  if ownsAmend s r && decide (w.toNat ≤ 16384) then { s with nor := { s.nor with amendLen := w, amendAt := now s } } else s

/-- Words put into a list at i, the list filled up with zeros. -/
def putWords (l : List Word) (i : Nat) (ws : List Word) : List Word :=
  let l1 := l ++ List.replicate (i - l.length) 0
  l1.take i ++ ws ++ l1.drop (i + ws.length)

/-- A write to AMEND_BUFFER (R140). -/
def writeAmendBuffer (s : State) (r : Req) (i : Nat) (ws : List Word) : State :=
  if ownsAmend s r then { s with nor := { s.nor with buffer := putWords s.nor.buffer i ws, amendAt := now s } } else s

/-! CHECKING (R120, R129, R130). -/

/-- Records checked so far. -/
structure AmAcc where
  /-- The working copy with the records that check. -/
  t : Tab Sect
  /-- The values in effect with the live ones of them. -/
  run : Tab Sect
  /-- Section, entity and field of each record met. -/
  seen : List (Nat × Word × Nat) := []
  /-- Report entries, newest first. -/
  bad : List RepEntry := []
  /-- A change waits for the next start. -/
  restart : Bool := false
  deriving DecidableEq, Repr

/-- A table with a field set; the section and the entity are created. -/
def tabPut (t : Tab Sect) (sec : Nat) (key : Option Nat) (f : FieldSpec) (ws : List Word) : Tab Sect :=
  let c := tgetD t sec {}
  tset t sec (match key with
    | none => { c with top := c.top.put f ws }
    | some k => { c with ents := tset c.ents k ((tgetD c.ents k {}).put f ws) })

/-- An ENTITY record: the entity created or removed (R129). -/
def tabEntity (t : Tab Sect) (sec k : Nat) (delete : Bool) : Tab Sect :=
  let c := tgetD t sec {}
  tset t sec { c with ents := if delete then terase c.ents k else tset c.ents k (tgetD c.ents k {}) }

/-- An entity key that a new or existing entity may have (R113, R120). -/
def keyFits (t : Tab Sect) (sec : Nat) (key : Option Nat) : Bool := match key with
  | none => true
  | some k => keyOk t sec k && (tabHas t sec k || decide ((tabEnts t sec).length < maxEnts sec))

/-- Why an ENTITY record fails (R110, R120, R129). -/
def entityFault (t : Tab Sect) (r : AmRec) : Option (BitVec 8) := match r.ent with
  | none => some rEnum
  | some k =>
    if r.vs.length ≠ 1 then some rMissing
    else if bits r.head 12 8 ≠ 0 ∨ r.vs.headD 0 ≠ w32 k ∨ keyFits t r.sec (some k) = false then some rEnum
    else none

/-- A ref of an amendment's record names something: its own check, and what the end of its section and T_C check of such a
field, in the working copy as the records so far leave it (R120, R121, R130). -/
def refStands (t : Tab Sect) (sec fld : Nat) (w : Word) : Bool :=
  let n := w.toNat
  let point := decide (w = wNone) || tabHas t 7 n
  refNow t sec fld w && match sec, fld with
    | 5, 0x28 => decide (w = wNone) || tabHas t 6 n
    | 5, 0x31 => decide (w = wNone) || (decide (n < 16) && decide (tabMode t n = 4))
    | 5, 0x34 => decide (n = 255) || tabHas t 5 (20 + n)
    | 5, 0x35 => decide (n = 255) || tabHas t 5 (20 + n)
    | 5, _ => point
    | 7, 5 => decide (n = 0) || tabHas t 9 n
    | 17, 4 => decide (w = wNone) || (decide (n < 16) && decide (tabMode t n = 8))
    | _, _ => true

/-- Why a field record would be clamped (R120). -/
def fieldFault (t : Tab Sect) (r : AmRec) (f : FieldSpec) : Option (BitVec 8) :=
  let n := if f.crit then r.vs.length / 2 else r.vs.length
  let p := if f.crit then unpair r.vs else (r.vs, [])
  if bits r.head 12 8 ≠ 0 ∨ bit r.head 14 = true then some rEnum
  else if n < f.lo ∨ f.hi < n ∨ (f.crit = true ∧ r.vs.length % 2 = 1) then some rMissing
  else if bit r.head 15 ≠ f.crit ∨ (f.crit = true ∧ p.2 ≠ p.1.map (~~~·)) then some rPair
  else if f.hi = 1 then match f.kind with
    | .ref_ => if refStands t r.sec f.fld (r.vs.headD 0) then none else some rEnum
    | _ => (checkWord t r.sec f (r.vs.headD 0)).map Prod.fst
  else none

/-- The entity, or the section fields, are suspect in effect. -/
def entIsSuspect (s : State) (sec : Nat) (key : Option Nat) : Bool := match tabEnt s.cfg.run sec key with
  | some e => e.suspect
  | none => false

/-- Why a record fails: reason and FIELD_ID (R130). -/
def recFault (s : State) (rs : List AmRec) (a : AmAcc) (r : AmRec) : Option (BitVec 8 × Nat) :=
  if r.short then some (rEnum, 0xFFFF)
  else if r.sec < 1 ∨ 18 < r.sec ∨ bits r.w0 23 0 ≠ 0 ∨ a.seen.contains (r.sec, r.key, r.fld) = true then some (rEnum, r.fld)
  else if r.fld = 0 then (entityFault a.t r).map fun x => (x, 0)
  else if keyFits a.t r.sec r.ent = false then some (rEnum, 0)
  else match specOf a.t r.sec r.ent r.fld with
    | none => some (rEnum, r.fld)
    | some f => match fieldFault a.t r f with
      | some x => some (x, r.fld)
      | none => if entIsSuspect s r.sec r.ent && !f.live && !rewrites a.t rs r.sec r.ent then some (rMissing, r.fld) else none

/-- One record checked, and taken into the working copy where it checks; a live field of an entity in effect takes effect
(R129, R130). -/
def amStep (s : State) (rs : List AmRec) (a : AmAcc) (r : AmRec) : AmAcc :=
  let a1 := { a with seen := (r.sec, r.key, r.fld) :: a.seen }
  match recFault s rs a r with
  | some (reason, fld) =>
    { a1 with bad := repEntry r.sec r.ent reason fld (r.vs.headD wNone) (tabW s.cfg.run r.sec r.ent r.fld wNone) :: a.bad }
  | none =>
    if r.fld = 0 then
      { a1 with t := tabEntity a.t r.sec r.key.toNat (bit r.head 14), restart := true }
    else match specOf a.t r.sec r.ent r.fld with
      | none => a1
      | some f =>
        let ws := if f.crit then (unpair r.vs).1 else r.vs
        let inEffect := f.live && (match r.ent with
          | none => (tget s.cfg.run r.sec).isSome || decide (r.sec = 4 ∨ r.sec = 14 ∨ r.sec = 16)
          | some k => tabHas s.cfg.run r.sec k)
        { a1 with
          t := tabPut a.t r.sec r.ent f ws
          run := if inEffect then tabPut a.run r.sec r.ent f ws else a.run
          restart := a.restart || !inEffect }

/-- Every record of the amendment checked in order. -/
def checkAmend (s : State) : AmAcc :=
  let rs := amendRecs s
  rs.foldl (amStep s rs) { t := s.cfg.work, run := s.cfg.run }

/-- A live ON_ROTA or ROTA_ORDER changes, at the holder of the call duty, who is on the rota and who the backup is (R129,
R353, R360). -/
def liveRota (s : State) (r : AmRec) : State :=
  let k := r.key.toNat
  if r.sec = 11 ∧ (r.fld = 0x11 ∨ r.fld = 0x12) ∧ k < 16 ∧ cfgHas s 11 k = true ∧ s.call.holds = true then
    let b := BitVec.ofNat 16 (2 ^ k)
    s.modCall fun c => withBackup s { c with
      changed := true
      onRota := if r.fld = 0x11 then c.onRota else if cfgEngOnRota s k = 1 then c.onRota ||| b else c.onRota &&& ~~~b }
  else s

/-- The tables of points whose group does not learn are owed no observation (R336, R337). -/
def dropOwed (s : State) : State :=
  { s with points := tmap s.points fun p l =>
      if learns s p l = true then l
      else { l with alarm := { l.alarm with roots := l.alarm.roots.map fun x => { x with waits := [] } } } }

/-- A change of DAMASK_MODE from what it was: the tables are written as a checkpoint, and onsets whose group no longer learns
are owed no observation (R336, R337). -/
def liveDamask (was : Nat → Word) (s : State) (r : AmRec) : State :=
  if r.sec = 9 ∧ r.fld = 3 ∧ cfgGrpDamaskMode s r.key.toNat ≠ was r.key.toNat then
    checkpointDamask (dropOwed s)
  else s

/-- A live field of a feature takes effect with a fresh span; a capture entity's, for every feature of its channel (R223). -/
def liveFeat (s : State) (r : AmRec) : State :=
  if r.sec = 17 ∧ r.fld ≠ 0 then
    let n : Fin 16 := ⟨r.key.toNat / 65536 % 16, Nat.mod_lt _ (by decide)⟩
    let k := r.key.toNat % 65536
    s.modVib n fun v => { v with feats := v.feats.map fun e =>
      if e.1 = k ∨ k = 0 ∧ r.fld = 2 then (e.1, { e.2 with since := freshFrom s n }) else e }
  else s

/-- What holds copies of live fields takes them anew (R96, R130, R533, R561). -/
def liveApply (damask : Nat → Word) (s : State) (rs : List AmRec) : State :=
  let has (sec : Nat) : Bool := rs.any fun r => decide (r.sec = sec)
  let s1 := rs.foldl (liveDamask damask) (rs.foldl liveRota s)
  let s2 := if has 5 then loadIfLinked s1 else s1
  let s3 := if has 15 && fnReady s2 0x0A 0 then (List.finRange 16).foldl loadSampler s2 else s2
  let s4 := if rs.any fun r => decide (r.sec = 4 ∧ r.fld = 3) then
      (if cfgTimeAutoTrim s3 = 1 then s3
       else { s3 with bkup := { s3.bkup with trimNew := some ((cfgTimeRtcTrim s3).setWidth 5) } }) else s3
  let s5 := if has 17 then noteShed (refreshStreams (shedFeats (rs.foldl liveFeat s4))) else s4
  if has 16 then notePower s5 else s5

/-- The end of CHECKING; the commit that follows carries a waiting trim (R126, R130, R131, R197). -/
def endCheck (s : State) : State :=
  let a := checkAmend s
  let rs := amendRecs s
  let seq := Pair.mk0 (highestSeq s + 1)
  if a.bad.isEmpty then
    let s1 : State := { s with
      cfg := { s.cfg with work := a.t, run := a.run }
      nor := { s.nor with
        amend := .committing, waiting := s.nor.waiting.filter (fun w => !(w == .trim)) ++ [.amendment], progress := 0
        pendingRestart := s.nor.pendingRestart || a.restart } }
    sendReport (liveApply (cfgGrpDamaskMode s) s1 rs) 2 false seq []
  else sendReport { s with nor := { s.nor with amend := .rejected } } 2 true seq a.bad.reverse

/-- AMEND_CHECK_COMPLETE (R130, R131). -/
def execAmendCheckComplete (s : State) : Host.Outcome State Fault Refusal :=
  doIf (up s && s.nor.amend == .checking) s (endCheck s)

/-! Image loads (R137, R138). -/

/-- A repair commit waits its turn (R136; log entry 99). -/
def askRepair (s : State) : State :=
  if s.nor.waiting.contains .repair then s
  else { s with nor := { s.nor with waiting := s.nor.waiting ++ [.repair] } }

/-- IMAGE_BEGIN written: the target region is erased; ignored where the NOR gives no regions (R137; log entry 99). -/
def imageStart (s : State) : State :=
  let a := s.nor.amend
  if (s.nor.image == .idle || s.nor.image == .rejected) && startComplete s && !norBusy s &&
      !(a == .open_ || a == .checking || a == .committing) && decide (0 < norQ s) then
    let t := targetSlot s
    let s1 : State := { s with nor := { s.nor with image := .erasing, imageTarget := t, imageNext := 0, progress := 0 } }
    eraseNor s1 (slotBase s1 t) (norQ s1)
  else s

/-- IMAGE_BEGIN (R137, R143). -/
def execImageBegin (r : Req) (s : State) : Host.Outcome State Fault Refusal := let s := noteOwner s r; doIf (may s r 3) s (imageStart s)

/-- IMAGE_ERASE_COMPLETE (R137). -/
def execImageEraseComplete (s : State) : Host.Outcome State Fault Refusal :=
  doIf (up s && s.nor.image == .erasing) s { s with nor := { s.nor with image := .receiving, imageAt := now s } }

/-- One word of the image: words 60 and 61, and words past the region, are never programmed (R138). -/
def imageWord (s : State) (i : Nat) (w : Word) : State :=
  if i = 60 ∨ i = 61 ∨ norQ s ≤ 4 * i then s else program s (slotBase s s.nor.imageTarget + 4 * i) [w]

/-- A write to IMAGE_WINDOW: ignored unless its first word is the next one (R138). -/
def imageWrite (s : State) (i : Nat) (ws : List Word) : State :=
  if s.nor.image == .receiving && decide (i = s.nor.imageNext.toNat) then
    let s1 := ws.zipIdx.foldl (fun s e => imageWord s (i + e.2) e.1) s
    { s1 with nor := { s1.nor with imageNext := s.nor.imageNext + BitVec.ofNat 23 ws.length, imageAt := now s } }
  else s

/-- IMAGE_WINDOW_WRITE (R138, R140). -/
def execImageWindowWrite (r : Req) (idx : BitVec 23) (ws : List Word) (s : State) : Host.Outcome State Fault Refusal :=
  let s := noteOwner s r
  doIf (may s r 3) s (imageWrite s idx.toNat ws)

/-- IMAGE_COMMIT written (R137). -/
def imageCommit (s : State) : State :=
  if s.nor.image == .receiving then { s with nor := { s.nor with image := .verifying } } else s

/-- IMAGE_COMMIT (R137, R143). -/
def execImageCommit (r : Req) (s : State) : Host.Outcome State Fault Refusal := let s := noteOwner s r; doIf (may s r 3) s (imageCommit s)

/-- The load given up: IDLE, and a repair commit falls due (R136, R137). -/
def imageDrop (s : State) : State :=
  if s.nor.image == .receiving then askRepair { s with nor := { s.nor with image := .idle } } else s

/-- IMAGE_CANCEL (R137, R143). -/
def execImageCancel (r : Req) (s : State) : Host.Outcome State Fault Refusal := let s := noteOwner s r; doIf (may s r 3) s (imageDrop s)

/-- IMAGE_RECEIVE_TIMEOUT: 10 min without a window write (R137). -/
def execImageReceiveTimeout (s : State) : Host.Outcome State Fault Refusal :=
  doIf (up s && decide (s.nor.imageAt + 600000 ≤ now s)) s (imageDrop s)

/-- What VERIFYING finds wrong, as report entries (R126, R138). -/
def imageFaults (s : State) : List RepEntry :=
  let base := slotBase s s.nor.imageTarget
  if !headerBody s base (norQ s) || decide ((slotSeq s base).toNat ≤ (highestSeq s).toNat) then
    [repEntry 0 none rSection 0xFFFF (hiLo 1 2) wNone]
  else
    (secTable s base).filterMap fun e =>
      if !boundsOk s base e then some (sectionRep e.ty 3 2)
      else if e.crc ≠ crc32 (memBytes norByte s.nor.bytes (base + e.off) e.len) then some (sectionRep e.ty 1 2)
      else none

/-- The end of VERIFYING: the COMMIT pair programmed, or REJECTED with a repair commit (R136 to R138). -/
def endVerify (s : State) : State :=
  let t := s.nor.imageTarget
  let seq := slotSeq s (slotBase s t)
  let es := imageFaults s
  if es.isEmpty then
    let s1 := program s (slotBase s t + 240) [0x4B44434D, 0xB4BBBCB2]
    let s2 := slotCommitted { s1 with nor := { s1.nor with image := .pending } } t seq true false
    sendReport s2 3 false (Pair.mk0 seq) []
  else askRepair (sendReport { s with nor := { s.nor with image := .rejected } } 3 true (Pair.mk0 seq) es)

/-- IMAGE_VERIFY_COMPLETE (R137, R138). -/
def execImageVerifyComplete (s : State) : Host.Outcome State Fault Refusal :=
  doIf (up s && s.nor.image == .verifying) s (endVerify s)

end Sys2Proof.Machine
end

