-- ==== Sys2Proof/Machine/Ring.lean ====
section
/-! DEFINITION. The ring ports, HSR, the switch and precision time (R426 to R442). -/

namespace Sys2Proof.Machine
open Sys2Proof

/-- RING is READY and the logic side is up. -/
def ringUp (s : State) : Bool := up s && fnReady s 0x01 0

/-- Port p. -/
def linkAt (s : State) (p : Fin 3) : RingPort := vat s.ring.ports p

/-- Port p is UP (R427). -/
def linkUp (s : State) (p : Fin 3) : Bool := (linkAt s p).st == .up

/-- Ring port p as a port. -/
def ringPort (p : Fin 2) : Fin 3 := ⟨p.val, by omega⟩

/-- The other ring port. -/
def otherPort (p : Fin 2) : Fin 2 := ⟨1 - p.val, by omega⟩

/-- A MAC address with the group bit set (R458, R459). -/
def isMulticast (m : BitVec 48) : Bool := m.getLsbD 40

/-- A MAC address that the proxy table holds (R430). -/
def inProxy (s : State) (m : BitVec 48) : Bool := s.ring.proxy.toList.any fun e => match e with
  | some x => x.mac == m
  | none => false

/-! Classes (R434 to R437, R448). -/

/-- The class of each message type in the message-type table (R448). -/
def typeClass (t : Nat) : Option Nat := match t with
  | 0x01 => some 1
  | 0x02 => some 1
  | 0x03 => some 1
  | 0x04 => some 1
  | 0x05 => some 1
  | 0x11 => some 1
  | 0x12 => some 1
  | 0x13 => some 1
  | 0x15 => some 1
  | 0x20 => some 1
  | 0x21 => some 0
  | 0x22 => some 1
  | 0x23 => some 0
  | 0x24 => some 1
  | 0x25 => some 1
  | 0x26 => some 0
  | 0x27 => some 3
  | 0x28 => some 3
  | 0x29 => some 2
  | 0x2A => some 2
  | 0x2B => some 0
  | 0x2C => some 1
  | 0x2D => some 1
  | _ => none

/-- The class of a frame; the first row of R434 that matches. -/
def frameClass (fromS : Bool) (k : FrameKind) : Fin 4 := match k with
  | .ptpEvent => 0
  | .ptpOther => 1
  | .supervision => 1
  | .bereb c t =>
    if fromS && decide (c = 0 ∨ c = 2) then 3
    else if typeClass t.toNat = some c.toNat then ⟨c.toNat, by have := c.isLt; omega⟩ else 3
  | .pause => 3
  | .other => 3

/-- The frame-buffer reservation of class c in bytes; C0 is never refused (R436, R438). -/
def reservation (c : Fin 4) : Option Nat := match c.val with
  | 0 => none
  | 1 => some (512 * 1024)
  | 2 => some (1024 * 1024)
  | _ => some (2 * 1024 * 1024)

/-- The receive queue of class c in bytes (R439). -/
def receiveCap (c : Fin 4) : Nat := match c.val with
  | 0 => 8 * 2 ^ 20
  | 1 => 16 * 2 ^ 20
  | 2 => 32 * 2 ^ 20
  | _ => 64 * 2 ^ 20

/-- The sustained rate of class c's bucket in bit times a millisecond (R437). -/
def bucketRate (s : State) (c : Fin 4) : Nat := match c.val with
  | 0 => 10000
  | 1 => 50000
  | 2 => 200000
  | _ => s.canvas.grant.toNat

/-- Class c's bucket filled up to now (R437). -/
def refill (s : State) (c : Fin 4) : State :=
  s.modClass c fun k => { k with
    bucket := min (bucketDepth c) (k.bucket + bucketRate s c * (now s - k.bucketAt)), bucketAt := now s }

/-- Bit times of a frame on the wire, preamble and gap included (R437). -/
def wireBits (bytes : Nat) : Nat := (bytes + 20) * 8

/-- A frame of class c discarded and counted, FRAME_DISCARD raised (R436, R439, R440). -/
def discardFrame (s : State) (c : Fin 4) : State :=
  sysRaise (perfAdd (s.modClass c fun k => { k with discards := satInc k.discards }) (0x3002 + 256 * c.val) 1) 0x33

/-- A frame put on port p (R461). -/
def putFrame (s : State) (p : Fin 3) (c : Fin 4) : State :=
  if linkUp s p then
    let s1 := s.modRingPort p fun r => { r with tx := satInc r.tx }
    { s1 with ring := { s1.ring with wireOut := s1.ring.wireOut ++ [(BitVec.ofNat 2 p.val, BitVec.ofNat 2 c.val)] } }
  else s

/-- The frames of the last ring command forgotten. -/
def clearWire (s : State) : State := { s with ring := { s.ring with wireOut := [] } }

/-- A frame the node originates: one HSR sequence number, one copy on each ring port (R429). -/
def putOnRing (s : State) (c : Fin 4) : State :=
  let s1 := putFrame (putFrame s 0 c) 1 c
  { s1 with ring := { s1.ring with hsrSeq := s1.ring.hsrSeq + 1 } }

/-! Ports (R426 to R428). -/

/-- A port leaves UP (R427, R460). -/
def linkLost (s : State) (p : Fin 3) (was : LinkSt) : State :=
  if was == .up && !linkUp s p && decide ((linkAt s p).mode ≠ 0) then sysRaise s 0x2A else s

/-- The state of a port from what its lane finds (R427). -/
def linkSt (s : State) (p : Fin 3) (synced negotiated : Bool) : LinkSt :=
  let m := (linkAt s p).mode
  let needs := decide (m = 1 ∨ m = 2) && decide (cfgLinkAutoneg s p.val = 1)
  if m = 0 then .off else if !synced then .down else if needs && !negotiated then .negotiating else .up

/-- The SPEED code of a port: 1 000 or 2 500 Mbit/s by its mode; the PHY's rate in SGMII on link S (R426, R462). -/
def linkSpeed (s : State) (p : Fin 3) (phy : BitVec 2) : BitVec 2 := match (linkAt s p).mode.toNat with
  | 3 => 3
  | 2 => if p.val = 2 then phy else 2
  | _ => 2

/-- PORT_LINK_CHANGE: what the lane, the negotiation and the verify procedure of port p find (R427, R428). -/
def execPortLinkChange (p : Fin 3) (synced negotiated verified : Bool) (speed : BitVec 2) (s : State) :
    Host.Outcome State Fault Refusal :=
  let was := (linkAt s p).st
  let st := linkSt s p synced negotiated
  let on := st == .up
  let s1 := s.modRingPort p fun r => { r with
    st := st
    speed := if on then linkSpeed s p speed else r.speed
    preempt := on && decide (p.val < 2) && verified && decide (cfgLinkPreemption s p.val = 1)
    pausing := on && r.pausing
    changes := if on && !(was == .up) then satInc r.changes else r.changes
    upAt := if on && !(was == .up) then now s else r.upAt }
  doIf (ringUp s) s (linkLost s1 p was)

/-! Frames from the ring (R429 to R431, R434 to R439). -/

/-- A frame for the node written to its receive queue; the first into an empty queue rings the lowest-numbered quad in
SLEEP or RUN; a full queue discards the local copy (R25, R404, R439). -/
def toReceive (s : State) (c : Fin 4) (src : BitVec 48) (bytes : Nat) : State :=
  let k := classAt s c
  if receiveCap c < k.rxBytes + bytes then
    let s1 := discardFrame s c
    match boundNode s src with
    | some n => if decide (c.val = 0 ∨ c.val = 2) && decide (n ≠ nodeNum s) then requestGap s1 n else s1
    | none => s1
  else
    let s1 := s.modClass c fun k => { k with rxBytes := k.rxBytes + bytes }
    if k.rxBytes = 0 then
      match (List.finRange 4).find? fun q => (quadAt s q).st == .sleep || (quadAt s q).st == .run with
      | some q => perfAdd { s1 with gauze := { s1.gauze with wakes := s1.gauze.wakes ||| (1#4 <<< q.val) } } (0x1003 + 256 * q.val) 1
      | none => s1
    else s1

/-- A frame of class c finds its reservation in the frame buffer full, or C3 its egress port's share (R436, R438). -/
def frameFull (c : Fin 4) (f : RingFrame) : Bool := match reservation c with
  | none => false
  | some n => !f.idle && (decide (n < f.occ + f.bytes) || (decide (c.val = 3) && decide (1048576 < f.occPort + f.bytes)))

/-- The bytes of class c in the frame buffer once a frame is in it (R436, R462). -/
def noteOcc (c : Fin 4) (f : RingFrame) (s : State) : State :=
  let occ := if f.idle then f.occ else f.occ + f.bytes
  s.modClass c fun k => { k with occupancy := occ, peak := max k.peak occ }

/-- A frame on its way to ring port o: forwarded, cut through or stored, or discarded where its reservation is full
(R434 to R436, R438). -/
def forward (s : State) (o : Fin 2) (c : Fin 4) (f : RingFrame) : State :=
  if !linkUp s (ringPort o) then s
  else if frameFull c f then discardFrame s c
  else
    let s2 := perfAdd (putFrame (noteOcc c f s) (ringPort o) c) (0x3000 + 256 * c.val) 1
    if f.idle || decide (c.val = 0) then perfAdd s2 (0x3001 + 256 * c.val) 1 else s2

/-- The duplicate table without what is older than 400 ms (R429). -/
def freshDups (s : State) : List HsrDup := s.ring.dups.filter fun d => decide (now s < d.at_ + 400)

/-- The entry of a frame in the duplicate table, if it has one (R429). -/
def dupOf (s : State) (mac : BitVec 48) (seq : BitVec 16) : Option HsrDup :=
  (freshDups s).find? fun d => d.mac == mac && d.seq == seq

/-- The duplicate table with entry d put in place of its frame's. -/
def putDup (s : State) (d : HsrDup) : State :=
  { s with ring := { s.ring with dups := d :: (freshDups s).filter fun e => !(e.mac == d.mac && e.seq == d.seq) } }

/-- An own frame comes back on ring port p and is removed (R429, R431). -/
def ownReturns (s : State) (p : Fin 2) : State :=
  let s1 := s.modRingPort (ringPort p) fun r => { r with own := satInc r.own }
  let ab := if p = 1 then now s else s1.ring.returnedAB
  let ba := if p = 0 then now s else s1.ring.returnedBA
  let both := decide (now s < ab + 6000) && decide (now s < ba + 6000)
  { s1 with ring := { s1.ring with
      returnedAB := ab, returnedBA := ba
      bothSince := if both then some (s1.ring.bothSince.getD (now s)) else none } }

/-- A frame of another source from ring port p: delivered once, passed to link S once, forwarded (R429, R430). -/
def ringFrame (s : State) (p : Fin 2) (c : Fin 4) (f : RingFrame) : State :=
  let old := dupOf s f.src f.hsrSeq
  let e : HsrDup := old.getD { mac := f.src, seq := f.hsrSeq, at_ := now s }
  let o := otherPort p
  let mine := decide (f.dst = nodeMac s ∨ f.dst = groupMac s)
  let sent := if o = 0 then e.sentA else e.sentB
  let on := decide (f.dst ≠ nodeMac s) && !sent
  let s1 := putDup s { e with
    sentA := e.sentA || (on && decide (o = 0)), sentB := e.sentB || (on && decide (o = 1)), delivered := e.delivered || mine }
  let s2 :=
    if !mine then s1
    else if e.delivered then s1.modRingPort (ringPort p) fun r => { r with dups := satInc r.dups }
    else toReceive s1 c f.src f.bytes
  let s3 := if old.isNone && (isMulticast f.dst || inProxy s f.dst) then putFrame s2 2 c else s2
  if on then forward s3 o c f else s3

/-- The bits a ring port received in the present second, by class (R462). -/
def addLoad (s : State) (p : Fin 2) (c : Fin 4) (bytes : Nat) : State :=
  s.modRingPort (ringPort p) fun r =>
    if c.val < 3 then { r with bits012 := r.bits012 + wireBits bytes } else { r with bits3 := r.bits3 + wireBits bytes }

/-- A frame from ring port p (R429, R434, R441). -/
def ringIn (s : State) (p : Fin 2) (f : RingFrame) : State :=
  let c := frameClass false f.kind
  let s1 := s.modRingPort (ringPort p) fun r => { r with rx := satInc r.rx }
  if !f.fcsOk then s1.modRingPort (ringPort p) fun r => { r with fcs := satInc r.fcs }
  else if f.kind == .pause then s1
  else
    let s2 := addLoad s1 p c f.bytes
    if !f.tagged then s2
    else if decide (f.src = nodeMac s) || inProxy s f.src then ownReturns s2 p
    else ringFrame s2 p c f

/-- RING_FRAME_RECEIVE (R429 to R431, R434 to R439, R441). -/
def execRingFrameReceive (p : Fin 2) (f : RingFrame) (s : State) : Host.Outcome State Fault Refusal :=
  doIf (ringUp s && linkUp s (ringPort p)) s (ringIn (clearWire s) p f)

/-! Frames from link S (R430, R436, R441). -/

/-- The proxy table with a source noted: refreshed, learned in the first empty entry, or none where it is a ninth (R430). -/
def learn (s : State) (m : BitVec 48) : Option State :=
  let hit (k : Fin 8) : Bool := match vat s.ring.proxy k with
    | some e => e.mac == m
    | none => false
  let put (k : Fin 8) : State :=
    { s with ring := { s.ring with proxy := vmod s.ring.proxy k fun _ => some { mac := m, at_ := now s } } }
  match (List.finRange 8).find? hit with
  | some k => some (put k)
  | none => ((List.finRange 8).find? fun k => (vat s.ring.proxy k).isNone).map put

/-- A frame of the station tagged and sent on both ring ports; C3 within the grant's bucket and its reservation, else held;
another class discarded where its reservation is full (R430, R436, R441). -/
def stationOut (s : State) (c : Fin 4) (f : RingFrame) : State :=
  if c.val = 3 then
    let s1 := refill s 3
    let k := classAt s1 3
    if s.ring.heldS.isEmpty && decide (wireBits f.bytes ≤ k.bucket) && !frameFull 3 f then
      putOnRing (noteOcc 3 f (s1.modClass 3 fun k => { k with bucket := k.bucket - wireBits f.bytes })) 3
    else { s1 with ring := { s1.ring with heldS := s1.ring.heldS ++ [f.bytes] } }
  else if frameFull c f then discardFrame s c
  else putOnRing (noteOcc c f s) c

/-- A frame from link S (R430, R434, R441). -/
def stationIn (s : State) (f : RingFrame) : State :=
  let s1 := s.modRingPort 2 fun r => { r with rx := satInc r.rx }
  let c := frameClass true f.kind
  if !f.fcsOk then s1.modRingPort 2 fun r => { r with fcs := satInc r.fcs }
  else if f.kind == .pause then s1
  else match learn s1 f.src with
    | none => sysRaise (perfAdd (s1.modClass c fun k => { k with discards := satInc k.discards }) (0x3002 + 256 * c.val) 1) 0x34
    | some s2 =>
      let s3 := if f.dst = nodeMac s ∨ f.dst = groupMac s then toReceive s2 c f.src f.bytes else s2
      if f.dst = nodeMac s then s3 else stationOut s3 c f

/-- STATION_FRAME_RECEIVE (R430, R434, R436, R441). -/
def execStationFrameReceive (f : RingFrame) (s : State) : Host.Outcome State Fault Refusal :=
  doIf (ringUp s && linkUp s 2) s (stationIn (clearWire s) f)

/-- HSR_SUPERVISION_SEND: every 2 000 ms (R429). -/
def execHsrSupervisionSend (s : State) : Host.Outcome State Fault Refusal := doIf (ringUp s) s (putOnRing (clearWire s) 1)

/-- PROXY_ENTRY_EXPIRY: 60 s without a frame from the address (R430). -/
def execProxyEntryExpiry (k : Fin 8) (s : State) : Host.Outcome State Fault Refusal :=
  let due := match vat s.ring.proxy k with
    | some e => decide (e.at_ + 60000 ≤ now s)
    | none => false
  doIf (ringUp s && due) s { s with ring := { s.ring with proxy := vmod s.ring.proxy k fun _ => none } }

/-- RING_OPEN from what has returned (R431). -/
def ringOpenStep (s : State) : State :=
  let lapsed := decide (s.ring.returnedAB + 6000 ≤ now s) || decide (s.ring.returnedBA + 6000 ≤ now s)
  let back := match s.ring.bothSince with
    | some t => decide (t + 6000 ≤ now s)
    | none => false
  if lapsed then
    let s1 := { s with ring := { s.ring with ringOpen := true, bothSince := none } }
    if s.ring.ringOpen then s1 else sysRaise s1 0x2B
  else if s.ring.ringOpen && back then sysClear { s with ring := { s.ring with ringOpen := false } } 0x2B
  else s

/-- RING_OPEN_TIMEOUT (R431). -/
def execRingOpenTimeout (s : State) : Host.Outcome State Fault Refusal := doIf (ringUp s) s (ringOpenStep s)

/-- The bytes of the C3 frames from the station held in the frame buffer (R441). -/
def heldBytes (s : State) : Nat := s.ring.heldS.sum

/-- A PAUSE sent on link S (R441). -/
def sendPause (s : State) (on : Bool) : State :=
  putFrame (s.modRingPort 2 fun r => { r with pausing := on, pauses := satInc r.pauses }) 2 3

/-- PAUSE on link S as the frames held from it ask (R441). -/
def pauseStep (s : State) : State :=
  let was := (linkAt s 2).pausing
  if 262144 < heldBytes s then sendPause s true
  else if was && decide (heldBytes s ≤ 131072) then sendPause s false
  else if was then sendPause s true
  else s

/-- PAUSE_REFRESH: every 100 µs while link S is to be held (R441). -/
def execPauseRefresh (s : State) : Host.Outcome State Fault Refusal :=
  doIf (ringUp s && linkUp s 2) s (pauseStep (clearWire s))

/-! The frame buffer's errors (R440). -/

/-- The frame's entry in the duplicate table passed through f. -/
def modDup (s : State) (mac : BitVec 48) (seq : BitVec 16) (f : HsrDup → HsrDup) : State :=
  { s with ring := { s.ring with dups := s.ring.dups.map fun d => if d.mac == mac && d.seq == seq then f d else d } }

/-- What recovers a damaged copy (R440): the copy from the other way round, or the original sent again with its HSR
sequence number. -/
def recoverFrame (s : State) (c : Fin 4) (what : FrameCopy) (src : BitVec 48) (seq : BitVec 16) : State := match what with
  | .transit => modDup s src seq fun d => { d with sentA := false, sentB := false }
  | .receive => modDup s src seq fun d => { d with delivered := false }
  | .origination =>
    if decide (c.val < 3) && (s.ring.sent.any fun m => decide (m.cls.toNat = c.val)) then putFrame (putFrame s 0 c) 1 c else s

/-- FRAME_BUFFER_ECC_ERROR (R68, R440). -/
def execFrameBufferEccError (cls : Fin 4) (what : FrameCopy) (src : BitVec 48) (seq : BitVec 16) (s : State) :
    Host.Outcome State Fault Refusal :=
  doIf (ringUp s) s (recoverFrame (discardFrame (clearWire s) cls) cls what src seq)

/-! Precision time (R432, R433, R534). -/

/-- The node takes part in precision time (R432). -/
def ptpOn (s : State) : Bool := ringUp s && decide (cfgRingPtpEnable s = 1)

/-- A grandmaster's key in the best master clock comparison, the lower the better (R432). -/
def gmKey (g : GmData) : Nat :=
  ((((g.prio1.toNat * 256 + g.cls.toNat) * 256 + g.accuracy.toNat) * 65536 + g.variance.toNat) * 256 + g.prio2.toNat) * 2 ^ 64 +
    g.gm.toNat

/-- SYNCED ends where PTP has left SLAVE or its clockClass is not acceptable (R534). -/
def ptpQuality (s : State) : State :=
  if s.bkup.quality == .synced && !(s.ring.ptp.st == .slave && classOk s) then setQuality s .held else s

/-- An Announce: the grandmaster in use, or a better one (R432, R433). -/
def takeAnnounce (s : State) (g : GmData) (utc : BitVec 16) (valid : Bool) : State :=
  let p := s.ring.ptp
  let same := match p.best with
    | some b => b.gm == g.gm
    | none => false
  let better := match p.best with
    | some b => decide (gmKey g < gmKey b)
    | none => true
  if decide (g.steps.toNat < 255) && (same || better) then
    let st : PtpState := if same && (p.st == .slave || p.st == .uncalibrated) then p.st else .uncalibrated
    ptpQuality { s with ring := { s.ring with ptp := { p with
      st := st, gmClass := g.cls, gm := g.gm, best := some g, utcOffset := utc, utcValid := valid
      announceAt := now s, noMasterAt := none } } }
  else s

/-- A Sync of the grandmaster in use (R432, R433, R460). -/
def takeSync (s : State) (seconds : Nat) (offset : Word) : State :=
  let p := s.ring.ptp
  if p.best.isSome && (p.st == .slave || p.st == .uncalibrated) then
    sysClear { s with ring := { s.ring with ptp := { p with st := .slave, seconds := seconds, offset := offset } } } 0x31
  else s

/-- PTP_MESSAGE_RECEIVE (R432, R433). -/
def execPtpMessageReceive (p : Fin 3) (m : PtpMsg) (s : State) : Host.Outcome State Fault Refusal :=
  let eff := match m with
    | .announce g utc valid => takeAnnounce s g utc valid
    | .sync seconds offset => takeSync s seconds offset
  doIf (ptpOn s && linkUp s p) s eff

/-- PTP_PEER_DELAY_MEASURE: every 1 000 ms on each ring port (R433). -/
def execPtpPeerDelayMeasure (p : Fin 2) (ns : Word) (s : State) : Host.Outcome State Fault Refusal :=
  doIf (ptpOn s && linkUp s (ringPort p)) s (s.modRingPort (ringPort p) fun r => { r with pathDelay := ns })

/-- No Announce for three intervals: NO_MASTER, and PTP_NO_MASTER once it has stood 10 s (R433). -/
def noAnnounce (s : State) : State :=
  let p := s.ring.ptp
  match p.st, p.noMasterAt with
  | .noMaster, some t => if t + 10000 ≤ now s && !sysActive s 0x31 then sysRaise s 0x31 else s
  | _, _ => ptpQuality { s with ring := { s.ring with ptp := { p with
      st := .noMaster, gmClass := 0xFF, gm := 0, best := none, noMasterAt := some (now s) } } }

/-- A grandmaster's announce interval in milliseconds (R433). -/
def announceMs (g : GmData) : Nat :=
  let k := g.logInterval.toInt
  if 0 ≤ k then 1000 * 2 ^ k.toNat else 1000 / 2 ^ (-k).toNat

/-- Three announce intervals of the master in use have gone by without an Announce from it; without a master nothing is
waited for (R433; log entry 114). -/
def announceLapsed (s : State) : Bool := match s.ring.ptp.best with
  | some g => decide (s.ring.ptp.announceAt + 3 * announceMs g ≤ now s)
  | none => true

/-- PTP_ANNOUNCE_TIMEOUT (R433). -/
def execPtpAnnounceTimeout (s : State) : Host.Outcome State Fault Refusal :=
  doIf (ptpOn s && announceLapsed s) s (noAnnounce s)

end Sys2Proof.Machine
end

