-- ==== Sys2Proof/Machine/Objects.lean ====
section
/-! DEFINITION. What the objects of the node, quads, points, groups, calling, field and vibration domains read
(R7, R8, R43 to R48, R99 to R102, R204 to R209, R228, R229, R250 to R253, R280 to R282, R310, R311, R346 to R349, R377,
R378, R422, R423). Each reader takes an offset in its own range and reads 0 where its chapter lists nothing. -/

namespace Sys2Proof.Machine
open Sys2Proof

/-- Half i of a pair: the value at an even address, the complement at the odd one (R12). -/
def half (p : Pair) (i : Nat) : Word := if i % 2 = 0 then p.v else p.c

/-- A Nat index as a Fin, where it is one. -/
def fin? (n i : Nat) : Option (Fin n) := if h : i < n then some ⟨i, h⟩ else none

/-- n stopped at 0xFF. -/
def cap8 (n : Nat) : Nat := min n 0xFF

/-- n stopped at 0xFFFF. -/
def capWord (n : Nat) : Nat := min n 0xFFFF

/-! The node domain (R43 to R48, R99 to R102). -/

/-- NODE_ID (R100). -/
def nodeIdWord (s : State) : Word :=
  at' 24 (if s.sys.variantB then 0x42 else 0x41) ||| at' 16 s.sys.stepping.toNat ||| w32 (nodeNum s)

/-- The code of START_PHASE (R101). -/
def Phase.code : Phase → Nat
  | .nor => 1
  | .firmware => 2
  | .sections => 3
  | .part => 4
  | .complete => 5
  | .completeLate => 6

/-- NODE_STATUS (R101). -/
def nodeStatusWord (s : State) : Word :=
  flag 7 s.field.running ||| flag 6 s.sys.suspectAny ||| flag 5 s.cfg.slot ||| flag 4 s.sys.deadlinePassed |||
    w32 s.sys.phase.code

/-- READY_SUMMARY (R102). -/
def readySummary (s : State) : Word :=
  w32 (maskOf 11 fun i =>
    let ks := (fnConfigured s).filter fun k => decide (k / 256 = i + 1)
    !ks.isEmpty && ks.all fun k => (fnAt s k).ready)

/-- The code of a quad's STATE (R44). -/
def QuadState.code : QuadState → Nat
  | .off => 0
  | .reset => 1
  | .sleep => 2
  | .run => 3
  | .drain => 4
  | .update => 5
  | .failed => 6

/-- ENGINE_BUSY of quad n: bit k where engine E(4n+k) runs a task (R44). -/
def busyMask (s : State) (n : Fin 4) : Nat := maskOf 4 fun k => (quadAt s n).running.any fun t => match (tget s.canvas.tasks t).bind Task.primary with
  | some e => decide (e.val = 4 * n.val + k)
  | none => false

/-- QUAD_STATUS (R44): requests to a quad in OFF, RESET, UPDATE or FAILED complete as ABSENT. -/
def quadStatusWord (s : State) (n : Fin 4) : Word :=
  let q := quadAt s n
  at' 16 q.epoch.toNat ||| at' 8 q.st.code ||| at' 4 (busyMask s n) ||| flag 1 q.pllLock ||| flag 0 q.st.gone

/-- ENGINE_CLOCK (R45). -/
def engineClockWord (s : State) : Word :=
  (List.finRange 16).foldl (fun w e => w ||| at' (2 * e.val) (engineAt s e).step.toNat) 0

/-- POWER_LEVEL (R46). -/
def powerLevelWord (s : State) : Word :=
  flag 11 s.power.capExceeded ||| at' 8 s.power.eff.toNat ||| s.power.station.setWidth 32

/-- GAUZE_SLOT entry k: the copy that checks, the first where both do (R28, R72). -/
def gauzeSlotWord (s : State) (k : Fin 256) : Word :=
  let a := vat s.gauze.slotsA k
  let e := if a.parityBad then vat s.gauze.slotsB k else a
  at' 28 e.mask.toNat ||| at' 26 e.cls.toNat ||| e.offset.setWidth 32

/-- The node domain from 0x0000_0000 (R43, R99). -/
def readNode (s : State) (a : Nat) : Word :=
  if a = 0 then nodeIdWord s
  else if a = 1 then nodeStatusWord s
  else if a = 2 then s.sys.msSince
  else if a = 3 then readySummary s
  else if a = 4 then s.sys.cause.setWidth 32
  else if a = 5 then s.sys.notStarted
  else if a = 8 then
    at' 16 (maskOf 4 fun n => chanReady s (16 + n)) ||| w32 (maskOf 16 fun n => chanReady s n)
  else if a = 9 then
    at' 16 (maskOf 8 fun n => chanReady s (36 + n)) ||| w32 (maskOf 16 fun n => chanReady s (20 + n))
  else if 0x10 ≤ a ∧ a ≤ 0x17 then w32 (maskOf 32 fun b => fnReady s 0x05 (32 * (a - 0x10) + b))
  else if 0x41 ≤ a ∧ a ≤ 0x4B then (fnAt s (fnKey (a - 0x40) 0)).readyAt
  else if a = 0x104 then engineClockWord s
  else if a = 0x105 then powerLevelWord s
  else if a = 0x106 then s.fabric.absentCount
  else if a = 0x107 then s.fabric.staleCount
  else match fin? 4 (a - 0x100), fin? 256 (a - 0x200), fin? 16 ((a - 0x300) / 4) with
    | some q, _, _ => if 0x100 ≤ a then quadStatusWord s q else 0
    | none, some k, _ => if 0x200 ≤ a then gauzeSlotWord s k else 0
    | none, none, some n =>
      if a < 0x300 then 0 else if a % 4 < 2 then half (vat s.gauze.low n) a else half (vat s.gauze.high n) a
    | _, _, _ => 0

/-! The quads and engines domain (R422, R423). -/

/-- ENGINE_STATUS (R423). -/
def engineStatusWord (s : State) (e : Fin 16) : Word :=
  at' 28 (roleOf s e) ||| at' 26 (engineAt s e).step.toNat ||| flag 25 (engPl s e).worn ||| flag 24 (engPl s e).taken |||
    at' 16 (cap8 (recentFaults s (engineAt s e).faultTimes).length) ||| at' 8 (cap8 (primCount s e)) ||| w32 (cap8 (standCount s e))

/-- QUAD_INFO (R423). -/
def quadInfoWord (s : State) (q : Fin 4) : Word :=
  let p := vat s.canvas.quad q
  let spare := ((quadEngines q).find? fun e => (engPl s e).spare).map Fin.val
  at' 24 (cap8 (recentFaults s p.charges).length) ||| at' 16 p.revision.toNat ||| at' 12 (spare.getD 0xF) ||| flag 0 p.updated

/-- The quads and engines domain from 0x1000_0000; an engine's objects read their reset values until PLACEMENT is READY
(R86, R422). -/
def readQuads (s : State) (a : Nat) : Word :=
  let placed := fnReady s 0x0A 0
  if a < 0x100 then match fin? 16 (a / 16) with
    | some e =>
      if a % 16 = 0 then (if placed then engineStatusWord s e else at' 28 4)
      else if !placed then 0
      else if a % 16 = 1 then hiLo (engPl s e).failPm.toNat (engPl s e).loadPm.toNat
      else if a % 16 = 2 then (engPl s e).wearPpm
      else if a % 16 = 4 then (engPl s e).faults else 0
    | none => 0
  else if a < 0x1000 then 0
  else match fin? 4 ((a - 0x1000) / 16) with
    | some q => if a % 16 = 0 then quadInfoWord s q else if a % 16 = 1 then (vat s.canvas.quad q).fwVersion else 0
    | none => 0

/-! Points (R310, R311, R346, R347). -/

/-- POINT_INFO of a point this node evaluates (R311). -/
def localInfo (s : State) (p : Nat) (l : LocalPt) : Word :=
  let src := (cfgPtSource s p).toNat
  let idx := match src with
    | 0 => (cfgPtChannel s p).toNat % 1024
    | 2 => ((listOf s p).getD 0x3FF) % 65536 % 1024
    | _ => 0x3FF
  at' 30 ((cfgPtType s p).toNat % 4) ||| at' 28 (ptClass s p).toNat ||| at' 26 (src % 4) ||| at' 24 (if l.byDuty then 3 else 1) |||
    at' 16 (groupOf s p % 256) ||| at' 10 ((ownerOf s p).getD 0 % 64) ||| w32 idx

/-- POINT_INFO of a peer's point, as far as the replica and the heartbeats give it (R311). -/
def replicaInfo (s : State) (p : Nat) (r : RepPt) : Word :=
  at' 24 2 ||| at' 16 r.group.toNat ||| at' 10 ((ownerOf s p).getD r.holder.toNat % 64)

/-- The words of a publication at offsets 0x010 to 0x019 (R310). -/
def pubWord (u : Pub) (q : Pair) (o : Nat) : Word :=
  match o with
  | 0x10 => u.value.v
  | 0x11 => u.value.c
  | 0x12 => q.v
  | 0x13 => q.c
  | 0x14 => at' 8 u.cycle.toNat
  | 0x15 => w32 (u.opMs.toNat / 2 ^ 32)
  | 0x16 => w32 u.opMs.toNat
  | 0x17 => u.wall.extractLsb' 32 32
  | 0x18 => u.wall.extractLsb' 0 32
  | 0x19 => u.wallQ.setWidth 32
  | _ => 0

/-- DAMASK_LINK of candidate k (R347). -/
def damaskLinkWord (s : State) (p : Nat) (l : LocalPt) (k : Nat) : Word := match l.alarm.roots[k]? with
  | none => 0xFFFF0000
  | some r =>
    at' 16 r.root.toNat ||| at' 9 r.obs ||| at' 2 r.hits ||| flag 1 r.qualified |||
      flag 0 ((cfgLimFoldUnder s p).any fun w => decide (bits w 15 0 = r.root.toNat))

/-- The alarm objects of a point this node evaluates, offsets 0x020 to 0x0FF (R346, R347). -/
def localAlarmWord (s : State) (p : Nat) (l : LocalPt) (o : Nat) : Word :=
  let a := l.alarm
  let t := (recMs s).toNat
  if o = 0x20 then a.stateWord.v
  else if o = 0x21 then a.stateWord.c
  else if o = 0x22 then
    at' 16 a.seq.toNat ||| flag 15 a.adaptValid ||| flag 14 a.devBlocked ||| flag 13 (a.own.holding t || a.grp.holding t)
  else if o = 0x24 then a.effOn
  else if o = 0x25 then a.period
  else if o = 0x26 then (if a.shelved then w32 ((a.shelveEnd - t) / 1000) else 0)
  else if o = 0x27 then a.foldRoot
  else if 0x30 ≤ o ∧ o < 0x3E then half (limitInUse s p ((o - 0x30) / 2)) o
  else if 0x40 ≤ o ∧ o < 0x50 then damaskLinkWord s p l (o - 0x40)
  else 0

/-- The points domain from 0x2000_0000: point a / 0x1000 at offset a mod 0x1000 (R310, R346). -/
def readPoint (s : State) (a : Nat) : Word :=
  let p := a / 0x1000
  let o := a % 0x1000
  match tget s.points p, tget s.canvas.replica p with
  | some l, _ =>
    if o = 0 then localInfo s p l
    else if o = 1 then l.evalCount
    else if 0x10 ≤ o ∧ o < 0x1A then pubWord l.pub l.pub.quality o
    else if o = 0x1A ∨ o = 0x1B then half (setpointOf s p l) o
    else localAlarmWord s p l o
  | none, some r =>
    if o = 0 then replicaInfo s p r
    else if o = 1 then r.evals
    else if 0x10 ≤ o ∧ o < 0x1A then pubWord r.pub (repQuality r) o
    else if o = 0x20 ∨ o = 0x21 then half r.pub.alarm o
    else if o = 0x22 then at' 16 r.seq.toNat
    else 0
  | none, none =>
    if (ownerOf s p).any (fun n => decide (n ≠ nodeNum s)) ∧ (o = 0x12 ∨ o = 0x13) then half (Pair.mk0 2) o else 0

/-! Groups, SYSTEM objects and calling (R348, R349, R377, R378). -/

/-- A state is active: ACT_UNACK or ACT_ACK; or unacknowledged: ACT_UNACK or RTN_UNACK (R323). -/
def stActive (st : Nat) : Bool := decide (st = 1 ∨ st = 2)

/-- ACT_UNACK or RTN_UNACK (R323). -/
def stUnack (st : Nat) : Bool := decide (st = 1 ∨ st = 3)

/-- The highest priority of the conditions given, 0xF for none. -/
def topPrio (l : List CondView) : Nat := if l.isEmpty then 0xF else l.foldl (fun m c => max m c.prio) 0

/-- GROUP_STATUS (R349). -/
def groupStatusWord (s : State) (g : Nat) : Word :=
  let cs := groupConds s g
  let here := (s.points.filter fun e => decide (groupOf s e.1 = g)).flatMap fun e => localConds s e.1 e.2
  at' 28 (topPrio (cs.filter fun c => stActive c.st)) ||| at' 24 (topPrio (cs.filter fun c => stUnack c.st)) |||
    at' 16 (cap8 (countIf here CondView.folded)) ||| flag 2 (groupQuiet s g) ||| flag 1 (groupAt s g).supp.hides |||
    flag 0 (groupAt s g).first.isSome

/-- The objects of group g at offset o (R348, R349, R377). -/
def readGroup (s : State) (g o : Nat) : Word :=
  let r := groupAt s g
  if callShut s && decide (o = 0x40 ∨ o = 0x41) then 0
  else if o = 0x40 then
    at' 8 ((cfgGrpBridge s g).toNat % 2) ||| at' 4 ((cfgGrpCallMinPriority s g).toNat % 4) ||| w32 ((cfgGrpCallEnable s g).toNat % 2)
  else if o = 0x41 then w32 (capWord (countIf (groupConds s g) (callable s)))
  else if groupShut s g then
    match o with
    | 1 => 0xFF000004
    | 2 => 0xFFFFFFFF
    | 4 => 0xFF
    | _ => 0
  else match o with
    | 0 => hiLo (capWord (countIf (groupConds s g) fun c => stActive c.st)) (capWord (countIf (groupConds s g) fun c => stUnack c.st))
    | 1 => groupStatusWord s g
    | 2 => ((r.first.map Prod.fst).getD (Pair.mk0 0xFFFFFFFF)).v
    | 3 => ((r.first.map Prod.fst).getD (Pair.mk0 0xFFFFFFFF)).c
    | 4 => ((r.first.map Prod.snd).getD 0xFF).setWidth 32
    | 6 => (match r.supp.relEnd with
      | some t => w32 (t - (recMs s).toNat)
      | none => 0)
    | 7 =>
      at' 30 ((cfgGrpDamaskMode s g).toNat % 4) |||
        w32 (capWord (((s.points.filter fun e => decide (groupOf s e.1 = g)).map fun e =>
          countIf e.2.alarm.roots RootLink.qualified).sum))
    | _ => 0

/-- SYS_STATE of condition k of node m (R349). -/
def sysStatePair (s : State) (m : Nat) (k : Fin 64) : Pair :=
  if m = nodeNum s then Pair.mk0 (sysWord (vat s.alarms.sysc k)) else tgetD s.alarms.peerSys (m * 64 + k.val) (Pair.mk0 0)

/-- Word w of the newest CALL STATE, or its reset word (R377). -/
def callWord (ws : List Word) (w : Nat) : Word :=
  ws.getD w (if 13 ≤ w ∧ w ≤ 15 then 0xFFFFFFFF else if 1 ≤ w ∧ w ≤ 12 ∧ w % 2 = 0 then 0xFFFFFFFF else 0)

/-- ENGINEER_STATUS of engineer k (R378). -/
def engineerWord (s : State) (k : Nat) : Word :=
  if cfgHas s 11 k then
    at' 24 ((cfgEngRotaOrder s k).toNat % 256) ||| flag 3 (engCalled s k) ||| flag 2 (engBit s.call.accepted k) |||
      flag 1 (onRota s.call k) ||| flag 0 (decide (s.call.duty.toNat = k))
  else 0

/-- PANEL_STATUS of panel p on controller c (R378). -/
def panelStatusWord (s : State) (c p : Nat) : Word :=
  let k := panelKey c p
  let x := panelAt s k
  let age := match x.heardAt with
    | some t => cap8 ((now s - t) / 1000)
    | none => 0xFF
  let recent := match x.heardAt with
    | some t => decide (now s < t + (cfgPanHeartbeatTimeout s c p).toNat)
    | none => false
  if cfgHas s 13 k then
    at' 28 ((cfgPanKind s c p).toNat % 16) ||| at' 24 x.pattern.toNat ||| at' 16 ((cfgPanEngineer s c p).toNat % 256) |||
      at' 8 age ||| flag 4 x.fault ||| flag 3 x.silenced ||| flag 2 x.mismatch ||| flag 1 x.lost ||| flag 0 recent
  else at' 28 0xF ||| at' 16 0xFF ||| at' 8 0xFF

/-- The objects from 0x3100_0000 before CALLING is READY: their reset values (R86, R377, R378). -/
def readCallShut (s : State) (a : Nat) : Word :=
  if 0x1000001 ≤ a ∧ a ≤ 0x1000011 then callWord [] (a - 0x1000001)
  else if 0x1001000 ≤ a ∧ a < 0x1001080 ∧ (a - 0x1001000) % 0x40 < 48 then
    if cfgHas s 13 (panelKey ((a - 0x1001000) / 0x40) ((a - 0x1001000) % 0x40)) then 0xFF00 else 0xF0FFFF00
  else 0

/-- The alarms and calling domain from 0x3000_0000 (R348, R377). -/
def readAlarms (s : State) (a : Nat) : Word :=
  if a < 0x10000 then readGroup s (a / 0x100) (a % 0x100)
  else if 0x20000 ≤ a ∧ a < 0x22000 then match fin? 64 ((a - 0x20000) % 0x80 / 2) with
    | some k => half (sysStatePair s ((a - 0x20000) / 0x80) k) a
    | none => 0
  else if callShut s then readCallShut s a
  else if 0x1000001 ≤ a ∧ a ≤ 0x1000011 then callWord s.call.words (a - 0x1000001)
  else if a = 0x1000021 then flag 2 s.call.refused ||| flag 1 (anySegDuty s) ||| flag 0 s.call.holds
  else if 0x1000100 ≤ a ∧ a < 0x1000110 then engineerWord s (a - 0x1000100)
  else if 0x1001000 ≤ a ∧ a < 0x1001080 ∧ (a - 0x1001000) % 0x40 < 48 then
    panelStatusWord s ((a - 0x1001000) / 0x40) ((a - 0x1001000) % 0x40)
  else if 0x1002000 ≤ a ∧ a < 0x1002004 then match fin? 2 ((a - 0x1002000) / 2) with
    | some c =>
      let m := vat s.panels.unknown c
      if a % 2 = 0 then m.extractLsb' 0 32 else (m.extractLsb' 32 16).setWidth 32
    | none => 0
  else 0

/-! Process inputs and loop outputs (R204 to R209, R250 to R253). -/

/-- The code of HART STATE (R208). -/
def HartState.code : HartState → Nat
  | .off => 0
  | .identifying => 1
  | .polling => 2
  | .suspended => 3

/-- HART STATE of channel c is POLLING (R207, R253). -/
def hartActive (s : State) (c : Fin 20) : Bool := hartState s c == .polling

/-- The HART objects of channel c at offsets 0x14 to 0x17: but for STATE and POLL_ADDRESS they read as their reset values while
STATE is not POLLING (R200, R204, R208; log entry 102). -/
def hartWord (s : State) (c : Fin 20) (o : Nat) : Word :=
  let h := if hartActive s c then hartAt s c else {}
  match o with
  | 0x14 =>
    at' 24 h.devStatus.toNat ||| at' 16 h.respCode.toNat ||| flag 6 h.unitsMis ||| flag 5 h.loopMis ||| flag 4 h.idMis |||
      flag 3 h.otherMaster ||| flag 2 h.commFail ||| w32 (hartState s c).code
  | 0x15 => at' 16 h.devType.toNat
  | 0x16 => at' 8 h.devId.toNat ||| w32 ((cfgHartPollAddress s c.val).toNat % 64)
  | 0x17 => hiLo h.transactions.toNat h.failures.toNat
  | _ => 0

/-- CHANNEL_STATUS (R207). -/
def channelStatusWord (s : State) (n : Fin 16) : Word :=
  let u := uaiAt s n
  at' 28 ((cfgUaiMode s n.val).toNat % 16) ||| at' 24 ((cfgUaiRange s n.val).toNat % 16) |||
    at' 20 ((cfgUaiWiring s n.val).toNat % 16) ||| at' 16 ((cfgUaiRate s n.val).toNat % 16) |||
    at' 8 ((cfgUaiSensorType s n.val).toNat % 256) ||| at' 6 u.trimResult.toNat ||| flag 5 u.trimBusy.isSome |||
    flag 4 (tableFallback s n.val) ||| flag 3 (hartActive s ⟨n.val, by omega⟩) ||| flag 2 (entSuspect s 5 n.val)

/-- The objects of UAIn once its CHANNEL is READY (R204, R205). -/
def uaiWord (s : State) (n : Fin 16) (o : Nat) : Word :=
  let u := uaiAt s n
  if o < 2 then half u.sample o
  else if o < 4 then half u.diag o
  else if o < 6 then half u.inputValue o
  else if o = 6 then channelStatusWord s n
  else if o = 7 then energyStatus (portAt s (uaiPort n))
  else if o = 0xA ∨ o = 0xB then half u.trimRef o
  else if o = 0xC ∨ o = 0xD then half (zeroTrim s n.val) o
  else if o = 0xE ∨ o = 0xF then half (spanTrim s n.val) o
  else if o = 0x10 ∨ o = 0x11 then half u.cjc o
  else if o = 0x12 then u.leadOhms
  else if o = 0x13 then u.headroom
  else hartWord s ⟨n.val, by omega⟩ o

/-- The objects of UAIn before its CHANNEL is READY (R86, R205; log entry 112). -/
def uaiReset (o : Nat) : Word :=
  if o < 2 then half (Pair.mk0 0) o
  else if o < 4 then half (Pair.mk0 0x00010000) o
  else if o < 6 ∨ o = 0xA ∨ o = 0xB ∨ o = 0x10 ∨ o = 0x11 then half nanPair o
  else 0

/-- The code of DRIVE of a loop output (R253). -/
def AoDrive.code : AoDrive → Nat
  | .off => 0
  | .foldback => 1
  | .noSetting => 2
  | .safen => 3
  | .feltTimeout => 4
  | .notReady => 5
  | .manual => 6
  | .value => 7
  | .hold => 8
  | .failLow => 9
  | .failHigh => 0xA
  | .failSafe => 0xB

/-- OUTPUT_STATUS of AOn (R253). -/
def aoStatusWord (s : State) (n : Fin 4) : Word :=
  let a := aoAt s n
  at' 28 ((cfgAoRole s n.val).toNat % 16) ||| at' 24 (aoRank s n).1.code ||| at' 16 a.integrityRun.toNat |||
    flag 3 (hartActive s ⟨16 + n.val, by omega⟩) ||| flag 2 (entSuspect s 5 (16 + n.val)) ||| flag 1 a.manual

/-- The objects of AOn once its CHANNEL is READY (R250, R251). -/
def aoWord (s : State) (n : Fin 4) (o : Nat) : Word :=
  let a := aoAt s n
  if o < 2 then half a.command o
  else if o < 4 then half a.readback o
  else if o < 6 then half a.diag o
  else if o = 6 then aoStatusWord s n
  else if o = 7 then energyStatus (portAt s (aoPort n))
  else if o = 0xA ∨ o = 0xB then half a.manualMa o
  else if o = 0xC then a.termV
  else if o = 0xD then a.headroom
  else hartWord s ⟨16 + n.val, by omega⟩ o

/-- The objects of AOn before its CHANNEL is READY (R86, R251, R253; log entry 112). -/
def aoReset (o : Nat) : Word :=
  if o < 6 then half (Pair.mk0 0) o else if o = 0xA ∨ o = 0xB then half nanPair o else 0

/-- MODEM_STATUS of modem k (R209). -/
def modemWord (s : State) (k : Fin 4) : Word :=
  let m := vat s.modems k
  let act := match m.active with
    | some c => c.val
    | none => 0x1F
  flag 13 m.fail ||| at' 8 act |||
    w32 (countIf (List.finRange 20) fun c => hartUsed s c && decide (modemOf s c = some k))

/-- REF_STATUS (R209). -/
def refStatusWord (s : State) : Word :=
  let p := s.spare
  let idx (c : Option (Fin 16)) : Nat := match c with
    | some c => c.val
    | none => 0x1F
  at' 16 (idx p.spared) ||| at' 8 (if p.fail then 0x1E else idx p.at_) ||| flag 2 p.fail ||| flag 1 p.refFail ||| flag 0 p.refDrift

/-! Discrete inputs and outputs (R280 to R282). -/

/-- The objects of DIn (R280, R281). -/
def diWord (s : State) (n : Fin 16) (o : Nat) : Word :=
  let d := diAt s n
  if chanReady s (20 + n.val) then
    match o with
    | 0 => d.state.v
    | 1 => d.state.c
    | 2 => d.total.v
    | 3 => d.total.c
    | 4 => d.status
    | 8 => d.lastEdge.extractLsb' 32 32
    | 9 => d.lastEdge.extractLsb' 0 32
    | 0xA => d.current
    | _ => 0
  else if o < 4 then half (Pair.mk0 0) o
  else if o = 4 then 2 else 0

/-- OUTPUT_STATUS of DOn (R282). -/
def doStatusWord (s : State) (n : Fin 8) : Word :=
  let d := doAt s n
  at' 28 ((cfgDoRole s n.val).toNat % 16) ||| at' 24 (doRank s n).1 ||| at' 16 d.integrityRun.toNat |||
    flag 2 (entSuspect s 5 (36 + n.val)) ||| flag 1 d.manual

/-- The objects of DOn (R280, R282). -/
def doWord (s : State) (n : Fin 8) (o : Nat) : Word :=
  let d := doAt s n
  if chanReady s (36 + n.val) then
    match o with
    | 0 => d.command.v
    | 1 => d.command.c
    | 2 => d.diag.v
    | 3 => d.diag.c
    | 4 => doStatusWord s n
    | 6 => d.manualPat.v
    | 7 => d.manualPat.c
    | 8 => d.current
    | 9 => d.termV
    | _ => 0
  else if o < 4 then half (Pair.mk0 0) o
  else if o = 6 then 0xFFFFFFFF else 0

/-- DO_GROUP (R282). -/
def doGroupWord (s : State) : Word :=
  flag 18 s.disc.safenPin ||| flag 17 s.disc.safen ||| flag 16 s.disc.slowed ||| s.disc.groupMa.setWidth 32

/-- The field domain from 0x4000_0000 (R204, R250, R280). -/
def readField (s : State) (a : Nat) : Word :=
  let o := a % 0x100
  if a < 0x1000 then match fin? 16 (a / 0x100) with
    | some n => if chanReady s n.val then uaiWord s n o else uaiReset o
    | none => 0
  else if a < 0x1004 then match fin? 4 (a - 0x1000) with
    | some k => if linkReady s then modemWord s k else at' 8 0x1F
    | none => 0
  else if a = 0x1100 then (if linkReady s then refStatusWord s else at' 16 0x1F ||| at' 8 0x1F)
  else if a = 0x1101 then (if linkReady s then s.spare.refDeviation else 0)
  else if a = 0x1102 then (if linkReady s then s.spare.refSlope else 0)
  else if a < 0x2000 then 0
  else if a < 0x2400 then match fin? 4 ((a - 0x2000) / 0x100) with
    | some n => if chanReady s (16 + n.val) then aoWord s n o else aoReset o
    | none => 0
  else if a < 0x3000 then 0
  else if a < 0x4000 then match fin? 16 ((a - 0x3000) / 0x100) with
    | some n => diWord s n o
    | none => 0
  else if a = 0x4800 then (if linkReady s then doGroupWord s else 0)
  else match fin? 8 ((a - 0x4000) / 0x100) with
    | some n => doWord s n o
    | none => 0

/-! Vibration (R228, R229). -/

/-- VIB_STATUS (R229). -/
def vibStatusWord (s : State) (n : Fin 16) : Word :=
  let v := vibAt s n
  let role := if waveCh s n.val then 1 else if edgeCh s n.val then 2 else 0
  at' 30 role ||| (if role = 1 then at' 28 ((cfgCapCaptureRate s n.val).toNat % 4) else 0) ||| flag 27 (streamRuns s n) |||
    flag 26 (streamWanted s n && !streamRuns s n) ||| flag 25 v.windowOpen ||| w32 (countIf v.feats fun f => f.2.st == .running)

/-- The code of a feature's STATE (R229). -/
def FeatSt.code : FeatSt → Nat
  | .notConfigured => 0
  | .running => 1
  | .heldShed => 2
  | .heldUnplaced => 3
  | .heldNoSpeed => 4
  | .heldStale => 5

/-- FEATURE_STATUS of feature k (R229). -/
def featStatusWord (s : State) (n : Fin 16) (k : Nat) : Word :=
  let f := featAt s n k
  let e := ((s.canvas.tasks.find? fun t => t.2.kind == .feature && decide (t.2.subject.toNat = 64 * n.val + (k - 1))).bind
    fun t => t.2.engine).map Fin.val
  at' 28 f.st.code ||| at' 16 (e.getD 0xFF) ||| f.pubs.setWidth 32

/-- The vibration domain from 0xC000_0000 (R228). -/
def readVib (s : State) (a : Nat) : Word :=
  let o := a % 0x100
  if a = 0x1000 then (if vibReady s then hiLo s.vib.grantKbps.toNat (min (vibNeed s) 65535) else 0)
  else if a = 0x1001 then (if vibReady s then s.vib.missing else 0)
  else if a = 0x1002 then (if vibReady s then hiLo s.vib.merged.toNat s.vib.refused.toNat else 0)
  else match fin? 16 (a / 0x100) with
    | none => 0
    | some n =>
      let v := vibAt s n
      if !vibReady s then
        (if 0x10 ≤ o ∧ o < 0x90 then half nanPair o else if 0x90 ≤ o ∧ o < 0xD0 then at' 16 0xFF else 0)
      else if o = 0 then vibStatusWord s n
      else if o = 2 then v.writeIndex.extractLsb' 32 32
      else if o = 3 then v.writeIndex.extractLsb' 0 32
      else if o = 4 then v.lastCapture
      else if o = 5 then hiLo v.made.toNat v.truncs.toNat
      else if o = 7 then flag 0 (streamRuns s n)
      else if o = 8 then w32 (min 15 v.pending.length)
      else if 0x10 ≤ o ∧ o < 0x90 then half (featAt s n ((o - 0x10) / 2 + 1)).value o
      else if 0x90 ≤ o ∧ o < 0xD0 then featStatusWord s n (o - 0x90 + 1)
      else 0

end Sys2Proof.Machine
end

