-- ==== Sys2Proof/Machine/Perf.lean ====
section
/-! DEFINITION. The meanings of the performance counter unit's commands (R549 to R563). -/

namespace Sys2Proof.Machine
open Sys2Proof

/-- SAMPLER_WRAP: counter k reaches its wrap by events that no command of the node raises (R549 to R554). -/
def execSamplerWrap (k : Fin 16) (extra : Word) (src : SampleSrc) (s : State) : Host.Outcome State Fault Refusal :=
  let ev := (samplerAt s k).event.toNat
  doIf (up s && samplerRuns s k) s
    (match chainHigh s k with
     | some h =>
       if (samplerAt s h).count = 0xFFFFFFFF then samplerWrapAt s h ev extra src
       else (s.modSampler h fun c => { c with count := c.count + 1 }).modSampler k fun c => { c with count := extra }
     | none =>
       if isChainHigh s k then
         samplerWrapAt s k (samplerAt s ⟨(k.val + 1) % 16, by omega⟩).event.toNat extra src
       else samplerWrapAt s k ev extra src)

/-- SAMPLER_SELECT of counter k written (R549, R563). -/
def writeSelect (s : State) (k : Fin 16) (w : Word) : State :=
  s.modSampler k fun c => { c with enable := bit w 31, chain := bit w 30, sample := bit w 29, event := w.extractLsb' 0 16 }

/-- SAMPLER_SELECT_WRITE (R549, R563). -/
def execSamplerSelectWrite (r : Req) (k : Fin 16) (w : Word) (s : State) : Host.Outcome State Fault Refusal :=
  doIf (may s r 2) s (writeSelect s k w)

/-- COUNT of counter k written with the words of one message from its address upwards (R560). -/
def writeCount (s : State) (k : Fin 16) (ws : List Word) : State :=
  if isChainHigh s k then
    match ws with
    | hi :: lo :: _ =>
      let l : Fin 16 := ⟨(k.val + 1) % 16, by omega⟩
      (s.modSampler k fun c => { c with count := hi, wrapped := false }).modSampler l fun c =>
        { c with count := lo, wrapped := false }
    | _ => s
  else if (chainHigh s k).isSome then s
  else match ws with
    | v :: _ => s.modSampler k fun c => { c with count := v, wrapped := false }
    | [] => s

/-- COUNT_WRITE (R560). -/
def execCountWrite (r : Req) (k : Fin 16) (ws : List Word) (s : State) : Host.Outcome State Fault Refusal :=
  doIf (may s r 2) s (writeCount s k ws)

/-- Every WRAPPED of both kinds cleared (R547, R551, R563). -/
def clearWrapsAll (s : State) : State :=
  { s with perf := { s.perf with
      ctrs := tmap s.perf.ctrs fun _ c => { c with wrapped := false }
      samplers := s.perf.samplers.map fun c => { c with wrapped := false } } }

/-- CLEAR_WRAPS (R563). -/
def execClearWraps (r : Req) (s : State) : Host.Outcome State Fault Refusal := doIf (may s r 2) s (clearWrapsAll s)

/-- A multiple of DUMP_PERIOD_S of OP_MS has been reached since the last one that fell due, with the section in effect; none
falls due with DUMP_PERIOD_S 0 (R555, R561). -/
def dumpDue (s : State) : Bool :=
  let p := (cfgCtrDumpPeriodS s).toNat * 1000
  fnReady s 0xA 0 && s.bkup.timeKnown && decide (p ≠ 0) && decide (s.perf.dumpAt / p < opMs s / p)

/-- DUMP_PERIODIC (R555, R556). -/
def execDumpPeriodic (s : State) : Host.Outcome State Fault Refusal :=
  doIf (up s && dumpDue s) s (captureDump { s with perf := { s.perf with dumpAt := opMs s } } 1)

/-- DUMP_NOW (R555, R563). -/
def execDumpNow (r : Req) (s : State) : Host.Outcome State Fault Refusal := doIf (may s r 1) s (captureDump s 2)

/-- A message of type 0x27 to each subscriber of DUMP_FEED (R557). -/
def sendDumpFeed (s : State) (payload : List Word) : State :=
  (subscribers s 0x90100023).foldl (fun s m => sendTo s m 0xFE 3 0x27 payload) s

/-- The three parts of a dump sent (R557). -/
def sendDump (s : State) (d : Dump) : State := (List.range 3).foldl (fun s p => sendDumpFeed s (dumpPart d p)) s

/-- Parts of up to 22 of the records given, each with its prefix (R557). -/
def sampleParts (s : State) (recs : List (List Word)) : List (List Word) :=
  let n := (recs.length + 21) / 22
  (List.range n).map fun p =>
    let part := (recs.drop (22 * p)).take 22
    dumpPrefix 2 p n part.length ((part.headD []).getD 1 0) (recCycle s) 0 (recMs s)
      (Config.subTicks s.perf.sampleSeq.toNat) ++ part.flatten

/-- The samples that wait, oldest first. -/
def waitingSamples (s : State) : List (List Word) := (s.perf.sampleRing.take s.perf.waiting).reverse

/-- COUNTER_DUMP: the waiting samples where there are any, else the oldest dump not yet sent, in parts to DUMP_FEED
(R557). -/
def execCounterDump (s : State) : Host.Outcome State Fault Refusal :=
  doIf (up s) s
    (if s.perf.waiting = 0 then
       match s.perf.unsent with
       | 0 => s
       | n + 1 =>
         let t := match s.perf.dumps[n]? with
           | some d => sendDump s d
           | none => s
         { t with perf := { t.perf with unsent := n } }
     else
       let t := (sampleParts s (waitingSamples s)).foldl sendDumpFeed s
       { t with perf := { t.perf with waiting := 0 } })

/-- RESEND_DUMP written: the dump is sent again if still in the ring (R558). -/
def resend (s : State) (seq : Word) : State := match s.perf.dumps.find? fun d => d.seq == seq with
  | some d => sendDump s d
  | none => s

/-- RESEND_DUMP (R558, R562). -/
def execResendDump (r : Req) (seq : Word) (s : State) : Host.Outcome State Fault Refusal :=
  doIf (may s r 1) s (resend s seq)

end Sys2Proof.Machine
end

