-- ==== Sys2Proof/Machine/Objects2.lean ====
section
/-! DEFINITION. What the objects of the CAN, ring, history, time, counters, configuration and placement domains read, and
the read of one object of the whole object space (R7, R8, R140 to R143, R424, R425, R461, R462, R486, R487, R518, R519,
R543, R544, R562, R563). -/

namespace Sys2Proof.Machine
open Sys2Proof

/-! CAN (R472, R486, R487). -/

/-- The code of a controller's MODE (R487). -/
def CanMode.code : CanMode → Nat
  | .off => 0
  | .listening => 1
  | .restricted => 2
  | .normal => 3
  | .busOff => 4

/-- CAN_STATUS (R487). -/
def canStatusWord (s : State) (c : Fin 2) : Word :=
  let k := canAt s c
  let err := if k.mode == .busOff then 2 else if k.passive then 1 else 0
  let stb := if c.val = 0 then s.pins.caStb else s.pins.cbStb
  let txp := countIf (List.finRange 16) fun i => (txBuf k i).full
  at' 28 k.mode.code ||| at' 26 err ||| at' 21 ((cfgCanSegment s c.val).toNat % 32) ||| at' 20 ((cfgCanFdEnable s c.val).toNat % 2) |||
    flag 19 (segDutyHeld s c.val) ||| flag 18 k.holdEnd.isSome ||| flag 17 stb ||| at' 8 txp ||| w32 (cap8 k.fifo.length)

/-- CAN_NBT, the fields less one (R487). -/
def canNbtWord (s : State) (c : Nat) : Word :=
  at' 24 (((cfgCanNtseg1 s c).toNat - 1) % 256) ||| at' 17 (((cfgCanNtseg2 s c).toNat - 1) % 128) |||
    at' 10 (((cfgCanNsjw s c).toNat - 1) % 128) ||| at' 5 (((cfgCanNbrp s c).toNat - 1) % 32)

/-- CAN_DBT, the fields less one (R487). -/
def canDbtWord (s : State) (c : Nat) : Word :=
  at' 18 (((cfgCanDtseg1 s c).toNat - 1) % 32) ||| at' 14 (((cfgCanDtseg2 s c).toNat - 1) % 16) |||
    at' 10 (((cfgCanDsjw s c).toNat - 1) % 16) ||| at' 5 (((cfgCanDbrp s c).toNat - 1) % 32)

/-- CAN_ERRORS (R487). -/
def canErrorsWord (k : CanCtl) : Word :=
  at' 23 (min k.tec 511) ||| at' 16 (min k.rec_ 127) ||| flag 15 (decide (127 < k.rec_)) ||| at' 12 k.lec.toNat ||| at' 9 k.dlec.toNat

/-- Word w of message buffer i (R472). -/
def canBufWord (k : CanCtl) (i : Fin 64) (w : Nat) : Word :=
  let b := vat k.bufs i
  let shadow := match fin? 8 i.val with
    | some j => (vat k.shadows j).isSome
    | none => false
  match w with
  | 0 => flag 31 b.full ||| flag 30 b.locked ||| flag 29 b.lost ||| flag 28 shadow ||| at' 24 b.txResult.toNat ||| at' 16 b.filter.toNat
  | 1 => b.id.setWidth 32
  | 2 => at' 28 b.dlc.toNat ||| flag 27 b.ide ||| flag 26 b.fdf ||| flag 25 b.brs ||| flag 24 b.esi ||| b.stamp.setWidth 32
  | n => b.data.getD (n - 3) 0

/-- The two words of a filter (R487). -/
def canFilterWord (f : CanFilter) (i : Nat) : Word :=
  if i % 2 = 0 then flag 31 f.enabled ||| flag 30 f.ide ||| f.id.setWidth 32 else f.mask.setWidth 32

/-- MAP_STATUS of entry e of controller c (R487). -/
def mapStatusWord (s : State) (c : Fin 2) (e : Nat) : Word :=
  let m := tgetD (canAt s c).maps e {}
  at' 16 m.accepted.toNat ||| at' 8 m.short.toNat ||| flag 7 m.timedOut |||
    (if cfgHas s 12 (c.val * 65536 + e) then at' 6 ((cfgMapHighPriority s c.val e).toNat % 2) else 0)

/-- The mask of the transmit buffers that p holds for. -/
def txMask (k : CanCtl) (p : CanBuf → Bool) : Word := w32 (maskOf 16 fun i => match fin? 16 i with
  | some j => p (txBuf k j)
  | none => false)

/-- The objects of controller c at offset o of its range (R486). -/
def canObj (s : State) (c : Fin 2) (o : Nat) : Word :=
  let k := canAt s c
  if o < 0x18 then match o with
    | 0x0 => canStatusWord s c
    | 0x1 => canNbtWord s c.val
    | 0x2 => canDbtWord s c.val
    | 0x3 => flag 31 (decide (cfgCanTdcEnable s c.val = 1)) ||| at' 16 ((cfgCanTdco s c.val).toNat % 128) ||| k.tdcv.setWidth 32
    | 0x4 => canErrorsWord k
    | 0x6 => canTime s
    | 0x7 => txMask k CanBuf.full
    | 0x8 => txMask k CanBuf.cancel
    | 0x10 => k.rxFrames
    | 0x11 => k.txFrames
    | 0x12 => k.rxOverrun
    | 0x13 => k.shadowLosts
    | 0x14 => k.txCancelled
    | 0x15 => k.collisions
    | 0x16 => k.lapses
    | 0x17 => k.foreign
    | _ => 0
  else if 0x1000 ≤ o ∧ o < 0x1800 then match fin? 64 ((o - 0x1000) / 0x20) with
    | some b => if o % 0x20 < 19 then canBufWord k b (o % 0x20) else 0
    | none => 0
  else if 0x3000 ≤ o ∧ o < 0x3100 then match fin? 128 ((o - 0x3000) / 2) with
    | some i => canFilterWord (vat k.filters i) o
    | none => 0
  else if 0x3100 ≤ o ∧ o < 0x3110 then match fin? 8 ((o - 0x3100) / 2) with
    | some i => canFilterWord (vat k.hp i) o
    | none => 0
  else if 0x4001 ≤ o ∧ o ≤ 0x4200 then mapStatusWord s c (o - 0x4000)
  else 0

/-- The CAN domain from 0x5000_0000; a controller that has not been READY shows its reset values (R86, R486; log entry 56). -/
def readCan (s : State) (a : Nat) : Word := match fin? 2 (a / 0x10000) with
  | some c =>
    if canServed s c.val then canObj s c (a % 0x10000)
    else if a % 0x10000 = 0 then at' 17 1
    else if a % 0x10000 = 6 then canTime s else 0
  | none => 0

/-! The ring (R461, R462). -/

/-- RING_STATUS (R462). -/
def ringStatusWord (s : State) : Word :=
  let r := s.ring
  let link (p : Fin 3) : Bool := (vat r.ports p).st == .up
  at' 24 r.loadC012.toNat ||| at' 16 r.loadC3.toNat ||| flag 5 r.ringOpen ||| flag 4 (vat r.ports 1).preempt |||
    flag 3 (vat r.ports 0).preempt ||| flag 2 (link 2) ||| flag 1 (link 1) ||| flag 0 (link 0)

/-- The code of a port's STATE (R462). -/
def LinkSt.code : LinkSt → Nat
  | .down => 0
  | .negotiating => 1
  | .up => 2
  | .off => 3

/-- The objects of port p at offsets 0 to 6 (R461, R462). -/
def portWord (p : RingPort) (o : Nat) : Word := match o with
  | 0 => at' 28 p.mode.toNat ||| at' 26 p.speed.toNat ||| at' 24 p.st.code ||| flag 23 p.preempt ||| flag 22 p.pausing ||| p.changes.setWidth 32
  | 1 => p.rx
  | 2 => p.tx
  | 3 => p.fcs
  | 4 => p.dups
  | 5 => p.own
  | 6 => p.pauses
  | _ => 0

/-- KiB of a count of bytes, rounded up. -/
def kib (n : Nat) : Nat := (n + 1023) / 1024

/-- The objects of class c at offsets 0 to 3 (R461, R462). -/
def classWord (s : State) (c : Fin 4) (o : Nat) : Word :=
  let k := classAt s c
  match o with
  | 0 => hiLo (capWord (kib k.peak)) (capWord (kib k.occupancy))
  | 1 => k.discards
  | 2 => k.originated
  | _ => w32 (kib (originBytes s c))

/-- The code of PTP STATE (R462). -/
def PtpState.code : PtpState → Nat
  | .disabled => 0
  | .listening => 1
  | .uncalibrated => 2
  | .slave => 3
  | .noMaster => 4

/-- Words 0 and 1 of a MAC address (R458). -/
def macWord (m : BitVec 48) (i : Nat) : Word := if i % 2 = 0 then (m.extractLsb' 32 16).setWidth 32 else m.extractLsb' 0 32

/-- HOST_STATE of host k (R462). -/
def hostStateWord (s : State) (k : Nat) : Word :=
  let mac := macOf (cfgHostMac s k)
  let x := s.ring.stations.find? fun t => t.mac == mac
  let seen := match x with
    | some t => decide (now s < t.at_ + 60000)
    | none => false
  let sess : Word := match x with
    | some t => t.sess.setWidth 32
    | none => 0
  at' 30 ((cfgHostLevel s k).toNat % 4) ||| flag 29 seen ||| at' 16 (cap8 (countIf s.ring.subs fun q => q.mac == mac)) ||| sess

/-- The objects of host k (R461). -/
def hostWord (s : State) (k : Fin 16) (o : Nat) : Word :=
  if o = 3 then vat s.ring.hostReqs k
  else if !cfgHas s 2 k.val then 0
  else if o < 2 then macWord (macOf (cfgHostMac s k.val)) o
  else hostStateWord s k.val

/-- The ring domain from 0x6000_0000, as the reader sees it (R461). -/
def readRing (s : State) (mac : BitVec 48) (a : Nat) : Word :=
  let r := s.ring
  let p := r.ptp
  if a = 0 then ringStatusWord s
  else if a = 3 then w32 (levelOf s mac)
  else if a = 4 ∨ a = 5 then macWord (nodeMac s) a
  else if 0x10 ≤ a ∧ a < 0x40 then match fin? 3 (a / 0x10 - 1) with
    | some i => portWord (vat r.ports i) (a % 0x10)
    | none => 0
  else if 0x40 ≤ a ∧ a < 0x50 then match fin? 4 ((a - 0x40) / 4) with
    | some c => classWord s c (a % 4)
    | none => 0
  else if 0x60 ≤ a ∧ a < 0x68 then match fin? 8 (a - 0x60) with
    | some k => vat r.causes k
    | none => 0
  else if a = 0x70 then
    at' 28 p.st.code ||| at' 16 ((cfgRingPtpDomain s).toNat % 256) ||| at' 8 p.gmClass.toNat
  else if a = 0x71 then p.offset
  else if a = 0x72 then p.gm.extractLsb' 32 32
  else if a = 0x73 then p.gm.extractLsb' 0 32
  else if a = 0x74 then (vat r.ports 0).pathDelay
  else if a = 0x75 then (vat r.ports 1).pathDelay
  else if 0x80 ≤ a ∧ a < 0xC0 then match fin? 16 ((a - 0x80) / 4) with
    | some k => hostWord s k (a % 4)
    | none => 0
  else if 0xC0 ≤ a ∧ a < 0xD0 then match fin? 8 ((a - 0xC0) / 2) with
    | some k => match vat r.proxy k with
      | some e => macWord e.mac a
      | none => 0
    | none => 0
  else 0

/-! History (R518, R519). -/

/-- The code of HISTORY_STATUS STATE (R519). -/
def HistState.code : HistState → Nat
  | .scanning => 0
  | .indexing => 1
  | .inService => 2
  | .noNand => 3
  | .fault => 4

/-- HISTORY_STATUS (R519). -/
def historyStatusWord (s : State) : Word :=
  let l := s.linen
  at' 28 l.st.code ||| flag 27 l.dropping ||| flag 26 l.permFull ||| flag 25 l.resumed ||| w32 (cap8 (permFill s))

/-- NAND_INFO (R519). -/
def nandInfoWord (n : Nand) : Word := at' 30 n.targets.toNat ||| at' 28 n.page.toNat ||| at' 8 n.gib1.toNat ||| n.gib0.setWidth 32

/-- The oldest RECORD_SEQ in the main tier (R518). -/
def oldestSeq (s : State) : Word := ((committed s).head?.map Prod.fst).getD 0

/-- The objects of a cursor at offsets 0 to 6 (R518, R519). -/
def cursorWord (s : State) (k : Cursor) (o : Nat) : Word := match o with
  | 0 => at' 30 k.tier.toNat ||| at' 26 k.mask.toNat ||| flag 25 k.follow
  | 1 => k.posHigh
  | 2 => k.posLow
  | 3 => k.filter
  | 5 =>
    flag 31 k.owned ||| flag 30 (k.busy || s.linen.st == .indexing) ||| flag 29 k.atHead ||| flag 28 k.recycled |||
      flag 27 k.stagedPresent ||| at' 16 k.entries.toNat
  | 6 => hiLo k.skipRecycled.toNat k.skipUnread.toNat
  | _ => 0

/-- The objects that read before HISTORY is READY as they do after: its state and the NAND found (R519; log entry 61). -/
def readHistory (s : State) (a : Nat) : Word :=
  let l := s.linen
  let n := s.nand
  if a = 0 then historyStatusWord s
  else if a = 1 then nandInfoWord n
  else if !histReady s then (if 0x100 ≤ a ∧ a < 0x180 then cursorWord s {} (a % 0x10) else 0)
  else if a = 2 then l.nextSeq
  else if a = 3 then oldestSeq s
  else if a = 4 then w32 l.staged.length
  else if a = 5 then w32 n.perm.length
  else if a = 6 then l.dropped
  else if a = 7 then w32 (n.eraseSum / max 1 (mainPlaces s))
  else if a = 8 then hiLo (min 65535 (countIf n.badTable fun b => decide (2 ^ 24 ≤ b))) (min 65535 (countIf n.badTable fun b => decide (b < 2 ^ 24)))
  else if a = 9 then (match n.resume with
    | some r => w32 (r.1 / 2 ^ 32 % 65536)
    | none => 0)
  else if a = 0xA then (match n.resume with
    | some r => w32 r.1
    | none => 0)
  else if 0x100 ≤ a ∧ a < 0x180 then match fin? 8 ((a - 0x100) / 0x10) with
    | some c => cursorWord s (cursorAt s c) (a % 0x10)
    | none => 0
  else if 0x10000 ≤ a ∧ a < 0x10800 then match fin? 8 ((a - 0x10000) / 0x100) with
    | some c => (cursorAt s c).window.getD (a % 0x100) 0
    | none => 0
  else 0

/-! Time (R543, R544). -/

/-- TIME_STATUS (R544). -/
def timeStatusWord (s : State) : Word :=
  let b := s.bkup
  at' 30 b.quality.code ||| flag 29 b.staged ||| flag 28 (decide (b.shiftLeft ≠ 0)) ||| flag 27 b.utcValid |||
    (BitVec.ofInt 16 (utcInUse s)).setWidth 32

/-- BACKUP_STATUS (R544). -/
def backupStatusWord (b : Bkup) : Word :=
  at' 30 (if b.onVbat then 2 else 1) ||| flag 29 b.valid ||| flag 28 b.vbatAbsent ||| flag 27 b.vbatLow ||| flag 26 b.wakeSeen |||
    b.vbatMv.setWidth 32

/-- The time domain from 0x8000_0000 (R86, R543). -/
def readTime (s : State) (a : Nat) : Word :=
  let b := s.bkup
  if 0x100 ≤ a ∧ a < 0x200 then match fin? 256 (a - 0x100) with
    | some w => vat b.ram w
    | none => 0
  else match a with
    | 0x00 => timeStatusWord s
    | 0x01 => backupStatusWord b
    | 0x02 => b.cycle.v
    | 0x03 => b.cycle.c
    | 0x04 => b.opHi.v
    | 0x05 => b.opHi.c
    | 0x06 => b.opLo.v
    | 0x07 => b.opLo.c
    | 0x10 => b.seconds
    | 0x11 => b.sub.setWidth 32
    | 0x12 => b.stageSec
    | 0x13 => b.stageSub
    | 0x15 => b.lastShift.setWidth 32
    | 0x16 => b.trim.setWidth 32
    | 0x17 => b.rtcOffset
    | 0x18 => b.wakeAt
    | _ => 0

/-! Counters (R547, R562, R563). -/

/-- SAMPLER_SELECT (R563). -/
def selectWord (c : Sampler) : Word := flag 31 c.enable ||| flag 30 c.chain ||| flag 29 c.sample ||| c.event.setWidth 32

/-- The counters domain from 0x9000_0000 (R562). -/
def readCounters (s : State) (a : Nat) : Word :=
  if a < 0x20000 then (if eventUsed (a / 2) then (ctrWords (ctrOf s (a / 2))).getD (a % 2) 0 else 0)
  else if 0x100000 ≤ a ∧ a < 0x100020 then match fin? 16 (a % 0x10) with
    | some k => if a < 0x100010 then selectWord (samplerAt s k) else (samplerAt s k).count
    | none => 0
  else if a = 0x100020 then
    hiLo (maskOf 16 fun i => match fin? 16 i with
        | some k => samplerRuns s k
        | none => false)
      (maskOf 16 fun i => match fin? 16 i with
        | some k => (samplerAt s k).wrapped
        | none => false)
  else if a = 0x100022 then s.perf.dumpSeq
  else if a = 0x100025 then s.perf.samplesLost
  else 0

/-! Configuration (R140 to R143). -/

/-- CONFIG_STATUS (R141). -/
def configStatusWord (s : State) : Word :=
  let c := s.cfg
  flag 23 (s.nor.image == .pending) ||| flag 22 c.interrupted ||| flag 21 c.absent ||| flag 20 (anySuspect s) ||| flag 19 c.fallback |||
    flag 18 c.otherValid ||| flag 17 c.fwCopy ||| flag 16 c.slot ||| w32 (capWord c.reportTotal)

/-- The code of AMEND_STATE (R143). -/
def AmendState.code : AmendState → Nat
  | .idle => 0
  | .open_ => 1
  | .checking => 2
  | .committing => 3
  | .committed => 4
  | .rejected => 5
  | .failed => 6

/-- The code of IMAGE_STATE (R143). -/
def ImageState.code : ImageState → Nat
  | .idle => 0
  | .erasing => 1
  | .receiving => 2
  | .verifying => 3
  | .pending => 4
  | .rejected => 5

/-- The configuration domain from 0xA000_0000; AMEND_LENGTH and AMEND_BUFFER read for the owner only (R140). -/
def readConfig (s : State) (r : Req) (a : Nat) : Word :=
  let n := s.nor
  if 0x10000 ≤ a ∧ a < 0x14000 then (if ownsAmend s r then n.buffer.getD (a - 0x10000) 0 else 0)
  else if 0x20000 ≤ a ∧ a < 0x24000 then match s.cfg.report[(a - 0x20000) / 4]? with
    | some e => (entryWords e).getD (a % 4) 0
    | none => 0
  else match a with
    | 0x0 => configStatusWord s
    | 0x1 => at' 8 (norQ s % 256) ||| w32 (n.mib % 256)
    | 0x2 => s.cfg.seqInUse.v
    | 0x3 => s.cfg.seqInUse.c
    | 0x4 => s.cfg.seqHighest.v
    | 0x5 => s.cfg.seqHighest.c
    | 0x7 => at' 28 n.amend.code ||| at' 24 n.image.code ||| flag 23 n.pendingRestart ||| flag 22 (norBusy s)
    | 0x8 => if ownsAmend s r then n.amendLen else 0
    | 0x9 => n.progress
    | 0xA => n.imageNext.setWidth 32
    | _ => 0

/-! Placement (R424, R425). -/

/-- The code of a peer's STATE (R425). -/
def PeerSt.code : PeerSt → Nat
  | .unknown => 0
  | .present => 1
  | .counted => 2
  | .absent => 3
  | .self => 4

/-- NODE_DUTY of node m (R425). -/
def nodeDutyWord (s : State) (m : Fin 64) : Word :=
  let p := peerAt s m.val
  let age := match p.heardAt with
    | some t => capWord (now s - t)
    | none => 0xFFFF
  at' 24 (vat s.canvas.duty.peer m).toNat ||| at' 20 (if m.val = nodeNum s then 4 else p.st.code) |||
    flag 19 p.image.isSome ||| flag 18 p.conflict ||| w32 age

/-- SEGMENT_DUTY of segment g (R425). -/
def segmentDutyWord (s : State) (g : Fin 32) : Word :=
  at' 24 (vat s.canvas.duty.seg g).toNat ||| at' 16 (countIf (viewNodes s) fun n => bit (segmentsOf s n) g.val) |||
    flag 0 (!(segControllers s g.val).isEmpty)

/-- TASK_INFO of task i (R425). -/
def taskInfoWord (s : State) (i : Nat) : Word := match tget s.canvas.tasks i with
  | none => 0xE3FF0000
  | some t =>
    let e (x : Option (Fin 16)) : Nat := match x with
      | some e => e.val
      | none => 0xF
    at' 29 t.kind.code ||| flag 28 t.pinned.isSome ||| flag 27 t.moving.isSome ||| flag 26 t.standby.isNone ||| at' 24 t.cls.toNat |||
      at' 20 (e t.primary) ||| at' 16 (e t.standby) ||| t.subject.setWidth 32

/-- FW_STATUS (R425). -/
def fwStatusWord (f : Fw) : Word :=
  let at_ := match f.at_ with
    | some q => q.val
    | none => 0xF
  at' 28 f.st.code ||| at' 24 f.done.toNat ||| at' 20 at_ ||| flag 16 f.target

/-- VIEW as its two pairs (R424). -/
def viewWord (s : State) (i : Nat) : Word :=
  let v := s.canvas.view
  half (Pair.mk0 (if i < 2 then v.extractLsb' 0 32 else v.extractLsb' 32 32)) i

/-- The placement domain from 0xB000_0000; but for the firmware's, its objects read their reset values until PLACEMENT is
READY (R86, R424). -/
def readPlacement (s : State) (a : Nat) : Word :=
  let c := s.canvas
  if a = 0x20001 then fwStatusWord c.fw
  else if a = 0x20002 then c.fw.next.setWidth 32
  else if !fnReady s 0x0A 0 then
    (if a = 0 then at' 28 3
     else if a = 3 ∨ a = 0x11 ∨ a = 0x13 ∨ a = 0x15 then 0xFFFFFFFF
     else if 0x100 ≤ a ∧ a < 0x140 then 0xFF00FFFF
     else if 0x200 ≤ a ∧ a < 0x220 then 0xFF000000
     else if a = 0x240 then 0xFF000000
     else if 0x10000 ≤ a ∧ a < 0x14000 ∧ a % 2 = 0 then 0xE3FF0000 else 0)
  else if a < 0x20 then match a with
    | 0x00 => at' 28 c.agreement.toNat ||| at' 24 c.counted.toNat ||| at' 20 c.dissent.toNat ||| c.unplaced.setWidth 32
    | 0x01 => c.rounds
    | 0x02 => c.epoch.v
    | 0x03 => c.epoch.c
    | 0x10 => viewWord s 0
    | 0x11 => viewWord s 1
    | 0x12 => viewWord s 2
    | 0x13 => viewWord s 3
    | 0x14 => c.duty.epoch.v
    | 0x15 => c.duty.epoch.c
    | 0x16 => c.grant
    | 0x17 => c.budget
    | 0x18 => c.need
    | _ => 0
  else if 0x100 ≤ a ∧ a < 0x140 then match fin? 64 (a - 0x100) with
    | some m => nodeDutyWord s m
    | none => 0
  else if 0x200 ≤ a ∧ a < 0x220 then match fin? 32 (a - 0x200) with
    | some g => segmentDutyWord s g
    | none => 0
  else if a = 0x240 then at' 24 c.duty.call.toNat
  else if 0x10000 ≤ a ∧ a < 0x14000 then
    (if a % 2 = 0 then taskInfoWord s ((a - 0x10000) / 2)
     else match tget c.tasks ((a - 0x10000) / 2) with
      | some t => w32 (min (taskC10 t / 10) 0xFFFFFFFF)
      | none => 0)
  else 0

/-! The object space (R7, R8). -/

/-- What the requester reads of the object at an address; an unused domain reads 0 (R7, R8, R450). -/
def readObj (s : State) (r : Req) (addr : Word) : Word :=
  let a := bits addr 27 0
  match bits addr 31 28 with
  | 0x0 => readNode s a
  | 0x1 => readQuads s a
  | 0x2 => readPoint s a
  | 0x3 => readAlarms s a
  | 0x4 => readField s a
  | 0x5 => readCan s a
  | 0x6 => readRing s r.mac a
  | 0x7 => readHistory s a
  | 0x8 => readTime s a
  | 0x9 => readCounters s a
  | 0xA => readConfig s r a
  | 0xB => readPlacement s a
  | 0xC => readVib s a
  | _ => 0

/-- n words from an address upwards, all of one instant (R451). -/
def readObjs (s : State) (r : Req) (addr : Word) (n : Nat) : List Word := (List.range n).map fun i => readObj s r (addr + w32 i)

end Sys2Proof.Machine
end

