-- ==== Sys2Proof/Machine/Operands.lean ====
section
/-! DEFINITION. Operand forms of commands: the requester of a request, the one action a control word asks for, and the pair
that the words of a write form. -/

namespace Sys2Proof.Machine
open Sys2Proof

/-- The requester of a request (R450). -/
def rqReq (q : Rq) : Req := { mac := q.mac, sess := q.sess }

/-- The action bit of a control word whose write is ignored with more than one bit set, reserved bits counted: the one bit set,
where it is among the bits `l` (R143, R207, R253, R281, R282, R423, R487, R563). -/
def oneBit (w : Word) (l : List Nat) : Option Nat := match (List.range 32).filter (bit w) with
  | [i] => if l.contains i then some i else none
  | _ => none

/-- The one action set among the bits `l` of a control word, its reserved bits ignored; none where there is none or more than
one (R9, R425). -/
def oneAction (w : Word) (l : List Nat) : Option Nat := match l.filter (bit w) with
  | [i] => some i
  | _ => none

/-- The pair that the first two words of a write form, at an even address (R12). -/
def firstPair (a : Nat) (ws : List Word) : Option Pair := match ws with
  | v :: c :: _ => if a % 2 = 0 then some ⟨v, c⟩ else none
  | _ => none

end Sys2Proof.Machine
end

