-- ==== Sys2Proof/Machine/Write.lean ====
section
/-! DEFINITION. Writes to the object space: the words of one message applied object by object under the access and pairing
rules (R8 to R12, R451), and REGISTER_WRITE. -/

namespace Sys2Proof.Machine
open Sys2Proof

/-- CHANNEL_CONTROL of UAIn (R207). -/
def writeChannelControl (s : State) (r : Req) (n : Fin 16) (w : Word) : State := match oneBit w [0, 1, 2, 3, 4] with
  | some 0 => after (execRestoreEnergy r (uaiPort n) true s) s
  | some 1 => after (execTrimZero r n s) s
  | some 2 => after (execTrimSpan r n s) s
  | some 3 => after (execTrimClear r n s) s
  | some _ => after (execHartRediscover r ⟨n.val, by omega⟩ s) s
  | none => s

/-- OUTPUT_CONTROL of AOn (R242, R253). -/
def writeAoControl (s : State) (r : Req) (n : Fin 4) (w : Word) : State := match oneBit w [0, 1, 2, 3] with
  | some 0 => after (execRestoreEnergy r (aoPort n) true s) s
  | some 1 => after (execManualOn r (aoOut n) s) s
  | some 2 => after (execManualOff r (aoOut n) s) s
  | some _ => after (execHartRediscover r ⟨16 + n.val, by omega⟩ s) s
  | none => s

/-- OUTPUT_CONTROL of DOn (R272, R282). -/
def writeDoControl (s : State) (r : Req) (n : Fin 8) (w : Word) : State := match oneBit w [0, 1, 2] with
  | some 0 => after (execManualOn r (doOut n) s) s
  | some 1 => after (execManualOff r (doOut n) s) s
  | some _ => after (execResetLatch r n s) s
  | none => s

/-- TRIM_REFERENCE of UAIn: the pair for the next capture (R194, R205). -/
def writeTrimRef (s : State) (r : Req) (n : Fin 16) (v : Pair) : State :=
  if may s r 2 && chanReady s n.val then
    (if v.ok then s.modUai n fun u => { u with trimRef := v } else pairFail s 5 (subj s 2 n.val) [v])
  else s

/-- The field domain written (R204, R250, R280); the number is of the words used. -/
def writeField (s : State) (r : Req) (a : Nat) (w : Word) (ws : List Word) : State × Nat :=
  let o := a % 0x100
  let pair := firstPair a ws
  if a < 0x1000 then match fin? 16 (a / 0x100), pair with
    | some n, p =>
      if o = 8 then (writeChannelControl s r n w, 1)
      else match p with
        | some v => if o = 0xA then (writeTrimRef s r n v, 2) else (s, 1)
        | none => (s, 1)
    | none, _ => (s, 1)
  else if 0x2000 ≤ a ∧ a < 0x2400 then match fin? 4 ((a - 0x2000) / 0x100), pair with
    | some n, p =>
      if o = 8 then (writeAoControl s r n w, 1)
      else match p with
        | some v => if o = 0xA then (after (execManualValueWrite r (aoOut n) v s) s, 2) else (s, 1)
        | none => (s, 1)
    | none, _ => (s, 1)
  else if 0x3000 ≤ a ∧ a < 0x4000 then match fin? 16 ((a - 0x3000) / 0x100), pair with
    | some n, p =>
      if o = 5 then (if (oneBit w [0]).isSome then after (execClearWrap r n false s) s else s, 1)
      else match p with
        | some v => if o = 6 then (after (execTotalPreset r n v s) s, 2) else (s, 1)
        | none => (s, 1)
    | none, _ => (s, 1)
  else if 0x4000 ≤ a ∧ a < 0x4800 then match fin? 8 ((a - 0x4000) / 0x100), pair with
    | some n, p =>
      if o = 5 then (writeDoControl s r n w, 1)
      else match p with
        | some v => if o = 6 then (after (execManualValueWrite r (doOut n) v s) s, 2) else (s, 1)
        | none => (s, 1)
    | none, _ => (s, 1)
  else (s, 1)

/-- The action that an ALARM_ACTION word asks for (R347). -/
def alarmActOf (w : Word) : Option AlarmAct := match bits w 3 0 with
  | 1 => some (.ack (w.extractLsb' 16 16))
  | 2 => some (.shelve (w.extractLsb' 4 12))
  | 3 => some .unshelve
  | 4 => some .oosOn
  | 5 => some .oosOff
  | 6 => some .adaptRestart
  | _ => none

/-- The level an alarm action needs (R326). -/
def AlarmAct.level : AlarmAct → Nat
  | .ack _ => 1
  | .shelve _ => 1
  | .unshelve => 1
  | _ => 2

/-- The points domain written: an action waits for the point's extra evaluation instant (R292, R310, R326, R346). -/
def writePoint (s : State) (r : Req) (a : Nat) (w : Word) (ws : List Word) : State × Nat :=
  let p := a / 0x1000
  let o := a % 0x1000
  if o = 0x23 then match alarmActOf w with
    | some x => (if may s r x.level then queueAct s p x else s, 1)
    | none => (s, 1)
  else match firstPair a ws with
    | some v => if o = 0x1A then (after (execSetpointWrite r (BitVec.ofNat 16 p) v s) s, 2) else (s, 1)
    | none => (s, 1)

/-- The alarms and calling domain written (R349, R378). -/
def writeAlarms (s : State) (r : Req) (a : Nat) (w : Word) : State :=
  if a < 0x10000 then
    if a % 0x100 = 5 then match bits w 3 0 with
      | 1 => after (execAckAll r (BitVec.ofNat 8 (a / 0x100)) s) s
      | 2 => after (execDamaskClear r (BitVec.ofNat 8 (a / 0x100)) s) s
      | _ => s
    else s
  else if a = 0x10000 then (if bits w 3 0 = 1 then after (execSysAck r (w.extractLsb' 8 8) (w.extractLsb' 16 16) s) s else s)
  else if a = 0x1000020 then writeCallAction s r w
  else s

/-- The quads and engines domain written (R422, R423). -/
def writeQuads (s : State) (r : Req) (a : Nat) (w : Word) : State :=
  if a < 0x100 then match fin? 16 (a / 16) with
    | some e => if a % 16 = 3 ∧ (oneBit w [0]).isSome = true then after (execEngineRetry r e s) s else s
    | none => s
  else if a < 0x1000 then s
  else match fin? 4 ((a - 0x1000) / 16) with
    | some q => if a % 16 = 2 then
        (match oneBit w [0, 1, 2] with
         | some 0 => after (execDrainOff r q s) s
         | some 1 => after (execResume r q s) s
         | some _ => after (execQuadRetry r q s) s
         | none => s)
      else s
    | none => s

/-- The CAN domain written (R487). -/
def writeCan (s : State) (r : Req) (a : Nat) (w : Word) : State := match fin? 2 (a / 0x10000) with
  | some c => if a % 0x10000 = 5 then
      (match oneBit w [0, 1] with
       | some 0 => after (execRecoverNow r c s) s
       | some _ => after (execCanClearCounters r c s) s
       | none => s)
    else s
  | none => s

/-- RING_CONTROL's actions (R462). -/
def clearRingCounters (s : State) : State :=
  let port (p : RingPort) : RingPort := { p with rx := 0, tx := 0, fcs := 0, dups := 0, own := 0, pauses := 0 }
  { s with ring := { s.ring with
      ports := s.ring.ports.map port
      classes := s.ring.classes.map fun k => { k with discards := 0, originated := 0 }
      causes := Vector.replicate 8 0, hostReqs := Vector.replicate 16 0 } }

/-- RING_CLEAR_COUNTERS (R461, R462). -/
def execRingClearCounters (r : Req) (s : State) : Host.Outcome State Fault Refusal :=
  doIf (may s r 2 && fnReady s 0x01 0) s (clearRingCounters s)

/-- Every PEAK_KIB set to its occupancy (R462). -/
def ringPeaks (s : State) : State :=
  { s with ring := { s.ring with classes := s.ring.classes.map fun k => { k with peak := k.occupancy } } }

/-- CLEAR_PEAKS (R462). -/
def execClearPeaks (r : Req) (s : State) : Host.Outcome State Fault Refusal :=
  doIf (may s r 2 && fnReady s 0x01 0) s (ringPeaks s)

/-- RING_CONTROL written; both of its actions may be asked at once (R462). -/
def writeRing (s : State) (r : Req) (a : Nat) (w : Word) : State :=
  if a = 1 then
    let s1 := if bit w 0 then after (execRingClearCounters r s) s else s
    if bit w 1 then after (execClearPeaks r s1) s1 else s1
  else s

/-- An action of CURSOR_ACTION (R519): CLAIM 0, RELEASE 1, ADVANCE 2, SEEK_OLDEST 3, SEEK_NEWEST 4. -/
def cursorActOf (s : State) (r : Req) (c : Fin 8) (w : Word) (i : Nat) : State :=
  if bit w i then match i with
    | 0 => after (execCursorClaim r c s) s
    | 1 => after (execCursorRelease r c s) s
    | 2 => after (execCursorAdvance r c s) s
    | 3 => after (execSeekOldest r c s) s
    | _ => after (execSeekNewest r c s) s
  else s

/-- The history domain written: a cursor's objects by its owner (R510, R511, R518, R519). -/
def writeHistory (s : State) (r : Req) (a : Nat) (w : Word) : State :=
  if 0x100 ≤ a ∧ a < 0x180 then match fin? 8 ((a - 0x100) / 0x10) with
    | some c =>
      let mine := up s && histReady s && ownsCursor s r c
      match a % 0x10 with
      | 0 => if mine then writeCursorControl s c w else s
      | 1 => if mine then s.modCursor c fun k => { k with posHigh := w, at_ := now s } else s
      | 2 => if histReady s then after (execPositionLowWrite r c w s) s else s
      | 3 => if mine then s.modCursor c fun k => { k with filter := w, at_ := now s } else s
      | 4 => if histReady s then [0, 1, 2, 3, 4].foldl (fun t i => cursorActOf t r c w i) s else s
      | _ => s
    | none => s
  else s

/-- The time domain written (R528, R532, R533, R538, R543, R544); both stage words of one message count as one writing. -/
def writeTime (s : State) (r : Req) (a : Nat) (w : Word) (ws : List Word) : State × Nat :=
  let live := fnReady s 0x02 0
  match a with
  | 0x12 => (match ws with
    | _ :: y :: _ => (after (execStageWrite r (some w) (some y) s) s, 2)
    | _ => (after (execStageWrite r (some w) none s) s, 1))
  | 0x13 => (after (execStageWrite r none (some w) s) s, 1)
  | 0x14 => ((let s1 := if bit w 0 then after (execRtcCommit r s) s else s
    if bit w 1 then after (execCancelStage r s1) s1 else s1), 1)
  | 0x15 => (after (execRtcShiftWrite r w s) s, 1)
  | 0x16 => (after (execRtcTrimCodeWrite r w s) s, 1)
  | 0x18 => (if may s r 3 && live then s.modBkup fun b => { b with wakeAt := w } else s, 1)
  | 0x19 => (if bit w 0 then after (execShutdown r s) s else s, 1)
  | n =>
    if 0x1C0 ≤ n ∧ n < 0x200 ∧ may s r 2 ∧ live then match fin? 256 (n - 0x100) with
      | some i => (s.modBkup fun b => { b with ram := vmod b.ram i fun _ => w }, 1)
      | none => (s, 1)
    else (s, 1)

/-- The counters domain written (R558, R560, R562, R563). -/
def writeCounters (s : State) (r : Req) (a : Nat) (w : Word) (ws : List Word) : State × Nat :=
  if 0x100000 ≤ a ∧ a < 0x100010 then match fin? 16 (a - 0x100000) with
    | some k => (after (execSamplerSelectWrite r k w s) s, 1)
    | none => (s, 1)
  else if 0x100010 ≤ a ∧ a < 0x100020 then match fin? 16 (a - 0x100010) with
    | some k => (after (execCountWrite r k ws s) s, if isChainHigh s k then 2 else 1)
    | none => (s, 1)
  else if a = 0x100021 then (match oneBit w [0, 1] with
    | some 0 => (after (execDumpNow r s) s, 1)
    | some _ => (after (execClearWraps r s) s, 1)
    | none => (s, 1))
  else if a = 0x100024 then (after (execResendDump r w s) s, 1)
  else (s, 1)

/-- The words of a write that lie below the end of a window. -/
def inWindow (a last : Nat) (ws : List Word) : List Word := ws.take (last + 1 - a)

/-- The configuration domain written (R137, R140, R143). -/
def writeConfig (s : State) (r : Req) (a : Nat) (w : Word) (ws : List Word) : State × Nat :=
  if a = 6 then (match oneBit w [0, 1, 2, 8, 9, 10] with
    | some 0 => (after (execAmendOpen r s) s, 1)
    | some 1 => (after (execAmendApply r s) s, 1)
    | some 2 => (after (execAmendAbort r s) s, 1)
    | some 8 => (after (execImageBegin r s) s, 1)
    | some 9 => (after (execImageCommit r s) s, 1)
    | some _ => (after (execImageCancel r s) s, 1)
    | none => (s, 1))
  else if a = 8 then (if may s r 2 then writeAmendLen s r w else s, 1)
  else if 0x10000 ≤ a ∧ a < 0x14000 then
    let run := inWindow a 0x13FFF ws
    (if may s r 2 then writeAmendBuffer s r (a - 0x10000) run else s, run.length)
  else if 0x400000 ≤ a ∧ a < 0xC00000 then
    let run := inWindow a 0xBFFFFF ws
    (after (execImageWindowWrite r (BitVec.ofNat 23 (a - 0x400000)) run s) s, run.length)
  else (s, 1)

/-- The placement domain written (R395, R398, R400, R424, R425). -/
def writePlacement (s : State) (r : Req) (a : Nat) (w : Word) (ws : List Word) : State × Nat :=
  if a = 4 then (match bits w 3 0 with
    | 1 => (after (execRebalance r s) s, 1)
    | 2 => (after (execRotateNow r s) s, 1)
    | 3 => (after (execForgetNode r (w.extractLsb' 8 8) s) s, 1)
    | _ => (s, 1))
  else if a = 0x20000 then (match oneAction w [0, 2, 3, 4] with
    | some 0 => (after (execFwBegin r s) s, 1)
    | some 2 => (after (execFwCommit r s) s, 1)
    | some 3 => (after (execFwCancel r s) s, 1)
    | some _ => (after (execFwApply r s) s, 1)
    | none => (s, 1))
  else if 0x400000 ≤ a ∧ a < 0x600000 then
    let run := inWindow a 0x5FFFFF ws
    (after (execFwWindowWrite r (BitVec.ofNat 21 (a - 0x400000)) run s) s, run.length)
  else (s, 1)

/-- The vibration domain written (R217, R229). -/
def writeVib (s : State) (r : Req) (a : Nat) (w : Word) : State := match fin? 16 (a / 0x100) with
  | none => s
  | some n =>
    if a % 0x100 = 1 then
      let s1 := if bit w 1 then after (execCancelPending r n s) s else s
      if bit w 0 then after (execCaptureNow r n s1) s1 else s1
    else if a % 0x100 = 6 then after (execResendId r n w s) s
    else s

/-- The object at an address written with the words ws from it upwards; the number is of the words it used. An access that
violates the rules is ignored (R8). -/
def writeObj (s : State) (r : Req) (addr : Word) (ws : List Word) : State × Nat :=
  let a := bits addr 27 0
  let w := ws.headD 0
  match bits addr 31 28 with
  | 0x0 => (if a = 0x105 then after (execPowerLevelWrite r w s) s else s, 1)
  | 0x1 => (writeQuads s r a w, 1)
  | 0x2 => writePoint s r a w ws
  | 0x3 => (writeAlarms s r a w, 1)
  | 0x4 => writeField s r a w ws
  | 0x5 => (writeCan s r a w, 1)
  | 0x6 => (writeRing s r a w, 1)
  | 0x7 => (writeHistory s r a w, 1)
  | 0x8 => writeTime s r a w ws
  | 0x9 => writeCounters s r a w ws
  | 0xA => writeConfig s r a w ws
  | 0xB => writePlacement s r a w ws
  | 0xC => (writeVib s r a w, 1)
  | _ => (s, 1)

/-- The words of one message from an address upwards, the first `skip` of them used already (R451). -/
def writeFrom (r : Req) : List Word → Word → Nat → State → State
  | [], _, _, s => s
  | w :: t, a, 0, s =>
    let x := writeObj s r a (w :: t)
    writeFrom r t (a + 1) (x.2 - 1) x.1
  | _ :: t, a, k + 1, s => writeFrom r t (a + 1) k s

/-- The words of one WRITE applied in ascending address, object by object (R451). -/
def writeObjs (s : State) (r : Req) (addr : Word) (ws : List Word) : State := writeFrom r ws addr 0 s

/-- REGISTER_WRITE: a write to the object space; under a new SESSION of an amendment's owner it ends the amendment (R8, R10,
R12, R128). -/
def execRegisterWrite (r : Req) (addr : Word) (ws : List Word) (s : State) : Host.Outcome State Fault Refusal :=
  let s := noteOwner s r
  doIf (up s) s (writeObjs s r addr ws)

end Sys2Proof.Machine
end

