-- ==== Sys2Proof/Machine/Bereb.lean ====
section
/-! DEFINITION. What leaves the node and what is asked of it: the token buckets (R437, R438), requests and their replies,
subscriptions and EVENT (R450 to R456, R512). -/

namespace Sys2Proof.Machine
open Sys2Proof

/-! Sending (R437, R438, R441). -/

/-- The subscription that a NOTIFY message reports (R453). -/
def subOf (s : State) (m : Msg) : Option Subs := s.ring.subs.find? fun q => q.mac == m.mac && decide (q.tag = m.tag)

/-- The subscription of a NOTIFY with its report noted. -/
def noteReport (s : State) (q : Subs) (ws : List Word) : State :=
  { s with ring := { s.ring with subs := s.ring.subs.map fun x => if x == q then { x with last := ws, lastAt := now s } else x } }

/-- A message at the moment it leaves: it carries the node's SESSION, a notification the values of now (R445, R453). -/
def atLeaving (s : State) (m : Msg) : State × Msg :=
  let m := { m with session := s.ring.session }
  if m.notify then match subOf s m with
    | some q =>
      let ws := readObjs s { mac := q.mac, sess := q.sess } q.addr q.count
      (noteReport s q ws, { m with payload := ws })
    | none => (s, m)
  else (s, m)

/-- The KiB a class has originated, counted in whole KiB (R545). -/
def countKib (s : State) (c : Fin 4) (bytes : Nat) : State :=
  let n := (classAt s c).kibRem + bytes
  perfAdd (s.modClass c fun k => { k with kibRem := n % 1024 }) (0x3003 + 256 * c.val) (n / 1024)

/-- The ALARMs that wait outside the C0 queue enter it as it has room (R438). -/
def admitWaiting : Nat → State → State
  | 0, s => s
  | n + 1, s => match s.ring.c0Wait with
    | [] => s
    | m :: ms => if originFits s m then admitWaiting n (pushMsg { s with ring := { s.ring with c0Wait := ms } } m) else s

/-- The front message of class c leaves (R429, R430, R437, R438, R443). -/
def sendFront (s : State) (c : Fin 4) (m : Msg) (rest : List Msg) : State :=
  let x := atLeaving s m
  let s1 := x.1.modClass c fun k => { k with queue := rest, bucket := k.bucket - msgBits m, originated := satInc k.originated }
  let s2 := putOnRing (countKib s1 c (msgBytes m)) c
  let s3 := if isMulticast m.mac || inProxy s m.mac then putFrame s2 2 c else s2
  let s4 := { s3 with ring := { s3.ring with sent := (x.2 :: s3.ring.sent).take 16 } }
  if c.val = 0 then
    let s5 := admitWaiting s4.ring.c0Wait.length s4
    if s5.ring.c0Wait.isEmpty then sysClear s5 0x32 else s5
  else s4

/-- Class c has a frame that its bucket passes: for C3 a held frame of the station, else its queue's front (R437, R441). -/
def classReady (s : State) (c : Fin 4) : Bool :=
  let b := (classAt (refill s c) c).bucket
  match if c.val = 3 then s.ring.heldS.head? else none, (classAt s c).queue with
  | some n, _ => decide (wireBits n ≤ b)
  | none, m :: _ => decide (msgBits m ≤ b)
  | none, [] => false

/-- No class before c has a frame to send: strict priority (R435). -/
def classTurn (s : State) (c : Fin 4) : Bool := (List.finRange 4).all fun d => decide (c.val ≤ d.val) || !classReady s d

/-- What class c sends next: a held frame of the station before the node's own C3, while the bucket holds enough
(R435, R437, R441). -/
def sendNext (s : State) (c : Fin 4) : State :=
  let s1 := refill s c
  let k := classAt s1 c
  match (if c.val = 3 then s1.ring.heldS else []) with
  | b :: bs =>
    if wireBits b ≤ k.bucket then
      putOnRing ({ s1 with ring := { s1.ring with heldS := bs } }.modClass 3 fun k => { k with bucket := k.bucket - wireBits b }) 3
    else s1
  | [] => match k.queue with
    | m :: rest => if msgBits m ≤ k.bucket then sendFront s1 c m rest else s1
    | [] => s1

/-- ORIGINATION_SEND (R418, R429, R435, R437, R438, R441). -/
def execOriginationSend (cls : Fin 4) (s : State) : Host.Outcome State Fault Refusal :=
  doIf (ringUp s && classTurn s cls) s (sendNext (clearWire s) cls)

/-! The book of requesters (R128, R445, R452, R453, R462, R510). -/

/-- The subscriptions, cursors and amendment of a requester's session ended (R128, R453, R454, R510). -/
def endRequester (s : State) (r : Req) : State :=
  let mine (m : BitVec 48) (q : BitVec 16) : Bool := decide (m = r.mac) && decide (q = r.sess)
  let free (k : Cursor) : Cursor := if k.owned && mine k.mac k.sess then { k with owned := false, busy := false } else k
  let s1 : State := { s with
    ring := { s.ring with subs := s.ring.subs.filter fun q => !mine q.mac q.sess }
    linen := { s.linen with cursors := s.linen.cursors.map free } }
  if s1.nor.amend == .open_ && mine s1.nor.ownerMac s1.nor.ownerSess then closeAmend s1 else s1

/-- A request noted: the host's counter, and the station's session, whose change ends what the old one held
(R445, R453, R461, R462). -/
def noteRequester (s : State) (r : Req) : State :=
  let s := noteOwner s r
  let s1 := match (hostOf s r.mac).bind (fin? 16) with
    | some k => { s with ring := { s.ring with hostReqs := vmod s.ring.hostReqs k satInc } }
    | none => s
  let old := s1.ring.stations.find? fun t => t.mac == r.mac
  let s2 := match old with
    | some t => if t.sess = r.sess then s1 else endRequester s1 { mac := r.mac, sess := t.sess }
    | none => s1
  { s2 with ring := { s2.ring with
      stations := { mac := r.mac, sess := r.sess, at_ := now s } :: s2.ring.stations.filter fun t => !(t.mac == r.mac) } }

/-- The reply to a request of one type: its code is the request's with 0x10 (R448). -/
def replyTo (s : State) (q : Rq) (type : BitVec 6) (addr : Word) (count status : BitVec 16) (ws : List Word) : Msg :=
  { cls := 1, type := type + 0x10, src := BitVec.ofNat 8 (nodeNum s)
    dest := match boundNode s q.mac with
      | some n => BitVec.ofNat 8 n
      | none => 0xFE
    tag := q.tag, addr := addr, count := count, status := status, payload := ws, mac := q.mac }

/-- The replies of held requests that have not left (R452). -/
def heldReplies (s : State) : List Msg := (classAt s 1).queue.filter fun m => m.holds

/-- A limit of R452 is reached for this requester. -/
def atLimit (s : State) (mac : BitVec 48) : Bool :=
  let l := heldReplies s
  decide (64 ≤ l.length) || decide (8 ≤ (l.filter fun m => m.mac == mac).length)

/-- The kept request that this one repeats (R452). -/
def repeatOf (s : State) (q : Rq) (type : BitVec 6) : Option Kept := s.ring.kept.find? fun k =>
  k.mac == q.mac && k.sess == q.sess && decide (q.tag ≠ 0) && decide (k.tag = q.tag) && k.type == type && decide (now s < k.at_ + 10000)

/-- The stored reply sent again, unless the first still waits to leave (R452). -/
def resendReply (s : State) (k : Kept) : State := match k.reply with
  | none => s
  | some m => if (heldReplies s).any fun x => decide (x.tag = m.tag) && decide (x.mac = m.mac) && decide (x.type = m.type) then s else enqueue s m

/-- A request carried out with its reply kept: the last 8 of each requester with a TAG (R452). -/
def keepReq (s : State) (q : Rq) (type : BitVec 6) (reply : Option Msg) : State :=
  if q.tag = 0 then s
  else
    let mine := (s.ring.kept.filter fun k => k.mac == q.mac).take 7
    let others := s.ring.kept.filter fun k => !(k.mac == q.mac) && decide (now s < k.at_ + 10000)
    let e : Kept := { mac := q.mac, sess := q.sess, tag := q.tag, type := type, at_ := now s, reply := reply }
    { s with ring := { s.ring with kept := e :: mine ++ others } }

/-- UNSUBSCRIBE has no reply (R448). -/
def hasReply (type : BitVec 6) : Bool := decide (type ≠ 0x04)

/-- A request of one type served: its repeat answered from what is kept; refused with BUSY at the limits; else carried out,
answered and kept (R451, R452). `f` gives the state after the request and its reply: a status and words, or none. -/
def serve (s : State) (q : Rq) (type : BitVec 6) (addr : Word) (count : BitVec 16)
    (f : State → State × Option (BitVec 16 × List Word)) : State :=
  let s := noteRequester s (rqReq q)
  let busy (s : State) : State := if q.noReply || !hasReply type then s else enqueue s (replyTo s q type addr count 1 [])
  match repeatOf s q type with
  | some k => resendReply s k
  | none =>
    if atLimit s q.mac then busy s
    else
      let x := f s
      match x.2 with
      | some (1, _) => busy x.1
      | some (st, ws) =>
        let m := replyTo x.1 q type addr count st ws
        let s1 := keepReq x.1 q type (if q.noReply then none else some m)
        if q.noReply then s1 else enqueue s1 { m with holds := true }
      | none => keepReq x.1 q type none

/-! READ and WRITE (R449, R451, R511, R512). -/

/-- The cursors of which a range of objects holds window words (R511, R518). -/
def windowsIn (addr : Word) (n : Nat) : List (Fin 8) := (List.finRange 8).filter fun c =>
  let lo := 0x70010000 + 0x100 * c.val
  decide (addr.toNat < lo + 0x100 ∧ lo < addr.toNat + n)

/-- The cursors of which a range of objects holds any word (R510, R518). -/
def cursorsIn (addr : Word) (n : Nat) : List (Fin 8) := (List.finRange 8).filter fun c =>
  let lo := 0x70000100 + 0x10 * c.val
  decide (addr.toNat < lo + 0x10 ∧ lo < addr.toNat + n) || decide (c ∈ windowsIn addr n)

/-- The rate of the bucket of window replies in bits a millisecond (R512). -/
def windowRate (s : State) : Nat :=
  min (cfgHistHistoryReadKbps s).toNat (s.canvas.grant.toNat - (vibNeed s + dumpNeed s + 1000 * (cfgRingStationC3Mbps s).toNat))

/-- The bucket of window replies filled up to now (R512). -/
def windowRefill (s : State) : State := s.modLinen fun l =>
  { l with readBucket := min 524288 (l.readBucket + windowRate s * (now s - l.readBucketAt)), readBucketAt := now s }

/-- Bits of a reply of n words on the wire (R437, R443). -/
def replyBits (n : Nat) : Nat := wireBits (max 64 (60 + 4 * n))

/-- A range that holds window words may be read now: no fill runs there, the index is built, and the bucket passes the reply
(R511, R512). -/
def windowOpen (s : State) (addr : Word) (n : Nat) : Bool :=
  let l := windowsIn addr n
  l.isEmpty || (s.linen.indexed && l.all (fun c => !(cursorAt s c).busy) && decide (replyBits n ≤ (windowRefill s).linen.readBucket))

/-- The bucket of window replies after a reply of n words (R512). -/
def windowTake (s : State) (addr : Word) (n : Nat) : State :=
  if (windowsIn addr n).isEmpty then s
  else (windowRefill s).modLinen fun l => { l with readBucket := l.readBucket - replyBits n }

/-- The owner's accesses keep its cursors (R510). -/
def touchCursors (s : State) (r : Req) (addr : Word) (n : Nat) : State :=
  (cursorsIn addr n).foldl (fun s c => if ownsCursor s r c then s.modCursor c fun k => { k with at_ := now s } else s) s

/-- A range of objects within the 32-bit address space, of 1 to 360 words (R449). -/
def spanOk (addr : Word) (n : Nat) : Bool := decide (1 ≤ n ∧ n ≤ 360 ∧ addr.toNat + n ≤ 2 ^ 32)

/-- A message discarded and counted under a cause of R449. -/
def discardMsg (s : State) (cause : Fin 8) : State :=
  { s with ring := { s.ring with causes := vmod s.ring.causes cause satInc } }

/-- The words of a range, or BUSY (R451, R511, R512). -/
def readRange (s : State) (r : Req) (addr : Word) (n : Nat) : State × Option (BitVec 16 × List Word) :=
  if windowOpen s addr n then (touchCursors (windowTake s addr n) r addr n, some (0, readObjs s r addr n)) else (s, some (1, []))

/-- READ (R449, R451, R452). -/
def execBerebRead (q : Rq) (addr : Word) (count : BitVec 16) (s : State) : Host.Outcome State Fault Refusal :=
  doIf (ringUp s) s
    (if spanOk addr count.toNat then serve s q 0x01 addr count fun s => readRange s (rqReq q) addr count.toNat else discardMsg s 3)

/-- WRITE (R449, R451, R452). -/
def execBerebWrite (q : Rq) (addr : Word) (ws : List Word) (s : State) : Host.Outcome State Fault Refusal :=
  doIf (ringUp s) s
    (if spanOk addr ws.length then
       serve s q 0x02 addr (BitVec.ofNat 16 ws.length) fun s => (writeObjs s (rqReq q) addr ws, some (0, []))
     else discardMsg s 3)

/-! Subscriptions (R453). -/

/-- A subscription has this name. -/
def named (q : Rq) (u : Subs) : Bool := u.mac == q.mac && u.sess == q.sess && decide (u.tag = q.tag)

/-- SUBSCRIBE carried out: created or replaced, or BUSY beyond the limits (R453). -/
def subscribe (s : State) (q : Rq) (addr : Word) (n : Nat) (w : Word) : State × Option (BitVec 16 × List Word) :=
  let others := s.ring.subs.filter fun u => !named q u
  let mine := others.filter fun u => u.mac == q.mac && u.sess == q.sess
  if 256 ≤ others.length ∨ 32 ≤ mine.length then (s, some (1, []))
  else
    let x := readRange s (rqReq q) addr n
    match x.2 with
    | some (0, ws) =>
      let lo := bits w 15 0
      let u : Subs := { mac := q.mac, sess := q.sess, tag := q.tag, addr := addr, count := n
                        minMs := if 10 ≤ lo ∧ lo ≤ 60000 then lo else 10, maxMs := 100 * bits w 31 16, last := ws, lastAt := now s }
      (noteShed { x.1 with ring := { x.1.ring with subs := others ++ [u] } }, some (0, ws))
    | r => (x.1, r)

/-- SUBSCRIBE (R449, R452, R453). -/
def execBerebSubscribe (q : Rq) (addr : Word) (count : BitVec 16) (w : Word) (s : State) : Host.Outcome State Fault Refusal :=
  doIf (ringUp s) s
    (if spanOk addr count.toNat then serve s q 0x03 addr count fun s => subscribe s q addr count.toNat w else discardMsg s 3)

/-- UNSUBSCRIBE (R452, R453). -/
def execBerebUnsubscribe (q : Rq) (s : State) : Host.Outcome State Fault Refusal :=
  doIf (ringUp s) s (serve s q 0x04 0 0 fun s =>
    (noteShed { s with ring := { s.ring with subs := s.ring.subs.filter fun u => !named q u } }, none))

/-- A notification of this subscription waits to leave. -/
def notePending (s : State) (u : Subs) : Bool :=
  (classAt s 1).queue.any fun m => m.notify && m.mac == u.mac && decide (m.tag = u.tag)

/-- One subscription checked: a change after MIN_INTERVAL, or MAX_INTERVAL without a report (R453, R512). -/
def checkSub (s : State) (u : Subs) : State :=
  let ws := readObjs s { mac := u.mac, sess := u.sess } u.addr u.count
  let changed := ws != u.last && decide (u.lastAt + u.minMs ≤ now s)
  let due := decide (u.maxMs ≠ 0) && decide (u.lastAt + u.maxMs ≤ now s)
  if (changed || due) && !notePending s u && windowOpen s u.addr u.count then
    let q : Rq := { mac := u.mac, sess := u.sess, tag := u.tag, noReply := false }
    let s1 := windowTake s u.addr u.count
    enqueue s1 { replyTo s1 q 0x01 u.addr (BitVec.ofNat 16 u.count) 0 ws with notify := true }
  else s

/-- SUBSCRIPTION_CHECK: every 10 ms (R453). -/
def execSubscriptionCheck (s : State) : Host.Outcome State Fault Refusal := doIf (ringUp s) s (s.ring.subs.foldl checkSub s)

/-- SUBSCRIPTION_LAPSE: 60 s without a request of the station in its SESSION (R453). -/
def execSubscriptionLapse (mac : BitVec 48) (s : State) : Host.Outcome State Fault Refusal :=
  let due := match s.ring.stations.find? fun t => t.mac == mac with
    | some t => decide (t.at_ + 60000 ≤ now s)
    | none => false
  doIf (up s && due) s { s with ring := { s.ring with subs := s.ring.subs.filter fun u => !(u.mac == mac) } }

/-! Actions (R454). -/

/-- SNAPSHOT_REQUEST of a node: its snapshots answer it; from any other sender it is ignored (R8, R91, R454). -/
def execSnapshotRequest (q : Rq) (s : State) : Host.Outcome State Fault Refusal :=
  doIf (ringUp s) s (serve s q 0x05 0 0 fun s => match boundNode s q.mac with
    | some n => (sendSnapshot s q.mac n, none)
    | none => (s, none))

/-- The fifteen words of an IDENTIFY reply (R454). -/
def identifyWords (s : State) (mac : BitVec 48) : List Word :=
  [nodeIdWord s, nodeStatusWord s, readySummary s, s.cfg.fwVersion] ++ pws s.cfg.seqInUse ++
    (List.range 8).map (fun i => (cfgIdNodeLabel s).getD i 0) ++ [w32 (levelOf s mac)]

/-- IDENTIFY (R454). -/
def execIdentify (q : Rq) (s : State) : Host.Outcome State Fault Refusal :=
  doIf (ringUp s) s (serve s q 0x05 0 0 fun s => (s, some (0, identifyWords s q.mac)))

/-- END_SESSION (R128, R454, R510). -/
def execEndSession (q : Rq) (s : State) : Host.Outcome State Fault Refusal :=
  doIf (ringUp s) s (serve s q 0x05 0 0 fun s => (endRequester s (rqReq q), some (0, [])))

/-- An ACTION of another code: ignored and answered (R454). -/
def otherAction (s : State) (q : Rq) : State := serve s q 0x05 0 0 fun s => (s, some (0, []))

/-! EVENT (R455). -/

/-- A subscription covers EVENT_FEED. -/
def feedsEvents (u : Subs) : Bool := decide (u.addr.toNat ≤ 0x60000002 ∧ 0x60000002 < u.addr.toNat + u.count)

/-- The payload of one EVENT (R455). -/
def eventWords (part : List (Word × Rec)) (gap : Bool) : List Word :=
  let w0 := at' 24 1 ||| at' 16 part.length ||| flag 15 gap
  [w0, ~~~w0, (part.head?.map Prod.fst).getD 0, 0] ++ part.flatMap fun e => recWords e.1 e.2

/-- Parts of up to 22 records (R455). -/
def eventParts : Nat → List (Word × Rec) → List (List (Word × Rec))
  | 0, _ => []
  | _, [] => []
  | n + 1, l => l.take 22 :: eventParts n (l.drop 22)

/-- One EVENT to every station subscribed to EVENT_FEED; GAP where records were skipped since its previous one (R455). -/
def sendEvent (s : State) (part : List (Word × Rec)) : State :=
  let gapOf (m : BitVec 48) : Bool := s.ring.subs.any fun u => feedsEvents u && u.mac == m && u.gap
  let s1 := (subscribers s 0x60000002).foldl (fun s m => sendTo s m 0xFE 1 0x22 (eventWords part (gapOf m))) s
  { s1 with ring := { s1.ring with subs := s1.ring.subs.map fun u => if feedsEvents u then { u with gap := false } else u } }

/-- The waiting class E records sent, or skipped where the C1 origination queue holds more than 4 MiB (R455). -/
def sendEvents (s : State) : State :=
  let l := s.linen.events
  let s1 := s.modLinen fun k => { k with events := [] }
  if 4194304 < originBytes s 1 then
    { s1 with ring := { s1.ring with subs := s1.ring.subs.map fun u => if feedsEvents u then { u with gap := true } else u } }
  else (eventParts l.length l).foldl sendEvent s1

/-- EVENT (R455). -/
def execEventSend (s : State) : Host.Outcome State Fault Refusal := doIf (ringUp s && !s.linen.events.isEmpty) s (sendEvents s)

end Sys2Proof.Machine
end

