-- ==== Sys2Proof/Machine/Receive.lean ====
section
/-! DEFINITION. Bereb reception: the checks of R449, the order of broadcasts (R457), and the handler of each message type. -/

namespace Sys2Proof.Machine
open Sys2Proof

/-! The frame (R443, R444). -/

/-- The message that the words of a frame lay out, header and payload (R443, R444). -/
def parseMsg (mac : BitVec 48) (ws : List Word) : Msg :=
  let g (i : Nat) : Word := ws.getD i 0
  { cls := (g 0).extractLsb' 26 2, type := (g 0).extractLsb' 20 6, noReply := bit (g 0) 19, notify := bit (g 0) 18
    src := (g 1).extractLsb' 24 8, dest := (g 1).extractLsb' 16 8, session := (g 1).extractLsb' 0 16, seq := g 2, tag := g 3
    addr := g 4, count := (g 5).extractLsb' 16 16, status := (g 5).extractLsb' 0 16
    payload := (ws.drop 8).take (bits (g 0) 15 0 / 4), mac := mac }

/-- A request type (R448). -/
def isRequest (t : BitVec 6) : Bool := decide (1 ≤ t.toNat ∧ t.toNat ≤ 5)

/-- A reply type (R448). -/
def isReply (t : BitVec 6) : Bool := decide (0x11 ≤ t.toNat ∧ t.toNat ≤ 0x15)

/-- The message check: CRC-32C over the header and the payload (R443). -/
def crcOk (ws : List Word) (len : Nat) : Bool :=
  let bs := wordBytes ws
  let at_ (i : Nat) : BitVec 8 := bs.getD (32 + len + i) 0
  crc32c (bs.take (32 + len)) == at_ 0 ++ at_ 1 ++ at_ 2 ++ at_ 3

/-- The LENGTH conditions beside the one that locates the check word (R449). -/
def lengthOk (m : Msg) (len : Nat) : Bool :=
  let n := m.count.toNat
  let t := m.type.toNat
  decide (len % 4 = 0) &&
  (!(decide (t = 1) || decide (t = 3)) || decide (1 ≤ n ∧ n ≤ 360)) &&
  (!decide (t = 3) || decide (len = 4)) &&
  (!decide (t = 2) || decide (len = 4 * n)) &&
  (!decide (1 ≤ t ∧ t ≤ 3) || decide (m.addr.toNat + n ≤ 2 ^ 32))

/-- The SOURCE condition: requests may come from any station or node; all else from a node whose number is bound to the
sender, a HEARTBEAT also binding a number that is not (R125, R447, R449). -/
def sourceOk (s : State) (m : Msg) : Bool :=
  let n := m.src.toNat
  if isRequest m.type then decide (n < 64) || decide (n = 0xFE)
  else decide (n < 64) && match tget s.ring.bindings n with
    | some x => x == m.mac
    | none => decide (m.type = 0x2B)

/-- A request that may go to 0xFF: SNAPSHOT_REQUEST or IDENTIFY (R449). -/
def broadcastAction (m : Msg) : Bool :=
  decide (m.type = 0x05) && (let c := bits (m.payload.headD 0) 31 16; decide (c = 1 ∨ c = 2))

/-- The DEST condition (R449). -/
def destOk (s : State) (m : Msg) : Bool :=
  decide (m.dest.toNat = nodeNum s) || (decide (m.dest = 0xFF) && (!isRequest m.type || broadcastAction m))

/-- The OTHER condition (R449). -/
def otherOk (s : State) (m : Msg) : Bool :=
  if isRequest m.type then decide (m.status = 0)
  else if isReply m.type then s.ring.outstanding.any fun o => decide (o.1 = m.tag) && decide (o.2 = m.type)
  else true

/-- The first cause of R449 for which the message is discarded, in the order of the table. -/
def discardCause (s : State) (mac : BitVec 48) (ws : List Word) : Option (Fin 8) :=
  let g (i : Nat) : Word := ws.getD i 0
  let len := bits (g 0) 15 0
  let m := parseMsg mac ws
  if g 6 ≠ ~~~(g 0) ∨ g 7 ≠ ~~~(g 1) then some 0
  else if 1440 < len ∨ 4 * ws.length < 36 + len then some 3
  else if !crcOk ws len then some 1
  else if bits (g 0) 31 28 ≠ 1 ∨ bits (g 0) 17 16 ≠ 0 then some 2
  else if !lengthOk m len then some 3
  else if typeClass m.type.toNat ≠ some m.cls.toNat then some 4
  else if !sourceOk s m then some 5
  else if !destOk s m then some 6
  else if !otherOk s m then some 7
  else none

/-! Handlers (R448). -/

/-- An ACTION whose pair checks (R454). -/
def takeAction (s : State) (q : Rq) (ws : List Word) : State :=
  let w := ws.getD 0 0
  if ws.length ≠ 2 ∨ ws.getD 1 0 ≠ ~~~w then s
  else match bits w 31 16 with
    | 1 => after (execSnapshotRequest q s) s
    | 2 => after (execIdentify q s) s
    | 3 => after (execEndSession q s) s
    | _ => otherAction s q

/-- A request passed to its handler (R451 to R454). -/
def takeRequest (s : State) (m : Msg) : State :=
  let q : Rq := { mac := m.mac, sess := m.session, tag := m.tag, noReply := m.noReply }
  match m.type.toNat with
  | 1 => after (execBerebRead q m.addr m.count s) s
  | 2 => after (execBerebWrite q m.addr m.payload s) s
  | 3 => after (execBerebSubscribe q m.addr m.count (m.payload.headD 0) s) s
  | 4 => after (execBerebUnsubscribe q s) s
  | _ => takeAction s q m.payload

/-- PLACEMENT of a node: its pairs checked (R60, R419, R546). -/
def takePlacement (s : State) (ws : List Word) : State :=
  let bad := ((List.range 18).map fun i => Pair.mk (ws.getD (2 * i) 0) (ws.getD (2 * i + 1) 0)).filter fun p => !p.ok
  if bad.isEmpty then s else pairFail s 7 (subj s 1 0x06) bad

/-- A message of node n passed to its handler (R448); REPLICA_DELTA moves its own expected SEQUENCE. -/
def takeMsg (s : State) (n : Fin 64) (m : Msg) : State := match m.type.toNat with
  | 0x21 => after (execAlarmReceive n m.payload s) s
  | 0x23 =>
    if bits (m.payload.headD 0) 31 24 = 1 then after (execCallStateReceive n m.payload s) s
    else after (execCallRequestReceive n m.payload s) s
  | 0x25 => takePlacement s m.payload
  | 0x26 => after (execDutyReceive n m.payload s) s
  | 0x29 => after (execReplicaDeltaReceive n m.seq m.payload s) s
  | 0x2A => after (execReplicaSnapshotReceive n m.payload s) s
  | 0x2B => after (execHeartbeatReceive m.mac m.src m.payload s) s
  | _ => s

/-! The order of broadcasts (R446, R457). -/

/-- A broadcast delivered: its SEQUENCE noted and its handler run. -/
def handOver (s : State) (n : Fin 64) (m : Msg) : State :=
  if m.type = 0x29 then takeMsg s n m else takeMsg (noteSeq s n.val m.cls.toNat m.seq).1 n m

/-- A held message in its place by SEQUENCE, `base` being the expected one. -/
def insertHeld (base : Word) (m : Msg) : List Msg → List Msg
  | [] => [m]
  | x :: t => if (m.seq - base).toNat < (x.seq - base).toNat then m :: x :: t else x :: insertHeld base m t

/-- What is held of a source and class. -/
def heldOf (s : State) (n : Fin 64) (c : Nat) : List Msg := (tgetD s.ring.expects (expectKey n.val c) {}).heldMsgs

/-- The state with what is held of a source and class set. -/
def setHeld (s : State) (n : Fin 64) (c : Nat) (l : List Msg) : State :=
  { s with ring := { s.ring with expects := tmod s.ring.expects (expectKey n.val c) fun e => { e with heldMsgs := l } } }

/-- Every held message delivered in SEQUENCE order; what is still missing is a gap (R457). -/
def flushHeld (s : State) (n : Fin 64) (c : Nat) : State :=
  let l := heldOf s n c
  l.foldl (fun s m => handOver s n m) (setHeld s n c [])

/-- The held messages that have become the expected ones delivered (R457). -/
def drainHeld (n : Fin 64) (c : Nat) : Nat → State → State
  | 0, s => s
  | k + 1, s => match heldOf s n c, tget s.ring.expects (expectKey n.val c) with
    | m :: rest, some e => if m.seq = e.next then drainHeld n c k (handOver (setHeld s n c rest) n m) else s
    | _, _ => s

/-- A broadcast that advances its SEQUENCE: in order, held up to 8 ahead, or behind (R457). -/
def inOrder (s : State) (n : Fin 64) (m : Msg) : State :=
  let c := m.cls.toNat
  match tget s.ring.expects (expectKey n.val c) with
  | none => handOver s n m
  | some e =>
    let ahead := (m.seq - e.next).toNat
    if ahead = 0 then drainHeld n c 8 (handOver s n m)
    else if ahead ≤ 8 then setHeld s n c (insertHeld e.next m e.heldMsgs)
    else if 2 ^ 31 ≤ ahead then handOver s n m
    else handOver (flushHeld s n c) n m

/-- The SESSION of a node's message; a change is a restart of the node (R445). -/
def noteSession (s : State) (n : Nat) (sess : BitVec 16) : State :=
  if n = nodeNum s then s
  else
    let s1 := match (peerAt s n).session with
      | some x => if x = sess then s else peerRestarted s n
      | none => s
    s1.modPeer n fun p => { p with session := some sess }

/-- A message of a node (R445, R446, R449, R457). -/
def takeFromNode (s : State) (n : Fin 64) (m : Msg) : State :=
  let s1 := noteSession s n.val m.session
  if isReply m.type then
    { s1 with ring := { s1.ring with outstanding := s1.ring.outstanding.filter fun o => !(decide (o.1 = m.tag) && decide (o.2 = m.type)) } }
  else if advancesSeq m && decide (n.val ≠ nodeNum s) then inOrder s1 n m
  else takeMsg s1 n m

/-- A message that passes the checks (R448). -/
def takeChecked (s : State) (m : Msg) : State :=
  if isRequest m.type then
    match (if h : m.src.toNat < 64 then some (⟨m.src.toNat, h⟩ : Fin 64) else none) with
    | some n =>
      if boundNode s m.mac = some n.val then
        let s1 := noteSession s n.val m.session
        takeRequest (if advancesSeq m then (noteSeq s1 n.val 1 m.seq).1 else s1) m
      else takeRequest s m
    | none => takeRequest s m
  else if h : m.src.toNat < 64 then takeFromNode s ⟨m.src.toNat, h⟩ m
  else s

/-- The receive queue a message came from, with its frame taken out (R434, R439). -/
def takeOut (s : State) (m : Msg) (words : Nat) : State :=
  s.modClass (frameClass false (.bereb m.cls m.type)) fun k => { k with rxBytes := k.rxBytes - max 64 (24 + 4 * words) }

/-- A discarded message: counted; a header pair that fails counts at its consumer; a HEARTBEAT that clashes raises
NODE_CLASH (R60, R447, R449, R546). -/
def dropMsg (s : State) (m : Msg) (ws : List Word) (c : Fin 8) : State :=
  let g (i : Nat) : Word := ws.getD i 0
  let s1 := discardMsg s c
  if c = 0 then pairFail s1 4 (subj s 1 0x06) ([⟨g 0, g 6⟩, ⟨g 1, g 7⟩].filter fun p : Pair => !p.ok)
  else if c = 5 ∧ m.type = 0x2B then after (execHeartbeatReceive m.mac m.src m.payload s1) s1
  else s1

/-- A message taken from its receive queue, checked, then discarded or passed to its handler (R449). -/
def receiveMsg (s : State) (mac : BitVec 48) (ws : List Word) : State :=
  let m := parseMsg mac ws
  let s1 := takeOut s m ws.length
  match discardCause s mac ws with
  | some c => dropMsg s1 m ws c
  | none => takeChecked s1 m

/-- BEREB_RECEIVE (R443 to R449, R457). -/
def execBerebReceive (mac : BitVec 48) (ws : List Word) (s : State) : Host.Outcome State Fault Refusal :=
  doIf (ringUp s) s (receiveMsg s mac ws)

/-- SEQUENCE_HOLD_EXPIRY: 2 ms after a broadcast was held (R457). -/
def execSequenceHoldExpiry (src : Fin 64) (cls : Fin 4) (s : State) : Host.Outcome State Fault Refusal :=
  doIf (ringUp s && !(heldOf s src cls.val).isEmpty) s (flushHeld s src cls.val)

end Sys2Proof.Machine
end

