-- ==== Sys2Proof/Machine/Dispatch.lean ====
section
/-! DEFINITION. The dispatch of the commands to their meanings, one arm per command. -/

namespace Sys2Proof.Machine
open Sys2Proof

/-- What a command does to everything but the queue. -/
def exec (i : Instr) (s : State) : Host.Outcome State Fault Refusal :=
  match i with
  | .pornRelease norMib => Sys2Proof.Machine.execPornRelease norMib s
  | .logicResetAssert cause cut => Sys2Proof.Machine.execLogicResetAssert cause cut s
  | .norReadPhaseComplete phase => Sys2Proof.Machine.execNorReadPhaseComplete phase s
  | .functionReady fn idx => Sys2Proof.Machine.execFunctionReady fn idx s
  | .readyDeadlineExpiry => Sys2Proof.Machine.execReadyDeadlineExpiry s
  | .membershipListenEnd => Sys2Proof.Machine.execMembershipListenEnd s
  | .snapshotAnswerTimeout peer => Sys2Proof.Machine.execSnapshotAnswerTimeout peer s
  | .fieldDieStart => Sys2Proof.Machine.execFieldDieStart s
  | .fieldDieRestartDetected => Sys2Proof.Machine.execFieldDieRestartDetected s
  | .fieldDieStop => Sys2Proof.Machine.execFieldDieStop s
  | .vfldThresholdCross mv => Sys2Proof.Machine.execVfldThresholdCross mv s
  | .vfldRestore mv => Sys2Proof.Machine.execVfldRestore mv s
  | .quadPowerOn q => Sys2Proof.Machine.execQuadPowerOn q s
  | .quadSelfCheckComplete q pass => Sys2Proof.Machine.execQuadSelfCheckComplete q pass s
  | .quadWake q => Sys2Proof.Machine.execQuadWake q s
  | .quadIdleSleep q tick => Sys2Proof.Machine.execQuadIdleSleep q tick s
  | .quadFaultReset q => Sys2Proof.Machine.execQuadFaultReset q s
  | .quadReplyTimeout id => Sys2Proof.Machine.execQuadReplyTimeout id s
  | .quadIsolate q => Sys2Proof.Machine.execQuadIsolate q s
  | .quadRetryInterval q => Sys2Proof.Machine.execQuadRetryInterval q s
  | .fabricRequest src tgt wr count addr accept => Sys2Proof.Machine.execFabricRequest src tgt wr count addr accept s
  | .fabricReplyDelivery id => Sys2Proof.Machine.execFabricReplyDelivery id s
  | .fabricParityError src tgt addr => Sys2Proof.Machine.execFabricParityError src tgt addr s
  | .memoryEccError mem addr correctable => Sys2Proof.Machine.execMemoryEccError mem addr correctable s
  | .scrubPass mem => Sys2Proof.Machine.execScrubPass mem s
  | .gauzeSlotDue k tick upsetA upsetB => Sys2Proof.Machine.execGauzeSlotDue k tick upsetA upsetB s
  | .gauzeBackstopWake => Sys2Proof.Machine.execGauzeBackstopWake s
  | .linkFrameReceive crcOk ch upSample upDiag doMa doMv diUa => Sys2Proof.Machine.execLinkFrameReceive crcOk ch upSample upDiag doMa doMv diUa s
  | .linkHeartbeatSend => Sys2Proof.Machine.execLinkHeartbeatSend s
  | .feltFrameReceive crcOk out upCmd upSafe => Sys2Proof.Machine.execFeltFrameReceive crcOk out upCmd upSafe s
  | .feltTimeout out => Sys2Proof.Machine.execFeltTimeout out s
  | .safeStateRewrite => Sys2Proof.Machine.execSafeStateRewrite s
  | .engineClockStepChange e => Sys2Proof.Machine.execEngineClockStepChange e s
  | .powerLevelWrite r w => Sys2Proof.Machine.execPowerLevelWrite r w s
  | .powerLevelChange => Sys2Proof.Machine.execPowerLevelChange s
  | .pointEvaluation p ev => Sys2Proof.Machine.execPointEvaluation p ev s
  | .delayExpiry p cond ev => Sys2Proof.Machine.execDelayExpiry p cond ev s
  | .releaseDelayExpiry p ev => Sys2Proof.Machine.execReleaseDelayExpiry p ev s
  | .suppressHoldExpiry p ev => Sys2Proof.Machine.execSuppressHoldExpiry p ev s
  | .shelveExpiry p => Sys2Proof.Machine.execShelveExpiry p s
  | .heldActionDiscard p => Sys2Proof.Machine.execHeldActionDiscard p s
  | .adaptEstimate p bUpset => Sys2Proof.Machine.execAdaptEstimate p bUpset s
  | .shadowExecution task ups => Sys2Proof.Machine.execShadowExecution task ups s
  | .thirdRun task ups => Sys2Proof.Machine.execThirdRun task ups s
  | .converterSample ch m => Sys2Proof.Machine.execConverterSample ch m s
  | .settlingEnd di ch => Sys2Proof.Machine.execSettlingEnd di ch s
  | .tcOpenTest ch ohms => Sys2Proof.Machine.execTcOpenTest ch ohms s
  | .spareVisitPhaseEnd refs diffs ppm => Sys2Proof.Machine.execSpareVisitPhaseEnd refs diffs ppm s
  | .refDeviationRecord => Sys2Proof.Machine.execRefDeviationRecord s
  | .trimZero r ch => Sys2Proof.Machine.execTrimZero r ch s
  | .trimSpan r ch => Sys2Proof.Machine.execTrimSpan r ch s
  | .trimClear r ch => Sys2Proof.Machine.execTrimClear r ch s
  | .trimCaptureEnd ch bUpset => Sys2Proof.Machine.execTrimCaptureEnd ch bUpset s
  | .trimButtonRelease ch span => Sys2Proof.Machine.execTrimButtonRelease ch span s
  | .restoreEnergy r port selfTest => Sys2Proof.Machine.execRestoreEnergy r port selfTest s
  | .hartRediscover r c => Sys2Proof.Machine.execHartRediscover r c s
  | .hartTransactionStart c => Sys2Proof.Machine.execHartTransactionStart c s
  | .hartTransactionEnd c resp other => Sys2Proof.Machine.execHartTransactionEnd c resp other s
  | .hartModemSelfTest k pass => Sys2Proof.Machine.execHartModemSelfTest k pass s
  | .otherMasterClear c => Sys2Proof.Machine.execOtherMasterClear c s
  | .detectorTrip port cause => Sys2Proof.Machine.execDetectorTrip port cause s
  | .probeStart port => Sys2Proof.Machine.execProbeStart port s
  | .probeComplete port ua mv pf switchOk => Sys2Proof.Machine.execProbeComplete port ua mv pf switchOk s
  | .rampComplete port => Sys2Proof.Machine.execRampComplete port s
  | .sparkSelfTest port pass => Sys2Proof.Machine.execSparkSelfTest port pass s
  | .foldbackEntry port => Sys2Proof.Machine.execFoldbackEntry port s
  | .foldbackRetryStart port => Sys2Proof.Machine.execFoldbackRetryStart port s
  | .foldbackRetryEnd port heldCond => Sys2Proof.Machine.execFoldbackRetryEnd port heldCond s
  | .loopSupplyAdjust port termMv ua headMv => Sys2Proof.Machine.execLoopSupplyAdjust port termMv ua headMv s
  | .waveformSampleWrite ch tick volts upset lost => Sys2Proof.Machine.execWaveformSampleWrite ch tick volts upset lost s
  | .frequencyEdge ch tick level held => Sys2Proof.Machine.execFrequencyEdge ch tick level held s
  | .triggerCapture ch => Sys2Proof.Machine.execTriggerCapture ch s
  | .captureNow r ch => Sys2Proof.Machine.execCaptureNow r ch s
  | .scheduledCapture ch => Sys2Proof.Machine.execScheduledCapture ch s
  | .captureWindowClose ch => Sys2Proof.Machine.execCaptureWindowClose ch s
  | .cancelPending r ch => Sys2Proof.Machine.execCancelPending r ch s
  | .resendId r ch id => Sys2Proof.Machine.execResendId r ch id s
  | .waveform => Sys2Proof.Machine.execWaveform s
  | .featureUpdate ch k => Sys2Proof.Machine.execFeatureUpdate ch k s
  | .featureStaleTimeout ch k => Sys2Proof.Machine.execFeatureStaleTimeout ch k s
  | .aoReadbackSample n ma volts atCap upset => Sys2Proof.Machine.execAoReadbackSample n ma volts atCap upset s
  | .manualOn r out => Sys2Proof.Machine.execManualOn r out s
  | .manualOff r out => Sys2Proof.Machine.execManualOff r out s
  | .manualValueWrite r out v => Sys2Proof.Machine.execManualValueWrite r out v s
  | .manualTimeout out => Sys2Proof.Machine.execManualTimeout out s
  | .openTestPulse n ma atCap => Sys2Proof.Machine.execOpenTestPulse n ma atCap s
  | .safenChange low stood => Sys2Proof.Machine.execSafenChange low stood s
  | .diFilterTransition n raw tick => Sys2Proof.Machine.execDiFilterTransition n raw tick s
  | .diLineOpen n isOpen => Sys2Proof.Machine.execDiLineOpen n isOpen s
  | .totalPreset r n v => Sys2Proof.Machine.execTotalPreset r n v s
  | .totalPresetApply n edge => Sys2Proof.Machine.execTotalPresetApply n edge s
  | .clearWrap r n edge => Sys2Proof.Machine.execClearWrap r n edge s
  | .totalBackupWrite => Sys2Proof.Machine.execTotalBackupWrite s
  | .doPatternEdge tick => Sys2Proof.Machine.execDoPatternEdge tick s
  | .doThermalCutoff n => Sys2Proof.Machine.execDoThermalCutoff n s
  | .doThermalRestart n => Sys2Proof.Machine.execDoThermalRestart n s
  | .resetLatch r n => Sys2Proof.Machine.execResetLatch r n s
  | .doGroupShed ma => Sys2Proof.Machine.execDoGroupShed ma s
  | .doShedRestart => Sys2Proof.Machine.execDoShedRestart s
  | .doOffTest n extMv testMv => Sys2Proof.Machine.execDoOffTest n extMv testMv s
  | .doOpenLoadDetect n => Sys2Proof.Machine.execDoOpenLoadDetect n s
  | .doReverseBlock n above => Sys2Proof.Machine.execDoReverseBlock n above s
  | .doStaggeredRestart => Sys2Proof.Machine.execDoStaggeredRestart s
  | .setpointWrite r p v => Sys2Proof.Machine.execSetpointWrite r p v s
  | .replicaDeltaSend => Sys2Proof.Machine.execReplicaDeltaSend s
  | .replicaRefresh p => Sys2Proof.Machine.execReplicaRefresh p s
  | .replicaDeltaReceive src seq payload => Sys2Proof.Machine.execReplicaDeltaReceive src seq payload s
  | .replicaSnapshotReceive src payload => Sys2Proof.Machine.execReplicaSnapshotReceive src payload s
  | .replicaStaleTimeout p => Sys2Proof.Machine.execReplicaStaleTimeout p s
  | .alarmReceive src payload => Sys2Proof.Machine.execAlarmReceive src payload s
  | .ack r p seq ev => Sys2Proof.Machine.execAck r p seq ev s
  | .shelve r p minutes ev => Sys2Proof.Machine.execShelve r p minutes ev s
  | .unshelve r p ev => Sys2Proof.Machine.execUnshelve r p ev s
  | .oosOn r p ev => Sys2Proof.Machine.execOosOn r p ev s
  | .oosOff r p ev => Sys2Proof.Machine.execOosOff r p ev s
  | .adaptRestart r p ev => Sys2Proof.Machine.execAdaptRestart r p ev s
  | .sysAck r code seq => Sys2Proof.Machine.execSysAck r code seq s
  | .ackAll r g => Sys2Proof.Machine.execAckAll r g s
  | .damaskClear r g => Sys2Proof.Machine.execDamaskClear r g s
  | .systemConditionChange code on => Sys2Proof.Machine.execSystemConditionChange code on s
  | .systemConditionClearTimer code => Sys2Proof.Machine.execSystemConditionClearTimer code s
  | .damaskObservation p root => Sys2Proof.Machine.execDamaskObservation p root s
  | .damaskCheckpoint => Sys2Proof.Machine.execDamaskCheckpoint s
  | .callDutyStep => Sys2Proof.Machine.execCallDutyStep s
  | .toManned src => Sys2Proof.Machine.execToManned src s
  | .toUms src => Sys2Proof.Machine.execToUms src s
  | .acceptUms src => Sys2Proof.Machine.execAcceptUms src s
  | .setDuty src eng => Sys2Proof.Machine.execSetDuty src eng s
  | .acceptDuty src => Sys2Proof.Machine.execAcceptDuty src s
  | .rotaOn src eng => Sys2Proof.Machine.execRotaOn src eng s
  | .rotaOff src eng => Sys2Proof.Machine.execRotaOff src eng s
  | .callAccept src callId => Sys2Proof.Machine.execCallAccept src callId s
  | .engAlarm src => Sys2Proof.Machine.execEngAlarm src s
  | .engAlarmReset src => Sys2Proof.Machine.execEngAlarmReset src s
  | .deadmanStart src => Sys2Proof.Machine.execDeadmanStart src s
  | .deadmanReset src => Sys2Proof.Machine.execDeadmanReset src s
  | .deadmanStop src => Sys2Proof.Machine.execDeadmanStop src s
  | .acceptTimeExpiry => Sys2Proof.Machine.execAcceptTimeExpiry s
  | .backupTimeExpiry => Sys2Proof.Machine.execBackupTimeExpiry s
  | .attendTimeExpiry => Sys2Proof.Machine.execAttendTimeExpiry s
  | .handoverTimeout => Sys2Proof.Machine.execHandoverTimeout s
  | .deadmanPrewarn => Sys2Proof.Machine.execDeadmanPrewarn s
  | .deadmanExpiry => Sys2Proof.Machine.execDeadmanExpiry s
  | .mannedEscalateExpiry => Sys2Proof.Machine.execMannedEscalateExpiry s
  | .callStatePeriodic => Sys2Proof.Machine.execCallStatePeriodic s
  | .callStateReceive src payload => Sys2Proof.Machine.execCallStateReceive src payload s
  | .callRequestReceive src payload => Sys2Proof.Machine.execCallRequestReceive src payload s
  | .callPathTimeout => Sys2Proof.Machine.execCallPathTimeout s
  | .panelAckFrame c panel ws => Sys2Proof.Machine.execPanelAckFrame c panel ws s
  | .panelSilenceFrame c panel ws => Sys2Proof.Machine.execPanelSilenceFrame c panel ws s
  | .panelRequestFrame c panel code ws => Sys2Proof.Machine.execPanelRequestFrame c panel code ws s
  | .panelHeartbeat c panel ws => Sys2Proof.Machine.execPanelHeartbeat c panel ws s
  | .panelLostTimeout c panel => Sys2Proof.Machine.execPanelLostTimeout c panel s
  | .panelCommandPeriodic => Sys2Proof.Machine.execPanelCommandPeriodic s
  | .panelAlarmRepeat => Sys2Proof.Machine.execPanelAlarmRepeat s
  | .placementRound late differ badPair => Sys2Proof.Machine.execPlacementRound late differ badPair s
  | .taskHandover task => Sys2Proof.Machine.execTaskHandover task s
  | .drainOff r q => Sys2Proof.Machine.execDrainOff r q s
  | .resume r q => Sys2Proof.Machine.execResume r q s
  | .drainComplete q => Sys2Proof.Machine.execDrainComplete q s
  | .updateLoaded q => Sys2Proof.Machine.execUpdateLoaded q s
  | .quadRetry r q => Sys2Proof.Machine.execQuadRetry r q s
  | .engineRetry r e => Sys2Proof.Machine.execEngineRetry r e s
  | .rebalance r => Sys2Proof.Machine.execRebalance r s
  | .rotateNow r => Sys2Proof.Machine.execRotateNow r s
  | .forgetNode r n => Sys2Proof.Machine.execForgetNode r n s
  | .spareRotation => Sys2Proof.Machine.execSpareRotation s
  | .wearRead e hz tj => Sys2Proof.Machine.execWearRead e hz tj s
  | .fwBegin r => Sys2Proof.Machine.execFwBegin r s
  | .fwWindowWrite r idx ws => Sys2Proof.Machine.execFwWindowWrite r idx ws s
  | .fwCommit r => Sys2Proof.Machine.execFwCommit r s
  | .fwCancel r => Sys2Proof.Machine.execFwCancel r s
  | .fwApply r => Sys2Proof.Machine.execFwApply r s
  | .fwEraseComplete => Sys2Proof.Machine.execFwEraseComplete s
  | .fwVerifyComplete => Sys2Proof.Machine.execFwVerifyComplete s
  | .fwReceiveTimeout => Sys2Proof.Machine.execFwReceiveTimeout s
  | .fwQuadStepComplete => Sys2Proof.Machine.execFwQuadStepComplete s
  | .heartbeatSend => Sys2Proof.Machine.execHeartbeatSend s
  | .heartbeatReceive mac src payload => Sys2Proof.Machine.execHeartbeatReceive mac src payload s
  | .peerAbsentTimeout n => Sys2Proof.Machine.execPeerAbsentTimeout n s
  | .dutySend => Sys2Proof.Machine.execDutySend s
  | .dutyReceive src payload => Sys2Proof.Machine.execDutyReceive src payload s
  | .placementPeriodic => Sys2Proof.Machine.execPlacementPeriodic s
  | .c3GrantCompute => Sys2Proof.Machine.execC3GrantCompute s
  | .portLinkChange p synced negotiated verified speed => Sys2Proof.Machine.execPortLinkChange p synced negotiated verified speed s
  | .ringFrameReceive p f => Sys2Proof.Machine.execRingFrameReceive p f s
  | .stationFrameReceive f => Sys2Proof.Machine.execStationFrameReceive f s
  | .hsrSupervisionSend => Sys2Proof.Machine.execHsrSupervisionSend s
  | .proxyEntryExpiry k => Sys2Proof.Machine.execProxyEntryExpiry k s
  | .ringOpenTimeout => Sys2Proof.Machine.execRingOpenTimeout s
  | .ptpMessageReceive p m => Sys2Proof.Machine.execPtpMessageReceive p m s
  | .ptpPeerDelayMeasure p ns => Sys2Proof.Machine.execPtpPeerDelayMeasure p ns s
  | .ptpAnnounceTimeout => Sys2Proof.Machine.execPtpAnnounceTimeout s
  | .originationSend cls => Sys2Proof.Machine.execOriginationSend cls s
  | .frameBufferEccError cls what src seq => Sys2Proof.Machine.execFrameBufferEccError cls what src seq s
  | .pauseRefresh => Sys2Proof.Machine.execPauseRefresh s
  | .berebReceive mac ws => Sys2Proof.Machine.execBerebReceive mac ws s
  | .berebRead q addr count => Sys2Proof.Machine.execBerebRead q addr count s
  | .berebWrite q addr ws => Sys2Proof.Machine.execBerebWrite q addr ws s
  | .berebSubscribe q addr count w => Sys2Proof.Machine.execBerebSubscribe q addr count w s
  | .berebUnsubscribe q => Sys2Proof.Machine.execBerebUnsubscribe q s
  | .snapshotRequest q => Sys2Proof.Machine.execSnapshotRequest q s
  | .identify q => Sys2Proof.Machine.execIdentify q s
  | .endSession q => Sys2Proof.Machine.execEndSession q s
  | .subscriptionCheck => Sys2Proof.Machine.execSubscriptionCheck s
  | .subscriptionLapse mac => Sys2Proof.Machine.execSubscriptionLapse mac s
  | .sequenceHoldExpiry src cls => Sys2Proof.Machine.execSequenceHoldExpiry src cls s
  | .eventSend => Sys2Proof.Machine.execEventSend s
  | .ringClearCounters r => Sys2Proof.Machine.execRingClearCounters r s
  | .clearPeaks r => Sys2Proof.Machine.execClearPeaks r s
  | .canBusIdleDetect c => Sys2Proof.Machine.execCanBusIdleDetect c s
  | .canNormalEntry c => Sys2Proof.Machine.execCanNormalEntry c s
  | .canBusOff c => Sys2Proof.Machine.execCanBusOff c s
  | .canBusOffRecovery c => Sys2Proof.Machine.execCanBusOffRecovery c s
  | .recoverNow r c => Sys2Proof.Machine.execRecoverNow r c s
  | .canClearCounters r c => Sys2Proof.Machine.execCanClearCounters r c s
  | .canFrameReceive c f => Sys2Proof.Machine.execCanFrameReceive c f s
  | .canRxService c b midRead bUpset => Sys2Proof.Machine.execCanRxService c b midRead bUpset s
  | .bufferLockLapse c b => Sys2Proof.Machine.execBufferLockLapse c b s
  | .txRequest c k f => Sys2Proof.Machine.execTxRequest c k f s
  | .txCancel c k p => Sys2Proof.Machine.execTxCancel c k p s
  | .canTxComplete c k loopDelay => Sys2Proof.Machine.execCanTxComplete c k loopDelay s
  | .canTxError c k e => Sys2Proof.Machine.execCanTxError c k e s
  | .mappedTimeout c e => Sys2Proof.Machine.execMappedTimeout c e s
  | .amendOpen r => Sys2Proof.Machine.execAmendOpen r s
  | .amendApply r => Sys2Proof.Machine.execAmendApply r s
  | .amendAbort r => Sys2Proof.Machine.execAmendAbort r s
  | .amendOpenTimeout => Sys2Proof.Machine.execAmendOpenTimeout s
  | .amendCheckComplete => Sys2Proof.Machine.execAmendCheckComplete s
  | .commitStart => Sys2Proof.Machine.execCommitStart s
  | .norCommitStepComplete readBackOk => Sys2Proof.Machine.execNorCommitStepComplete readBackOk s
  | .imageBegin r => Sys2Proof.Machine.execImageBegin r s
  | .imageWindowWrite r idx ws => Sys2Proof.Machine.execImageWindowWrite r idx ws s
  | .imageCommit r => Sys2Proof.Machine.execImageCommit r s
  | .imageCancel r => Sys2Proof.Machine.execImageCancel r s
  | .imageEraseComplete => Sys2Proof.Machine.execImageEraseComplete s
  | .imageVerifyComplete => Sys2Proof.Machine.execImageVerifyComplete s
  | .imageReceiveTimeout => Sys2Proof.Machine.execImageReceiveTimeout s
  | .nandScanComplete info => Sys2Proof.Machine.execNandScanComplete info s
  | .indexBuildComplete => Sys2Proof.Machine.execIndexBuildComplete s
  | .nandSegmentProgram ok => Sys2Proof.Machine.execNandSegmentProgram ok s
  | .nandBlockRefresh block corrected => Sys2Proof.Machine.execNandBlockRefresh block corrected s
  | .recorderCheckpoint => Sys2Proof.Machine.execRecorderCheckpoint s
  | .recordsDroppedReport => Sys2Proof.Machine.execRecordsDroppedReport s
  | .cursorClaim r c => Sys2Proof.Machine.execCursorClaim r c s
  | .cursorRelease r c => Sys2Proof.Machine.execCursorRelease r c s
  | .cursorIdleTimeout c => Sys2Proof.Machine.execCursorIdleTimeout c s
  | .positionLowWrite r c w => Sys2Proof.Machine.execPositionLowWrite r c w s
  | .cursorAdvance r c => Sys2Proof.Machine.execCursorAdvance r c s
  | .seekOldest r c => Sys2Proof.Machine.execSeekOldest r c s
  | .seekNewest r c => Sys2Proof.Machine.execSeekNewest r c s
  | .windowFillComplete c bad => Sys2Proof.Machine.execWindowFillComplete c bad s
  | .trendSample => Sys2Proof.Machine.execTrendSample s
  | .trendArchive => Sys2Proof.Machine.execTrendArchive s
  | .backupSupplyChangeover toVbat => Sys2Proof.Machine.execBackupSupplyChangeover toVbat s
  | .brownoutLatchSet lost => Sys2Proof.Machine.execBrownoutLatchSet lost s
  | .vbatTest mv => Sys2Proof.Machine.execVbatTest mv s
  | .opMsIncrement => Sys2Proof.Machine.execOpMsIncrement s
  | .rtcRolloverComparison ptpNs => Sys2Proof.Machine.execRtcRolloverComparison ptpNs s
  | .stageWrite r sec sub => Sys2Proof.Machine.execStageWrite r sec sub s
  | .rtcCommit r => Sys2Proof.Machine.execRtcCommit r s
  | .cancelStage r => Sys2Proof.Machine.execCancelStage r s
  | .stageLapse => Sys2Proof.Machine.execStageLapse s
  | .rtcShiftWrite r w => Sys2Proof.Machine.execRtcShiftWrite r w s
  | .shiftComplete => Sys2Proof.Machine.execShiftComplete s
  | .rtcTrimCodeWrite r w => Sys2Proof.Machine.execRtcTrimCodeWrite r w s
  | .autoTrimAdjust => Sys2Proof.Machine.execAutoTrimAdjust s
  | .timePeriodic => Sys2Proof.Machine.execTimePeriodic s
  | .shutdown r => Sys2Proof.Machine.execShutdown r s
  | .pwronOff => Sys2Proof.Machine.execPwronOff s
  | .wakenLow => Sys2Proof.Machine.execWakenLow s
  | .wakeAtMatch => Sys2Proof.Machine.execWakeAtMatch s
  | .samplerWrap k extra src => Sys2Proof.Machine.execSamplerWrap k extra src s
  | .samplerSelectWrite r k w => Sys2Proof.Machine.execSamplerSelectWrite r k w s
  | .countWrite r k ws => Sys2Proof.Machine.execCountWrite r k ws s
  | .clearWraps r => Sys2Proof.Machine.execClearWraps r s
  | .dumpPeriodic => Sys2Proof.Machine.execDumpPeriodic s
  | .dumpNow r => Sys2Proof.Machine.execDumpNow r s
  | .counterDump => Sys2Proof.Machine.execCounterDump s
  | .resendDump r seq => Sys2Proof.Machine.execResendDump r seq s
  | .tapInstruction ins => Sys2Proof.Machine.execTapInstruction ins s
  | .registerWrite r addr ws => Sys2Proof.Machine.execRegisterWrite r addr ws s
  | .doCurrentLimit n isLimiting => Sys2Proof.Machine.execDoCurrentLimit n isLimiting s
  | .canReceiveError c e dataPhase eight => Sys2Proof.Machine.execCanReceiveError c e dataPhase eight s
  | .oscillatorStart => Sys2Proof.Machine.execOscillatorStart s
  | .restartSlowedEnd => Sys2Proof.Machine.execRestartSlowedEnd s

end Sys2Proof.Machine
end

