-- ==== Sys2Proof/Safety.lean ====
section
/-! DEFINITION. The terms the statements are written in: that a command runs, and which parts of the state it may change. -/

namespace Sys2Proof
open Sys2Proof.Machine

/-- The command runs from the state: it answers a next state, and that state has the property. -/
def runs (c : Instr) (s : State) (P : State → Prop) : Prop := ∃ t, exec c s = .next t ∧ P t

/-- The parts of the state, one per field of `State`. -/
inductive Part where
  | pending | clk | sys | pins | cfg | nor | quads | engines | fabric | gauze | power | dram | field | uai | hart | modems | spare | vib | ao | disc | points | alarms | call | panels | canvas | ring | can | nand | linen | bkup | perf
  deriving DecidableEq, Repr

/-- The part is the same in both states. -/
def Part.same (s t : State) : Part → Prop
  | .pending => t.pending = s.pending
  | .clk => t.clk = s.clk
  | .sys => t.sys = s.sys
  | .pins => t.pins = s.pins
  | .cfg => t.cfg = s.cfg
  | .nor => t.nor = s.nor
  | .quads => t.quads = s.quads
  | .engines => t.engines = s.engines
  | .fabric => t.fabric = s.fabric
  | .gauze => t.gauze = s.gauze
  | .power => t.power = s.power
  | .dram => t.dram = s.dram
  | .field => t.field = s.field
  | .uai => t.uai = s.uai
  | .hart => t.hart = s.hart
  | .modems => t.modems = s.modems
  | .spare => t.spare = s.spare
  | .vib => t.vib = s.vib
  | .ao => t.ao = s.ao
  | .disc => t.disc = s.disc
  | .points => t.points = s.points
  | .alarms => t.alarms = s.alarms
  | .call => t.call = s.call
  | .panels => t.panels = s.panels
  | .canvas => t.canvas = s.canvas
  | .ring => t.ring = s.ring
  | .can => t.can = s.can
  | .nand => t.nand = s.nand
  | .linen => t.linen = s.linen
  | .bkup => t.bkup = s.bkup
  | .perf => t.perf = s.perf

/-- Nothing but the listed parts differs. -/
def sameBut (l : List Part) (s t : State) : Prop := ∀ p, p ∉ l → p.same s t

/-- The families of commands, by the chapter of the spec that has their rule. -/
inductive Family where
  | start | field | anatomy | integrity | points | alarms | inputs | vibration | outputs | discrete | canvas | calling | ring | can | config | history | time | counters | access
  deriving DecidableEq, Repr

/-- The parts that sending an announcement or raising a node condition may change: the message queues, the history, the
conditions and what they call for, and FLTn (R24, R100, R312, R437, R489). -/
def announce : List Part := [.pins, .alarms, .call, .panels, .ring, .linen, .perf]

/-- Each command's family, and the parts of the state it may change. -/
def effects : Instr → Family × List Part
  | .pornRelease .. => (.start, announce ++ [.sys, .nor, .disc, .bkup])
  | .logicResetAssert .. => (.start, announce ++ [.sys, .cfg, .nor, .quads, .engines, .fabric, .gauze, .power, .dram, .field, .uai, .hart, .modems, .spare, .vib, .ao, .disc, .points, .canvas, .can, .nand, .bkup])
  | .norReadPhaseComplete .. => (.start, announce ++ [.sys, .cfg, .field, .uai, .spare, .ao, .disc, .points, .canvas, .can, .bkup])
  | .functionReady .. => (.start, announce ++ [.sys, .cfg, .nor, .field, .uai, .spare, .vib, .ao, .disc, .canvas, .nand, .bkup])
  | .readyDeadlineExpiry => (.start, announce ++ [.sys, .nor, .vib, .points, .canvas])
  | .membershipListenEnd => (.start, announce ++ [.sys, .nor, .power, .canvas])
  | .snapshotAnswerTimeout .. => (.start, announce ++ [.sys, .nor, .power, .canvas])
  | .fieldDieStart => (.start, [.pins, .field, .uai, .spare, .ao, .disc, .alarms, .call, .panels, .ring, .linen])
  | .fieldDieRestartDetected => (.start, announce ++ [.sys, .field, .uai, .hart, .modems, .vib, .ao, .disc])
  | .fieldDieStop => (.field, announce ++ [.sys, .field, .uai, .hart, .modems, .spare, .ao, .disc])
  | .vfldThresholdCross .. => (.field, announce ++ [.field, .ao, .disc])
  | .vfldRestore .. => (.field, announce ++ [.field, .uai, .ao, .disc])
  | .quadPowerOn .. => (.anatomy, [.quads])
  | .quadSelfCheckComplete .. => (.anatomy, announce ++ [.nor, .quads, .canvas])
  | .quadWake .. => (.anatomy, [.quads, .gauze])
  | .quadIdleSleep .. => (.anatomy, [.quads, .perf])
  | .quadFaultReset .. => (.anatomy, announce ++ [.quads, .engines, .fabric, .canvas])
  | .quadReplyTimeout .. => (.anatomy, announce ++ [.quads, .engines, .fabric, .canvas])
  | .quadIsolate .. => (.anatomy, [.quads, .engines, .fabric, .canvas, .perf])
  | .quadRetryInterval .. => (.anatomy, [.quads])
  | .fabricRequest .. => (.anatomy, [.quads, .fabric, .dram, .perf])
  | .fabricReplyDelivery .. => (.anatomy, [.quads, .fabric, .dram, .perf])
  | .fabricParityError .. => (.integrity, announce ++ [.quads, .engines, .fabric, .dram, .canvas])
  | .memoryEccError .. => (.integrity, announce ++ [.quads, .engines, .fabric, .dram, .vib, .points, .canvas, .nand])
  | .scrubPass .. => (.integrity, [.quads, .dram, .perf])
  | .gauzeSlotDue .. => (.anatomy, announce ++ [.gauze])
  | .gauzeBackstopWake => (.integrity, [.gauze])
  | .linkFrameReceive .. => (.anatomy, announce ++ [.gauze, .uai, .vib, .disc, .canvas])
  | .linkHeartbeatSend => (.integrity, [.field, .perf])
  | .feltFrameReceive .. => (.integrity, announce ++ [.field, .uai, .spare, .ao, .disc])
  | .feltTimeout .. => (.integrity, [.field, .ao, .disc])
  | .safeStateRewrite => (.integrity, [.field, .ao, .disc])
  | .engineClockStepChange .. => (.anatomy, [.pins, .engines, .power, .alarms, .call, .panels, .ring, .linen])
  | .powerLevelWrite .. => (.anatomy, [.power])
  | .powerLevelChange => (.anatomy, [.pins, .gauze, .power, .vib, .alarms, .call, .panels, .canvas, .ring, .linen])
  | .pointEvaluation .. => (.points, announce ++ [.quads, .gauze, .power, .vib, .ao, .disc, .points, .canvas, .can])
  | .delayExpiry .. => (.alarms, announce ++ [.quads, .gauze, .power, .vib, .ao, .disc, .points, .canvas, .can])
  | .releaseDelayExpiry .. => (.alarms, announce ++ [.quads, .gauze, .power, .vib, .ao, .disc, .points, .canvas, .can])
  | .suppressHoldExpiry .. => (.alarms, announce ++ [.quads, .gauze, .power, .vib, .ao, .disc, .points, .canvas, .can])
  | .shelveExpiry .. => (.alarms, announce ++ [.vib, .points])
  | .heldActionDiscard .. => (.alarms, [.points])
  | .adaptEstimate .. => (.alarms, announce ++ [.points, .canvas])
  | .shadowExecution .. => (.integrity, [.canvas, .perf])
  | .thirdRun .. => (.integrity, announce ++ [.engines, .canvas])
  | .converterSample .. => (.inputs, [.uai])
  | .settlingEnd .. => (.inputs, [.uai, .disc])
  | .tcOpenTest .. => (.inputs, [.uai])
  | .spareVisitPhaseEnd .. => (.inputs, announce ++ [.uai, .spare])
  | .refDeviationRecord => (.inputs, announce ++ [.spare])
  | .trimZero .. => (.inputs, [.uai])
  | .trimSpan .. => (.inputs, [.uai])
  | .trimClear .. => (.inputs, [.cfg, .nor])
  | .trimCaptureEnd .. => (.inputs, announce ++ [.cfg, .nor, .uai])
  | .trimButtonRelease .. => (.inputs, [.cfg, .nor, .uai, .disc])
  | .restoreEnergy .. => (.field, announce ++ [.field, .ao, .disc])
  | .hartRediscover .. => (.inputs, [.hart, .ao, .disc])
  | .hartTransactionStart .. => (.inputs, [.hart, .modems])
  | .hartTransactionEnd .. => (.inputs, announce ++ [.hart, .modems])
  | .hartModemSelfTest .. => (.inputs, [.modems])
  | .otherMasterClear .. => (.inputs, [.hart])
  | .detectorTrip .. => (.field, announce ++ [.gauze, .field, .uai, .ao])
  | .probeStart .. => (.field, announce ++ [.field, .ao])
  | .probeComplete .. => (.field, announce ++ [.field, .ao])
  | .rampComplete .. => (.field, announce ++ [.field, .ao])
  | .sparkSelfTest .. => (.field, announce ++ [.field, .ao])
  | .foldbackEntry .. => (.field, announce ++ [.field, .ao])
  | .foldbackRetryStart .. => (.field, announce ++ [.field, .ao])
  | .foldbackRetryEnd .. => (.field, announce ++ [.field, .ao])
  | .loopSupplyAdjust .. => (.field, [.field])
  | .waveformSampleWrite .. => (.vibration, announce ++ [.dram, .vib, .disc])
  | .frequencyEdge .. => (.vibration, [.dram, .uai, .vib, .disc])
  | .triggerCapture .. => (.vibration, announce ++ [.vib])
  | .captureNow .. => (.vibration, announce ++ [.vib])
  | .scheduledCapture .. => (.vibration, announce ++ [.vib])
  | .captureWindowClose .. => (.vibration, announce ++ [.vib])
  | .cancelPending .. => (.vibration, [.pins, .vib, .alarms, .call, .panels, .ring, .linen])
  | .resendId .. => (.vibration, [.pins, .vib, .alarms, .call, .panels, .ring, .linen])
  | .waveform => (.vibration, [.pins, .vib, .alarms, .call, .panels, .ring, .linen])
  | .featureUpdate .. => (.vibration, [.gauze, .vib])
  | .featureStaleTimeout .. => (.vibration, [.vib])
  | .aoReadbackSample .. => (.outputs, [.ao])
  | .manualOn .. => (.outputs, announce ++ [.ao, .disc])
  | .manualOff .. => (.outputs, announce ++ [.ao, .disc])
  | .manualValueWrite .. => (.outputs, announce ++ [.ao, .disc])
  | .manualTimeout .. => (.outputs, announce ++ [.ao, .disc])
  | .openTestPulse .. => (.outputs, [.ao])
  | .safenChange .. => (.discrete, announce ++ [.ao, .disc])
  | .diFilterTransition .. => (.discrete, [.gauze, .disc])
  | .diLineOpen .. => (.discrete, [.disc])
  | .totalPreset .. => (.discrete, announce ++ [.disc])
  | .totalPresetApply .. => (.discrete, announce ++ [.gauze, .disc])
  | .clearWrap .. => (.discrete, [.gauze, .disc])
  | .totalBackupWrite => (.discrete, [.bkup])
  | .doPatternEdge .. => (.discrete, [.disc])
  | .doThermalCutoff .. => (.discrete, announce ++ [.disc])
  | .doThermalRestart .. => (.discrete, [.disc])
  | .resetLatch .. => (.discrete, [.pins, .ao, .disc, .alarms, .call, .panels, .ring, .linen])
  | .doGroupShed .. => (.discrete, announce ++ [.disc])
  | .doShedRestart => (.discrete, [.disc])
  | .doOffTest .. => (.discrete, [.disc])
  | .doOpenLoadDetect .. => (.discrete, [.disc])
  | .doReverseBlock .. => (.discrete, [.disc])
  | .doStaggeredRestart => (.discrete, [.disc])
  | .setpointWrite .. => (.points, announce ++ [.points])
  | .replicaDeltaSend => (.canvas, [.canvas, .ring])
  | .replicaRefresh .. => (.canvas, [.points, .canvas, .ring])
  | .replicaDeltaReceive .. => (.canvas, announce ++ [.power, .canvas])
  | .replicaSnapshotReceive .. => (.start, announce ++ [.sys, .nor, .power, .canvas])
  | .replicaStaleTimeout .. => (.canvas, [.canvas])
  | .alarmReceive .. => (.alarms, announce ++ [.vib, .points, .canvas])
  | .ack .. => (.alarms, announce ++ [.quads, .gauze, .power, .vib, .ao, .disc, .points, .canvas, .can])
  | .shelve .. => (.alarms, announce ++ [.quads, .gauze, .power, .vib, .ao, .disc, .points, .canvas, .can])
  | .unshelve .. => (.alarms, announce ++ [.quads, .gauze, .power, .vib, .ao, .disc, .points, .canvas, .can])
  | .oosOn .. => (.alarms, announce ++ [.quads, .gauze, .power, .vib, .ao, .disc, .points, .canvas, .can])
  | .oosOff .. => (.alarms, announce ++ [.quads, .gauze, .power, .vib, .ao, .disc, .points, .canvas, .can])
  | .adaptRestart .. => (.alarms, announce ++ [.quads, .gauze, .power, .vib, .ao, .disc, .points, .canvas, .can])
  | .sysAck .. => (.alarms, [.pins, .alarms, .call, .panels, .ring, .linen])
  | .ackAll .. => (.alarms, [.points])
  | .damaskClear .. => (.alarms, [.points])
  | .systemConditionChange .. => (.alarms, [.pins, .alarms, .call, .panels, .ring, .linen])
  | .systemConditionClearTimer .. => (.alarms, [.pins, .alarms, .call, .panels, .canvas, .ring, .linen])
  | .damaskObservation .. => (.alarms, [.points])
  | .damaskCheckpoint => (.alarms, announce)
  | .callDutyStep => (.calling, announce)
  | .toManned .. => (.calling, announce)
  | .toUms .. => (.calling, announce)
  | .acceptUms .. => (.calling, announce)
  | .setDuty .. => (.calling, announce)
  | .acceptDuty .. => (.calling, announce)
  | .rotaOn .. => (.calling, announce)
  | .rotaOff .. => (.calling, announce)
  | .callAccept .. => (.calling, announce)
  | .engAlarm .. => (.calling, announce)
  | .engAlarmReset .. => (.calling, announce)
  | .deadmanStart .. => (.calling, announce)
  | .deadmanReset .. => (.calling, announce)
  | .deadmanStop .. => (.calling, announce)
  | .acceptTimeExpiry => (.calling, announce)
  | .backupTimeExpiry => (.calling, announce)
  | .attendTimeExpiry => (.calling, announce)
  | .handoverTimeout => (.calling, announce)
  | .deadmanPrewarn => (.calling, announce)
  | .deadmanExpiry => (.calling, announce)
  | .mannedEscalateExpiry => (.calling, announce)
  | .callStatePeriodic => (.calling, [.call, .panels, .ring])
  | .callStateReceive .. => (.calling, announce)
  | .callRequestReceive .. => (.calling, announce)
  | .callPathTimeout => (.calling, [.pins, .alarms, .call, .panels, .ring, .linen])
  | .panelAckFrame .. => (.calling, announce ++ [.points])
  | .panelSilenceFrame .. => (.calling, [.panels])
  | .panelRequestFrame .. => (.calling, announce)
  | .panelHeartbeat .. => (.calling, [.pins, .alarms, .call, .panels, .ring, .linen])
  | .panelLostTimeout .. => (.calling, [.pins, .alarms, .call, .panels, .ring, .linen])
  | .panelCommandPeriodic => (.calling, [.panels])
  | .panelAlarmRepeat => (.calling, [.panels])
  | .placementRound .. => (.canvas, announce ++ [.cfg, .quads, .engines, .gauze, .power, .spare, .vib, .points, .canvas, .can])
  | .taskHandover .. => (.canvas, [.canvas])
  | .drainOff .. => (.canvas, [.quads, .canvas])
  | .resume .. => (.canvas, [.quads, .canvas])
  | .drainComplete .. => (.anatomy, [.quads, .engines, .fabric, .canvas, .perf])
  | .updateLoaded .. => (.anatomy, [.quads])
  | .quadRetry .. => (.canvas, [.quads])
  | .engineRetry .. => (.canvas, [.pins, .engines, .alarms, .call, .panels, .canvas, .ring, .linen])
  | .rebalance .. => (.canvas, [.canvas])
  | .rotateNow .. => (.canvas, [.spare, .canvas])
  | .forgetNode .. => (.canvas, [.pins, .alarms, .call, .panels, .canvas, .ring, .linen])
  | .spareRotation => (.canvas, [.spare, .canvas])
  | .wearRead .. => (.canvas, [.pins, .engines, .alarms, .call, .panels, .canvas, .ring, .linen])
  | .fwBegin .. => (.canvas, announce ++ [.nor, .canvas])
  | .fwWindowWrite .. => (.canvas, [.nor, .canvas])
  | .fwCommit .. => (.canvas, announce ++ [.canvas])
  | .fwCancel .. => (.canvas, announce ++ [.nor, .canvas])
  | .fwApply .. => (.canvas, announce ++ [.quads, .canvas])
  | .fwEraseComplete => (.canvas, announce ++ [.canvas])
  | .fwVerifyComplete => (.canvas, announce ++ [.nor, .canvas])
  | .fwReceiveTimeout => (.canvas, announce ++ [.canvas])
  | .fwQuadStepComplete => (.canvas, announce ++ [.quads, .canvas])
  | .heartbeatSend => (.canvas, [.canvas, .ring])
  | .heartbeatReceive .. => (.canvas, [.pins, .alarms, .call, .panels, .canvas, .ring, .linen])
  | .peerAbsentTimeout .. => (.canvas, [.pins, .alarms, .call, .panels, .canvas, .ring, .linen])
  | .dutySend => (.canvas, [.ring])
  | .dutyReceive .. => (.canvas, announce ++ [.cfg, .points, .canvas, .can])
  | .placementPeriodic => (.canvas, [.canvas, .ring])
  | .c3GrantCompute => (.canvas, [.vib, .canvas])
  | .portLinkChange .. => (.ring, [.pins, .alarms, .call, .panels, .ring, .linen])
  | .ringFrameReceive .. => (.ring, announce ++ [.gauze, .canvas])
  | .stationFrameReceive .. => (.ring, announce ++ [.gauze, .canvas])
  | .hsrSupervisionSend => (.ring, [.ring])
  | .proxyEntryExpiry .. => (.ring, [.ring])
  | .ringOpenTimeout => (.ring, [.pins, .alarms, .call, .panels, .ring, .linen])
  | .ptpMessageReceive .. => (.ring, [.pins, .alarms, .call, .panels, .ring, .linen, .bkup])
  | .ptpPeerDelayMeasure .. => (.ring, [.ring])
  | .ptpAnnounceTimeout => (.ring, [.pins, .alarms, .call, .panels, .ring, .linen, .bkup])
  | .originationSend .. => (.ring, announce)
  | .frameBufferEccError .. => (.ring, announce)
  | .pauseRefresh => (.ring, [.ring])
  | .berebReceive .. => (.ring, announce ++ [.sys, .cfg, .nor, .quads, .engines, .gauze, .power, .field, .uai, .hart, .spare, .vib, .ao, .disc, .points, .canvas, .can, .bkup])
  | .berebRead .. => (.ring, [.nor, .ring, .linen])
  | .berebWrite .. => (.ring, announce ++ [.sys, .cfg, .nor, .quads, .engines, .gauze, .power, .field, .uai, .hart, .spare, .vib, .ao, .disc, .points, .canvas, .can, .bkup])
  | .berebSubscribe .. => (.ring, [.pins, .nor, .alarms, .call, .panels, .ring, .linen])
  | .berebUnsubscribe .. => (.ring, [.pins, .nor, .alarms, .call, .panels, .ring, .linen])
  | .snapshotRequest .. => (.ring, [.nor, .ring, .linen])
  | .identify .. => (.ring, [.nor, .ring, .linen])
  | .endSession .. => (.ring, [.nor, .ring, .linen])
  | .subscriptionCheck => (.ring, [.ring, .linen])
  | .subscriptionLapse .. => (.ring, [.ring])
  | .sequenceHoldExpiry .. => (.ring, announce ++ [.sys, .cfg, .nor, .power, .vib, .points, .canvas, .can])
  | .eventSend => (.ring, [.ring, .linen])
  | .ringClearCounters .. => (.ring, [.ring])
  | .clearPeaks .. => (.ring, [.ring])
  | .canBusIdleDetect .. => (.can, announce ++ [.sys, .nor, .can])
  | .canNormalEntry .. => (.can, [.can])
  | .canBusOff .. => (.can, announce ++ [.sys, .can])
  | .canBusOffRecovery .. => (.can, announce ++ [.sys, .nor, .can])
  | .recoverNow .. => (.can, announce ++ [.sys, .nor, .can])
  | .canClearCounters .. => (.can, [.can])
  | .canFrameReceive .. => (.can, announce ++ [.gauze, .can])
  | .canRxService .. => (.can, announce ++ [.gauze, .points, .can])
  | .bufferLockLapse .. => (.can, [.can])
  | .txRequest .. => (.can, [.panels, .can])
  | .txCancel .. => (.can, [.can])
  | .canTxComplete .. => (.can, announce ++ [.can])
  | .canTxError .. => (.can, announce ++ [.can])
  | .mappedTimeout .. => (.points, [.gauze, .can])
  | .amendOpen .. => (.config, [.nor])
  | .amendApply .. => (.config, [.nor])
  | .amendAbort .. => (.config, [.nor])
  | .amendOpenTimeout => (.config, [.nor])
  | .amendCheckComplete => (.config, announce ++ [.cfg, .nor, .power, .field, .uai, .spare, .vib, .ao, .disc, .points, .bkup])
  | .commitStart => (.config, announce ++ [.cfg, .nor, .bkup])
  | .norCommitStepComplete .. => (.config, announce ++ [.cfg, .nor, .bkup])
  | .imageBegin .. => (.config, [.cfg, .nor])
  | .imageWindowWrite .. => (.config, [.nor])
  | .imageCommit .. => (.config, [.nor])
  | .imageCancel .. => (.config, [.nor])
  | .imageEraseComplete => (.config, [.nor])
  | .imageVerifyComplete => (.config, announce ++ [.cfg, .nor])
  | .imageReceiveTimeout => (.config, [.nor])
  | .nandScanComplete .. => (.history, announce ++ [.points, .nand])
  | .indexBuildComplete => (.history, [.pins, .alarms, .call, .panels, .ring, .linen])
  | .nandSegmentProgram .. => (.history, announce ++ [.nand])
  | .nandBlockRefresh .. => (.history, announce ++ [.nand])
  | .recorderCheckpoint => (.history, announce)
  | .recordsDroppedReport => (.history, [.linen])
  | .cursorClaim .. => (.history, [.linen])
  | .cursorRelease .. => (.history, [.linen])
  | .cursorIdleTimeout .. => (.history, [.linen])
  | .positionLowWrite .. => (.history, [.linen])
  | .cursorAdvance .. => (.history, [.linen])
  | .seekOldest .. => (.history, [.linen])
  | .seekNewest .. => (.history, [.linen])
  | .windowFillComplete .. => (.history, announce ++ [.nand])
  | .trendSample => (.history, announce ++ [.nand])
  | .trendArchive => (.history, [.nand, .perf])
  | .backupSupplyChangeover .. => (.time, [.bkup])
  | .brownoutLatchSet .. => (.time, [.bkup])
  | .vbatTest .. => (.time, [.pins, .alarms, .call, .panels, .ring, .linen, .bkup])
  | .opMsIncrement => (.time, announce ++ [.clk, .sys, .bkup])
  | .rtcRolloverComparison .. => (.time, announce ++ [.bkup])
  | .stageWrite .. => (.time, [.bkup])
  | .rtcCommit .. => (.time, announce ++ [.bkup])
  | .cancelStage .. => (.time, [.bkup])
  | .stageLapse => (.time, [.bkup])
  | .rtcShiftWrite .. => (.time, [.bkup])
  | .shiftComplete => (.time, [.bkup])
  | .rtcTrimCodeWrite .. => (.time, [.bkup])
  | .autoTrimAdjust => (.time, [.bkup])
  | .timePeriodic => (.time, [.ring])
  | .shutdown .. => (.time, [.bkup])
  | .pwronOff => (.time, [.bkup])
  | .wakenLow => (.time, [.bkup])
  | .wakeAtMatch => (.time, [.bkup])
  | .samplerWrap .. => (.counters, [.perf])
  | .samplerSelectWrite .. => (.counters, [.perf])
  | .countWrite .. => (.counters, [.perf])
  | .clearWraps .. => (.counters, [.perf])
  | .dumpPeriodic => (.counters, [.perf])
  | .dumpNow .. => (.counters, [.perf])
  | .counterDump => (.counters, [.ring, .perf])
  | .resendDump .. => (.counters, [.ring])
  | .tapInstruction .. => (.access, [.pins])
  | .registerWrite .. => (.config, announce ++ [.sys, .cfg, .nor, .quads, .engines, .gauze, .power, .field, .uai, .hart, .spare, .vib, .ao, .disc, .points, .canvas, .can, .bkup])
  | .doCurrentLimit .. => (.discrete, [.disc])
  | .canReceiveError .. => (.can, announce ++ [.can])
  | .oscillatorStart => (.access, [.gauze])
  | .restartSlowedEnd => (.discrete, [.disc])

/-- The command's family. -/
def family (c : Instr) : Family := (effects c).1

/-- The parts of the state that the command may change; every other part it leaves as it was. -/
def footprint (c : Instr) : List Part := (effects c).2

/-- What a trigger of a kind does to the captures of a channel: merged into an open window; a capture of its own while fewer
than eight are pending, or with eight in the place of a scheduled one; else refused (R215, R216). -/
def CaptureTaken (s : State) (n : Fin 16) (kind : BitVec 8) (t : State) : Prop :=
  ((vibAt s n).windowOpen = true → (vibAt t n).pending = (vibAt s n).pending ∧ t.vib.nextId = s.vib.nextId ∧
    (vibAt t n).merged = satInc (vibAt s n).merged) ∧
  ((vibAt s n).windowOpen = false → (vibAt s n).pending.length < 8 →
    (vibAt t n).pending.length = (vibAt s n).pending.length + 1 ∧ (vibAt t n).lastCapture = s.vib.nextId ∧
    (vibAt t n).windowOpen = true ∧ ((vibAt t n).pending.getLast?.map Capture.kind) = some kind) ∧
  ((vibAt s n).windowOpen = false → 8 ≤ (vibAt s n).pending.length → (∃ c ∈ (vibAt s n).pending, c.kind = 3) →
    (vibAt t n).pending.length = (vibAt s n).pending.length ∧ (vibAt t n).lastCapture = s.vib.nextId ∧
    (vibAt t n).windowOpen = true ∧ ((vibAt t n).pending.getLast?.map Capture.kind) = some kind) ∧
  ((vibAt s n).windowOpen = false → 8 ≤ (vibAt s n).pending.length → (∀ c ∈ (vibAt s n).pending, c.kind ≠ 3) →
    (vibAt t n).pending = (vibAt s n).pending ∧ t.vib.refused = satInc s.vib.refused)

/-- The counter of a digital input after a raw sample (R255). -/
def diCounted (d : Di) (x : Bool) : Nat := if x then min (diSet d 2) (d.counter.toNat + 1) else d.counter.toNat - 1

/-- The filter of a digital input turns with a raw sample (R255). -/
def diTurned (d : Di) (x : Bool) : Bool :=
  if x then decide (diCounted d x = diSet d 2) && !d.filtered else decide (diCounted d x = 0) && d.filtered

/-- A filtered transition to a level is one that a digital input in pulse mode counts (R260). -/
def diCounts (d : Di) (x : Bool) : Bool :=
  decide (diSet d 0 = 2) && (if diSet d 4 = 0 then x else if diSet d 4 = 1 then !x else true)

/-- What an evaluation of a point reads, the failing pairs of its task record with it (R52, R285, R390). -/
def evalSource (s : State) (p : Nat) (l : LocalPt) (ev : EvalIn) : SrcVal :=
  { sourceOf s p l ev.tick with bad := (sourceOf s p l ev.tick).bad ++ recordBad s p l ev.upRec }

/-- The verdict of an evaluation on the value (R58, R285, R289). -/
def evalVerdict (s : State) (p : Nat) (l : LocalPt) (ev : EvalIn) : Verdict := verdict s p l (evalSource s p l ev) ev.upset

/-- An evaluation is an integrity failure: its verdict is, or the paths' alarm states or commands differ (R52, R56, R58). -/
def evalFails (s : State) (p : Nat) (l : LocalPt) (ev : EvalIn) : Bool :=
  let v := evalVerdict s p l ev
  decide (v.q.1 = 4) || decide (ev.upState ≠ 0) ||
    (decide (ev.upOut ≠ 0) &&
      !(outWords ((consume s p).modPoint p (evalPt s p (evalSource s p l ev) v ev)) p v.value.v v.q.1).isEmpty)

/-- An evaluation of a point that was l has published its verdict (R285, R291, R292). -/
def Evaluated (s : State) (p : Nat) (l : LocalPt) (ev : EvalIn) (t : State) : Prop :=
  ∃ k, tget t.points p = some k ∧ k.evaluated = true ∧ k.marked = false ∧ k.evalCount = l.evalCount + 1 ∧
    k.setpointNew = none ∧ k.pub.value = (evalVerdict s p l ev).value

/-- An action was put before an evaluation: taken, with what holds of the alarm state after it, or held by an integrity
failure of that evaluation (R325). -/
def Acted (s : State) (p : Nat) (a : AlarmAct) (ev : EvalIn) (t : State) (P : AlarmSt → Prop) : Prop :=
  ∃ l k, tget (queueAct s p a).points p = some l ∧ tget t.points p = some k ∧
    if evalFails (queueAct s p a) p l ev then k.alarm.held = l.alarm.held else k.alarm.held = [] ∧ P k.alarm

/-- The state of a SYSTEM condition once its cause is gone (R333). -/
def SysCleared : SysSt → SysSt
  | .actUnack => .rtnUnack
  | .actAck => .norm
  | x => x

/-- One of the two conditions that sending an ALARM may raise stands raised (R438, R500). -/
def RaisedAgain (k : Fin 64) (t : State) : Prop := (k = 0x32 ∨ k = 0x3A) ∧ sysActive t k = true

/-- The origination queue of a class has room for a message of n payload words (R437, R443). -/
def hasRoom (s : State) (c : Fin 4) (n : Nat) : Prop := originBytes s c + max 64 (60 + 4 * n) ≤ originCap c.val

/-- A broadcast of the type with these payload words waits in the origination queue of its class (R437, R447). -/
def broadcasts (t : State) (c : Fin 4) (type : BitVec 6) (ws : List Word) : Prop :=
  ∃ m ∈ (classAt t c).queue, m.type = type ∧ m.dest = 0xFF ∧ m.payload = ws

/-- A record of a type stands staged, under the next number of the history (R489, R497). -/
def recorded (s t : State) (type : BitVec 8) (payload : List Word) : Prop :=
  ∃ x ∈ t.linen.staged, x.seq = some s.linen.nextSeq ∧ x.r.type = type ∧ x.r.payload = payload

/-- A dump was taken for a cause, under the next number (R570, R571). -/
def DumpTaken (s : State) (cause : BitVec 8) (t : State) : Prop :=
  t.perf.dumpSeq = s.perf.dumpSeq + 1 ∧ ∃ d, t.perf.dumps = (d :: s.perf.dumps).take 12288 ∧ d.seq = t.perf.dumpSeq ∧
    d.cause = cause ∧ d.ctrs = s.perf.ctrs ∧ t.perf.ctrs = s.perf.ctrs ∧
    ∀ k : Fin 16, vat d.samplers k = ((samplerAt s k).count, (samplerAt s k).wrapped)

/-- What every step keeps: the memories stand in their canonical form, and no quad's epoch is 0x0000 (R19). -/
def Inv (s : State) : Prop :=
  Mem.wf norByte s.nor.bytes = true ∧ Mem.wf ramByte s.dram.bytes = true ∧
  ∀ q : Fin 4, Mem.wf ramByte (quadAt s q).memory = true ∧ (quadAt s q).epoch ≠ 0

/-- A quad enters a state in which it is out of service (R19). -/
def entersGone (a b : QuadState) : Prop := b ≠ a ∧ (b = .reset ∨ b = .off ∨ b = .update)

/-- The universal input that alone a command of one channel changes. -/
def oneInput : Instr → Option (Fin 16)
  | .converterSample ch _ => some ch
  | .settlingEnd false ch => some ch
  | .tcOpenTest ch _ => some ch
  | .trimZero _ ch => some ch
  | .trimSpan _ ch => some ch
  | .trimCaptureEnd ch _ => some ch
  | _ => none

/-- The loop output that alone a command of one channel changes. -/
def oneLoop : Instr → Option (Fin 4)
  | .aoReadbackSample n _ _ _ _ => some n
  | .openTestPulse n _ _ => some n
  | _ => none

/-- The Linen cursor that alone a command of one cursor changes. -/
def oneCursor : Instr → Option (Fin 8)
  | .cursorClaim _ c => some c
  | .cursorRelease _ c => some c
  | .cursorIdleTimeout c => some c
  | .positionLowWrite _ c _ => some c
  | .cursorAdvance _ c => some c
  | .seekOldest _ c => some c
  | .seekNewest _ c => some c
  | _ => none

/-- The sampling counter that alone a command of one counter changes. -/
def oneSampler : Instr → Option (Fin 16)
  | .samplerSelectWrite _ k _ => some k
  | .countWrite _ k [_] => some k
  | _ => none

/-- The commands that may program or erase bytes of the NOR: those of a commit, of an image or firmware load, a copy's
invalidation when its load fails, and the writes of objects that start one of these (R132 to R138, R394 to R397). -/
def writesNor : Instr → Bool
  | .berebReceive .. | .berebWrite .. | .registerWrite .. | .quadSelfCheckComplete .. => true
  | .commitStart | .norCommitStepComplete .. | .imageBegin .. | .imageWindowWrite .. | .imageVerifyComplete => true
  | .fwBegin .. | .fwWindowWrite .. | .fwVerifyComplete | .fwCancel .. => true
  | _ => false

/-- The commands that may change bytes of the DRAM: a fabric write, a sample or an edge stored in a waveform ring, the
recovery of a damaged word, and the assertion of the logic reset (R20, R22, R70, R78, R212). -/
def writesDram : Instr → Bool
  | .fabricRequest .. | .fabricReplyDelivery .. | .waveformSampleWrite .. | .frequencyEdge .. | .memoryEccError .dram _ false => true
  | .logicResetAssert .. => true
  | _ => false

end Sys2Proof
end

