-- ==== Sys2Proof/Certificates/Slice0/Obligations.lean ====
section
/-! DEFINITION. The statements for the provers. -/

open Sys2Proof Sys2Proof.Machine

/-- A step with a command in front is the command's meaning on the state with the queue's rest, and what it leaves of the
queue is that rest; on an empty queue the block idles. The order is the block model's, and idling is the model's own choice
(log entry 2). -/
def Obligations.StepRunsFront : Prop :=
  (∀ (c : Instr) (s : State), step { s with pending := c :: s.pending } = exec c s) ∧
  (∀ s t : State, step s = .next t → t.pending = s.pending.tail) ∧
  (∀ s : State, s.pending = [] → step s = .next s)



/-! Start and reset. -/

/-- PORN_RELEASE, LOGIC_RESET_ASSERT and NOR_READ_PHASE_COMPLETE complete. PORN_RELEASE on a held logic side releases it with
the cause that was noted and the density the NOR declares, and ends the brown-out latch; a valid backup domain stays valid with
0x100 more in its POWER_CYCLE word, another is not valid and has its clock UNSET at 0. LOGIC_RESET_ASSERT on a logic side that
is up holds it, notes the cause, empties the points and the DRAM, and keeps the NOR's bytes, BACKUP_RAM and the field die's
supply. NOR_READ_PHASE_COMPLETE of the phase that is due counts that phase (from R78 to R82, R101 to R104, R524; the readings of log entries 4, 77). -/
def Obligations.StartAndReset : Prop :=
  (∀ (mib : Option Nat) (s : State), s.sys.held = true → runs (.pornRelease mib) s fun t =>
    t.sys.held = false ∧ t.sys.cause = s.sys.nextCause ∧ t.nor.declared = mib ∧ t.bkup.latch = false ∧
    (backupValid s.bkup = true → t.bkup.valid = true ∧ t.bkup.cycle = Pair.mk0 (s.bkup.cycle.v + 0x100)) ∧
    (backupValid s.bkup = false → t.bkup.valid = false ∧ t.bkup.quality = .unset ∧ t.bkup.seconds = 0)) ∧
  (∀ (cause : BitVec 2) (cut : Option Nat) (s : State), up s = true → runs (.logicResetAssert cause cut) s fun t =>
    t.sys.held = true ∧ t.sys.nextCause = cause ∧ t.points = [] ∧ t.nor.bytes = s.nor.bytes ∧ t.bkup.ram = s.bkup.ram ∧
    t.dram.bytes = [] ∧ t.field.running = s.field.running ∧ t.field.suppliesOn = s.field.suppliesOn) ∧
  (∀ (phase : Fin 3) (s : State), up s = true → s.cfg.phasesDone = phase.val → runs (.norReadPhaseComplete phase) s fun t =>
    t.cfg.phasesDone = phase.val + 1)

/-- FUNCTION_READY, READY_DEADLINE_EXPIRY, MEMBERSHIP_LISTEN_END and SNAPSHOT_ANSWER_TIMEOUT complete. A configured function
whose condition holds becomes READY; the READY deadline leaves the start
complete, and of a start that is complete already only notes that it passed; the end of the membership listen makes the replica READY where no peer is present, else awaits the peers'
snapshots; a peer whose snapshot is awaited is asked once more, and one asked again is counted missing (from R81 to R93; the
readings of log entries 69, 88). -/
def Obligations.FunctionsBecomeReady : Prop :=
  (∀ (fn : BitVec 8) (idx : BitVec 16) (s : State), up s = true →
    (fnConfigured s).contains (fnKey fn.toNat idx.toNat) = true → idx.toNat < 256 → fnReady s fn.toNat idx.toNat = false →
    fnCond s fn.toNat idx.toNat = true → runs (.functionReady fn idx) s fun t => fnReady t fn.toNat idx.toNat = true) ∧
  (∀ s : State, up s = true → s.sys.deadlinePassed = false → (cfgIdReadyDeadline s).toNat ≤ s.sys.msSince.toNat →
    runs .readyDeadlineExpiry s fun t => t.sys.deadlinePassed = true ∧ startComplete t = true ∧
      (startComplete s = true → t = { s with sys := { s.sys with deadlinePassed := true } })) ∧
  (∀ s : State, up s = true → fnReady s 1 0 = true → fnReady s 9 0 = false → s.cfg.absent = false →
    s.sys.snapAwait = [] → s.sys.snapAgain = [] → runs .membershipListenEnd s fun t =>
      (presentPeers s = [] → fnReady t 9 0 = true) ∧ (presentPeers s ≠ [] → t.sys.snapAwait = presentPeers s)) ∧
  (∀ (n : Fin 64) (s : State), up s = true → s.sys.snapAwait.contains n.val = true →
    runs (.snapshotAnswerTimeout n) s fun t => t.sys.snapAgain = n.val :: s.sys.snapAgain ∧ n.val ∉ t.sys.snapAwait) ∧
  (∀ (n : Fin 64) (s : State), up s = true → s.sys.snapAwait.contains n.val = false →
    s.sys.snapAgain.contains n.val = true → runs (.snapshotAnswerTimeout n) s fun t =>
      n.val ∈ t.sys.snapMissing ∧ n.val ∉ t.sys.snapAgain)

/-! The field side. -/

/-- FIELD_DIE_START, FIELD_DIE_STOP, FIELD_DIE_RESTART_DETECTED, VFLD_THRESHOLD_CROSS, VFLD_RESTORE, RESTART_SLOWED_END and
OSCILLATOR_START complete. A field die that starts runs with the band of its voltage, its supplies on unless that band is off,
and every output at rest; one that stops has its supplies off and no digital output energised; a restart detected leaves the
settings of every universal and discrete input to be sent again and every waveform channel discontinuous; a threshold crossed
gives the band, and a band that is off switches the supplies off; VFLD back above 17.0 V after an undervoltage, or below 34.0 V
after an overvoltage, switches them on (from R75, R96 to R98, R167, R168, R211, R276, R578; the readings of log entry 31). -/
def Obligations.FieldDieAndSupply : Prop :=
  (∀ s : State, s.field.running = false → runs .fieldDieStart s fun t =>
    t.field.running = true ∧ t.field.band = bandOf (max s.field.vfldMv 17001) ∧ t.field.suppliesOn = !t.field.band.off ∧
    (∀ n : Fin 4, (aoAt t n).applied = 0) ∧ (∀ n : Fin 8, (doAt t n).energised = false)) ∧
  (∀ s : State, s.field.running = true → runs .fieldDieStop s fun t =>
    t.field.running = false ∧ t.field.band = .below10 ∧ t.field.suppliesOn = false ∧ (∀ n : Fin 8, (doAt t n).energised = false)) ∧
  (∀ s : State, up s = true → runs .fieldDieRestartDetected s fun t =>
    t.field.linkSynced = false ∧ (∀ n : Fin 16, (uaiAt t n).sent = false ∧ (diAt t n).loaded = false ∧ (vibAt t n).discont = true)) ∧
  (∀ (mv : Nat) (s : State), runs (.vfldThresholdCross mv) s fun t =>
    t.field.band = bandOf mv ∧ t.field.vfldMv = mv ∧ (s.field.running = true → (bandOf mv).off = true → t.field.suppliesOn = false)) ∧
  (∀ (mv : Nat) (s : State), s.field.running = true → s.field.suppliesOn = false → (bandOf mv).off = false →
    (if s.field.offHigh then mv < 34000 else 17000 < mv) →
    runs (.vfldRestore mv) s fun t => t.field.suppliesOn = true ∧ t.field.band = bandOf mv) ∧
  (∀ s : State, s.field.band.low = false → runs .restartSlowedEnd s fun t =>
    t = { s with disc := { s.disc with slowed := false } }) ∧
  (∀ s : State, runs .oscillatorStart s fun t => t = { s with gauze := { s.gauze with internalOsc := false } })

/-- DETECTOR_TRIP, PROBE_START, PROBE_COMPLETE, RAMP_COMPLETE, SPARK_SELF_TEST, FOLDBACK_ENTRY, FOLDBACK_RETRY_START,
FOLDBACK_RETRY_END, RESTORE_ENERGY and LOOP_SUPPLY_ADJUST complete. A trip of a port in SL_ON is counted with its cause and
leaves it tripped or locked; one during the ramp leaves it tripped; a tripped port whose next probe is due begins it, and so
does a port in SL_PROBING that neither probes nor ramps; a probe's end locks the port on a failed switch or too much
capacitance, trips it again on too little current or voltage, and else begins the ramp, whose end is SL_ON; a failed self-test
locks a port in SL_ON or SL_TRIPPED; foldback keeps the state it came from, its retry holds or returns there; RESTORE_ENERGY
clears CABLE_C and lets a locked port probe where its self-test passes; with no HART polling the loop supply takes its target (from R155 to
R165, R207; the readings of log entries 3, 28). -/
def Obligations.EnergyLimitedPorts : Prop :=
  (∀ (p : Fin 20) (cause : TripCause) (s : State), (portAt s p).st = .slOn → runs (.detectorTrip p cause) s fun t =>
    (portAt t p).cause = cause ∧ (portAt t p).tripCount = satInc (portAt s p).tripCount ∧
    ((portAt t p).st = .slTripped ∨ (portAt t p).st = .lockedPassive)) ∧
  (∀ (p : Fin 20) (cause : TripCause) (s : State), (portAt s p).st = .slProbing → (portAt s p).ramping = true →
    runs (.detectorTrip p cause) s fun t => (portAt t p).st = .slTripped ∧ (portAt t p).ramping = false ∧ (portAt t p).cause = cause) ∧
  (∀ (p : Fin 20) (s : State), (portAt s p).st = .slTripped → probeDue s (portAt s p) = true → runs (.probeStart p) s fun t =>
    (portAt t p).st = .slProbing ∧ (portAt t p).probing = true ∧ (portAt t p).afterTrip = true) ∧
  (∀ (p : Fin 20) (s : State), (portAt s p).st = .slProbing → (portAt s p).probing = false → (portAt s p).ramping = false →
    runs (.probeStart p) s fun t => t = s.modPort p fun q => { q with probing := true }) ∧
  (∀ (p : Fin 20) (ua mv pf : Nat) (s : State), (portAt s p).st = .slProbing → (portAt s p).probing = true →
    runs (.probeComplete p ua mv pf true) s fun t =>
      (portAt t p).probing = false ∧
      (capOk (portAt s p) pf = false → (portAt t p).st = .lockedPassive ∧ (portAt t p).cableC = true) ∧
      (capOk (portAt s p) pf = true → ua < 500 ∨ mv < 1000 → (portAt t p).st = .slTripped ∧ (portAt t p).cause = .probeFailed ∧
        (portAt t p).probesFailed = (portAt s p).probesFailed + 1) ∧
      (capOk (portAt s p) pf = true → ¬(ua < 500 ∨ mv < 1000) → (portAt t p).st = .slProbing ∧ (portAt t p).ramping = true)) ∧
  (∀ (p : Fin 20) (ua mv pf : Nat) (s : State), (portAt s p).st = .slProbing → (portAt s p).probing = true →
    runs (.probeComplete p ua mv pf false) s fun t => (portAt t p).st = .lockedPassive ∧ (portAt t p).selfTestFail = true) ∧
  (∀ (p : Fin 20) (s : State), (portAt s p).st = .slProbing → (portAt s p).ramping = true → runs (.rampComplete p) s fun t =>
    (portAt t p).st = .slOn ∧ (portAt t p).ramping = false) ∧
  (∀ (p : Fin 20) (s : State), (portAt s p).st = .slOn ∨ (portAt s p).st = .slTripped → runs (.sparkSelfTest p false) s fun t =>
    (portAt t p).st = .lockedPassive ∧ (portAt t p).selfTestFail = true ∧ (portAt t p).cause = .selfTest) ∧
  (∀ (p : Fin 20) (s : State), (portAt s p).st = .passive ∨ (portAt s p).st = .lockedPassive → runs (.foldbackEntry p) s fun t =>
    (portAt t p).st = .foldback ∧ (portAt t p).from_ = (portAt s p).st) ∧
  (∀ (p : Fin 20) (s : State), (portAt s p).st = .foldback → runs (.foldbackRetryStart p) s fun t =>
    (portAt t p).st = .foldback ∧ (portAt t p).retrying = true ∧ ∀ k : Fin 20, k ≠ p → portAt t k = portAt s k) ∧
  (∀ (p : Fin 20) (held : Bool) (s : State), (portAt s p).st = .foldback → (portAt s p).retrying = true →
    runs (.foldbackRetryEnd p held) s fun t =>
      (portAt t p).retrying = false ∧ (portAt t p).st = if held then .foldback else (portAt s p).from_) ∧
  (∀ (p : Fin 20) (ok : Bool) (r : Req) (s : State), may s r 2 = true → chanReady s p.val = true → runs (.restoreEnergy r p ok) s fun t =>
    (portAt t p).cableC = false ∧
    ((portAt s p).st = .lockedPassive → ok = true → (portAt t p).st = .slProbing ∧ (portAt t p).selfTestFail = false) ∧
    ((portAt s p).st = .lockedPassive → ok = false → (portAt t p).st = .lockedPassive ∧ (portAt t p).selfTestFail = true)) ∧
  (∀ (p : Fin 20) (termMv ua headMv : Nat) (s : State), (portAt s p).st ≠ .off → runs (.loopSupplyAdjust p termMv ua headMv) s fun t =>
    (portAt t p).st = (portAt s p).st ∧
    (hartState s p ≠ .polling → (portAt t p).supplyMv = supplyTarget (portAt s p) termMv ua (portAt s p).headMv))

/-- LINK_FRAME_RECEIVE, LINK_HEARTBEAT_SEND, FELT_FRAME_RECEIVE, FELT_TIMEOUT and SAFE_STATE_REWRITE complete. A damaged link
frame is only counted, and an intact one carries the group current; a heartbeat adds 1 ms to the age of every command whose age
runs and to no other; a damaged frame to Felt is only counted, and an intact one carries SAFEn and each command: one that checks
is held with its age at 0, one that fails leaves the command held as it was; a timeout is noted on its output and leaves the
command and the setting held; the settings in use are written again (from R29, R30, R62, R63, R271; the readings of log entries 11, 15, 17). -/
def Obligations.IsolationLinkAndFelt : Prop :=
  (∀ (ok : Bool) (ch : Fin 16) (a b : Word) (x : List Nat) (y z : List Int) (s : State), s.field.running = true → linkReady s = true →
    runs (.linkFrameReceive ok ch a b x y z) s fun t =>
      (ok = false → t = perfAdd (perfAdd s 0x6000 1) 0x6001 1) ∧
      (ok = true → t.disc.groupMa = BitVec.ofNat 16 (min x.sum 65535))) ∧
  (∀ s : State, linkReady s = true → runs .linkHeartbeatSend s fun t =>
    ∀ o : Fin 12, feltAt t o = if (feltAt s o).started then { feltAt s o with ageMs := (feltAt s o).ageMs + 1 } else feltAt s o) ∧
  (∀ (out : Fin 12) (a b : Word) (s : State), s.field.running = true → linkReady s = true →
    runs (.feltFrameReceive false out a b) s fun t => t = perfAdd s 0x6001 1) ∧
  (∀ (out : Fin 12) (a b : Word) (s : State), s.field.running = true → linkReady s = true →
    runs (.feltFrameReceive true out a b) s fun t => t.disc.dieSafen = s.disc.safen ∧
      (∀ p, outCmd s out = some p → p.ok = true → a = 0 →
        (feltAt t out).cmd = some p ∧ (feltAt t out).ageMs = 0 ∧ (feltAt t out).timedOut = false) ∧
      (∀ p, outCmd s out = some p → p.ok = true → a ≠ 0 → (feltAt t out).cmd = (feltAt s out).cmd)) ∧
  (∀ (out : Fin 12) (s : State), s.field.running = true → (feltAt s out).started = true →
    (feltAt s out).timedOut = false → runs (.feltTimeout out) s fun t =>
      (feltAt t out).timedOut = true ∧ (feltAt t out).cmd = (feltAt s out).cmd ∧ (feltAt t out).safe = (feltAt s out).safe) ∧
  (∀ s : State, s.field.running = true → linkReady s = true → runs .safeStateRewrite s fun t =>
    ∀ o : Fin 12, (feltAt t o).safe = if (feltAt s o).safe.isSome then some (safePair s o) else none)


/-! Quads, fabric, memories, Gauze and power. -/

/-- QUAD_POWER_ON, QUAD_SELF_CHECK_COMPLETE, QUAD_WAKE, QUAD_IDLE_SLEEP, QUAD_FAULT_RESET, QUAD_ISOLATE, QUAD_RETRY_INTERVAL,
QUAD_RETRY and UPDATE_LOADED complete. A quad in OFF that is powered enters RESET; one whose self-check passes enters SLEEP, and
of three failed checks the last leaves it FAILED; a wake makes SLEEP or RUN into RUN, takes the quad's pending wake and has it
running each of its tasks that fell due; a quad in RUN sleeps, with its epoch as it was, when no task of it runs, no wake is
pending and no slot wakes it within 2 ms; a fault resets a quad in service or draining, and an isolation switches one off, each
with the next epoch; a quad FAILED for 10 min, one that RETRY names, and one whose update is loaded enter RESET (from R25, R31, R32, R388, R394, R423; the readings of log
entry 64). -/
def Obligations.QuadStates : Prop :=
  (∀ (q : Fin 4) (s : State), up s = true → (quadAt s q).st = .off → runs (.quadPowerOn q) s fun t => t = s.modQuad q Quad.toReset) ∧
  (∀ (q : Fin 4) (s : State), up s = true → (quadAt s q).st = .reset → s.cfg.fwLoaded = true →
    runs (.quadSelfCheckComplete q true) s fun t => (quadAt t q).st = .sleep ∧ (quadAt t q).tries = 0) ∧
  (∀ (q : Fin 4) (s : State), up s = true → (quadAt s q).st = .reset → s.cfg.fwLoaded = true →
    runs (.quadSelfCheckComplete q false) s fun t =>
      if (quadAt s q).tries < 2 then (quadAt t q).st = .reset ∧ (quadAt t q).tries = (quadAt s q).tries + 1
      else (quadAt t q).st = .failed) ∧
  (∀ (q : Fin 4) (s : State), up s = true → (quadAt s q).st = .sleep ∨ (quadAt s q).st = .run → runs (.quadWake q) s fun t =>
    (quadAt t q).st = .run ∧ (quadAt t q).pllLock = true ∧ t.gauze.wakes = s.gauze.wakes &&& ~~~(1#4 <<< q.val) ∧
    ∀ n ∈ s.gauze.due, taskOnQuad s q n = true → n ∈ (quadAt t q).running ∧ n ∉ t.gauze.due) ∧
  (∀ (q : Fin 4) (tick : Nat) (s : State), up s = true → (quadAt s q).st = .run → (quadAt s q).running = [] →
    s.gauze.wakes.getLsbD q.val = false → s.gauze.slotsA.toList.any (slotWithin q tick) = false →
    s.gauze.slotsB.toList.any (slotWithin q tick) = false → runs (.quadIdleSleep q tick) s fun t =>
      (quadAt t q).st = .sleep ∧ (quadAt t q).epoch = (quadAt s q).epoch) ∧
  (∀ (q : Fin 4) (s : State), up s = true → (quadAt s q).st.counts = true → runs (.quadFaultReset q) s fun t =>
    (quadAt t q).st = .reset ∧ (quadAt t q).epoch = nextEpoch (quadAt s q).epoch ∧ t.canvas.roundDue = true) ∧
  (∀ (q : Fin 4) (s : State), up s = true → (quadAt s q).st ≠ .off → runs (.quadIsolate q) s fun t =>
    (quadAt t q).st = .off ∧ (quadAt t q).isolated = true ∧ (quadAt t q).epoch = nextEpoch (quadAt s q).epoch) ∧
  (∀ (q : Fin 4) (s : State), up s = true → (quadAt s q).st = .failed → (quadAt s q).faultAt + 600000 ≤ now s →
    runs (.quadRetryInterval q) s fun t => t = s.modQuad q Quad.toReset) ∧
  (∀ (r : Req) (q : Fin 4) (s : State), may s r 3 = true → (quadAt s q).st = .failed ∨ (quadAt s q).st = .off →
    runs (.quadRetry r q) s fun t => t = s.modQuad q Quad.toReset) ∧
  (∀ (q : Fin 4) (s : State), up s = true → (quadAt s q).st = .update → runs (.updateLoaded q) s fun t =>
    t = s.modQuad q Quad.toReset)

/-- FABRIC_REQUEST, FABRIC_REPLY_DELIVERY, QUAD_REPLY_TIMEOUT and FABRIC_PARITY_ERROR complete. A request takes the next name;
to a unit that is gone it completes ABSENT, counted, and to another it joins those outstanding. A delivered reply leaves them: it
is counted as stale where its request had completed before, and delivered where both ends' epochs are those of its issue. An
accepted request to a quad that is not answered resets that quad, raises QUAD_FAULT's condition, and completes what waited for
it. A failed attempt of a beat is noted at the port that receives it, counted from the beat's first; the eighth resets a quad
at either end, and with a quad at neither raises FABRIC_FAULT (from R18 to R23, R71; the readings of log entries 13, 39, 95). -/
def Obligations.FabricRequests : Prop :=
  (∀ (src tgt : FabUnit) (w : Option (List Word)) (n addr : Nat) (acc : Bool) (s : State), up s = true → unitGone s src = false →
    runs (.fabricRequest src tgt w n addr acc) s fun t =>
      t.fabric.nextId = s.fabric.nextId + 1 ∧
      (unitGone s tgt = true → t.fabric.absentCount = satInc s.fabric.absentCount ∧ t.fabric.out = s.fabric.out) ∧
      (unitGone s tgt = false → (t.fabric.out.getLast?.map FabReq.id) = some s.fabric.nextId)) ∧
  (∀ (id : Nat) (r : FabReq) (s : State), up s = true → (s.fabric.out.find? fun r => decide (r.id = id)) = some r →
    runs (.fabricReplyDelivery id) s fun t =>
      (∀ x ∈ t.fabric.out, x.id ≠ id) ∧ (r.done = true → t.fabric.staleCount = satInc s.fabric.staleCount) ∧
      (r.done = false → unitEpoch s r.tgt = r.tgtEpoch → unitEpoch s r.req = r.reqEpoch →
        (t.fabric.done.head?.map fun d => (d.id, d.absent)) = some (id, false))) ∧
  (∀ (id : Nat) (r : FabReq) (q : Fin 4) (s : State), up s = true →
    (s.fabric.out.find? fun r => decide (r.id = id) && r.accepted && !r.done) = some r → r.tgt = .quad q →
    (quadAt s q).st.counts = true → runs (.quadReplyTimeout id) s fun t =>
      (quadAt t q).st = .reset ∧ sysActive t 0x09 = true ∧ t.canvas.roundDue = true ∧
      ∀ x ∈ t.fabric.out, x.tgt = .quad q → x.req ≠ .quad q → x.done = true) ∧
  (∀ (src tgt : FabUnit) (addr : Nat) (s : State), up s = true → runs (.fabricParityError src tgt addr) s fun t =>
    (parityTries s src tgt addr < 8 →
      (t.fabric.parity.find? fun x => x.port == tgt).map ParityTry.tries = some (parityTries s src tgt addr)) ∧
    (8 ≤ parityTries s src tgt addr →
      (∀ q : Fin 4, (src = .quad q ∨ tgt = .quad q) → (quadAt s q).st.counts = true → (quadAt t q).st = .reset) ∧
      (unitIsQuad src = false → unitIsQuad tgt = false → sysActive t 0x0B = true)))

/-- MEMORY_ECC_ERROR, SCRUB_PASS, SHADOW_EXECUTION and THIRD_RUN complete. A corrected word is counted for its engine or for the
DRAM; an uncorrectable one in a quad's memory or an engine's scratchpad resets the quad, in DRAM above the firmware's partition
it stands marked poisoned, and of the DRAM stack as a whole leaves the stack failed; a scrub pass is noted with its time. A
shadow execution of a task 100 scans after the last is counted for its engine, takes 100 scans, and where its result differs
leaves a third run owed; the third run ends that and counts an integrity fault for each engine it charges, and for no other
(from R64 to R70, R75; the readings of log entries 13, 87, 96, 97). -/
def Obligations.IntegrityErrors : Prop :=
  (∀ (e : Fin 16) (addr : Nat) (s : State), up s = true → runs (.memoryEccError (.dscratch e) addr true) s fun t =>
    t = perfAdd s (256 * e.val + 0x0A) 1) ∧
  (∀ (e : Fin 16) (addr : Nat) (s : State), up s = true → runs (.memoryEccError (.iscratch e) addr true) s fun t =>
    t = perfAdd s (256 * e.val + 0x0A) 1) ∧
  (∀ (q : Fin 4) (addr : Nat) (s : State), up s = true → (quadAt s q).st.counts = true →
    runs (.memoryEccError (.quad q) addr false) s fun t => (quadAt t q).st = .reset) ∧
  (∀ (e : Fin 16) (addr : Nat) (s : State), up s = true → (quadAt s (quadOf e)).st.counts = true →
    runs (.memoryEccError (.dscratch e) addr false) s fun t => (quadAt t (quadOf e)).st = .reset) ∧
  (∀ (addr : Nat) (s : State), up s = true → runs (.memoryEccError .dram addr true) s fun t => t = perfAdd s 0x4002 1) ∧
  (∀ (addr : Nat) (s : State), up s = true → 0x08000000 ≤ addr % 2 ^ 32 → runs (.memoryEccError .dram addr false) s fun t =>
    addr % 2 ^ 32 / 8 * 8 ∈ t.dram.poisoned) ∧
  (∀ (addr : Nat) (s : State), up s = true → runs (.memoryEccError .dramStack addr false) s fun t =>
    t = { s with dram := { s.dram with failed := true } }) ∧
  (∀ s : State, up s = true → runs (.scrubPass .dram) s fun t => t.dram.scrubbedAt = now s ∧ t.dram.bytes = s.dram.bytes) ∧
  (∀ (q : Fin 4) (s : State), up s = true → runs (.scrubPass (.quad q)) s fun t =>
    t = s.modQuad q fun x => { x with scrubbedAt := now s }) ∧
  (∀ (n : Nat) (ups : List Word) (task : Task) (e : Fin 16) (s : State), up s = true → tget s.canvas.tasks n = some task →
    task.standby = some e → task.pinned = none → 100 ≤ task.scan → sameFirmware s task.primary e = true →
    runs (.shadowExecution n ups) s fun t => t.perf = (perfAdd s (256 * e.val + 0x0B) 1).perf ∧
      tget t.canvas.tasks n = some { task with
        scan := task.scan - 100,
        owed := if turned task.result ups = task.result then task.owed else some (.shadow (turned task.result ups)) }) ∧
  (∀ (n : Nat) (ups : List Word) (task : Task) (e x : Fin 16) (s : State), up s = true →
    tget s.canvas.tasks n = some task → task.primary = some e → thirdEngine s task = some x → task.owed.isSome = true →
    runs (.thirdRun n ups) s fun t => (tget t.canvas.tasks n).map Task.owed = some none ∧
      ∀ y : Fin 16, (engPl t y).faults =
        if y ∈ chargedBy task e x (turned task.result ups) then satInc (engPl s y).faults else (engPl s y).faults)

/-- GAUZE_SLOT_DUE, GAUZE_BACKSTOP_WAKE, ENGINE_CLOCK_STEP_CHANGE, POWER_LEVEL_WRITE and POWER_LEVEL_CHANGE complete. A slot of
which either copy falls due, as it is read, leaves wakes pending for the quads of both copies' masks; the backstop leaves them
pending for every quad that holds tasks; an engine takes the clock step chosen for it; a write to POWER_LEVEL sets the station's
level, but 0b11; a change of the effective level puts the level into effect, tells Gauze, and makes a round due (from R27, R33 to R38,
R46, R72, R382; the readings of log entries 13, 54). -/
def Obligations.GauzeAndPower : Prop :=
  (∀ (k : Fin 256) (tick : Nat) (xa xb : BitVec 27) (s : State), up s = true →
    (slotDue (slotRead (vat s.gauze.slotsA k) xa) tick = true ∨ slotDue (slotRead (vat s.gauze.slotsB k) xb) tick = true) →
    runs (.gauzeSlotDue k tick xa xb) s fun t =>
      (slotRead (vat s.gauze.slotsA k) xa).mask &&& t.gauze.wakes = (slotRead (vat s.gauze.slotsA k) xa).mask ∧
      (slotRead (vat s.gauze.slotsB k) xb).mask &&& t.gauze.wakes = (slotRead (vat s.gauze.slotsB k) xb).mask) ∧
  (∀ s : State, up s = true → runs .gauzeBackstopWake s fun t =>
    t = { s with gauze := { s.gauze with wakes := s.gauze.wakes ||| taskQuads s } }) ∧
  (∀ (e : Fin 16) (k : BitVec 2) (s : State), up s = true → (engineAt s e).nextStep = some k →
    runs (.engineClockStepChange e) s fun t => (engineAt t e).step = k ∧ (engineAt t e).nextStep = none) ∧
  (∀ (r : Req) (w : Word) (s : State), may s r 2 = true → runs (.powerLevelWrite r w) s fun t =>
    t.power.station = if bits w 1 0 = 3 then s.power.station else w.extractLsb' 0 2) ∧
  (∀ s : State, up s = true → powerEff (notePower s) ≠ s.power.eff → runs .powerLevelChange s fun t =>
    t.power.eff = powerEff (notePower s) ∧ t.gauze.powerLevel = Pair.mk0 ((powerEff (notePower s)).setWidth 32) ∧
    t.canvas.roundDue = true)


/-! Process inputs and HART. -/

/-- CONVERTER_SAMPLE, SETTLING_END, TC_OPEN_TEST, SPARE_VISIT_PHASE_END and REF_DEVIATION_RECORD complete. With the field die
running, a sample of an enabled universal input leaves its new pair, the code of the measured signal and the complement that
path B forms, and a DIAG pair of which each flag is its step of R187; the copies that have crossed the link, and the other
inputs, are as they were. SETTLING_END of a universal input whose settings are held notes its end and of a digital input ends
its settling, and changes nothing else. The thermocouple's open test raises OPEN above 20 kΩ, and at or below leaves it as it
was. The first phase of the spare's visit goes on to the second where it passes and else retires the spare; the second goes on
to the third either way. A record of REF_DEVIATION enters the history, at most 365 long, and one beyond 500 leaves REF_DRIFT standing (from R176 to
R192, R256; the readings of log entries 9, 12, 14, 18, 42, 105). -/
def Obligations.InputSamples : Prop :=
  (∀ (ch : Fin 16) (m : Meas) (s : State), s.field.running = true → bits (uaiAt s ch).mode 3 0 ≠ 0 →
    runs (.converterSample ch m) s fun t =>
      (uaiAt t ch).dieSample = pairUpset (sampleCode (uaiAt s ch) m) m.upset ∧
      (uaiAt t ch).dieDiag.ok = true ∧ (uaiAt t ch).dieNew = true ∧
      (∀ i : Fin 19, bit (uaiAt t ch).dieDiag.v i.val =
        (flagStep (flagCond s ch (uaiAt s ch) m (sampleCode (uaiAt s ch) m) i.val) i.val (bit (uaiAt s ch).outFlags i.val)
          (vat (uaiAt s ch).absentRun (i.castLE (by omega)))).1) ∧
      (uaiAt t ch).sample = (uaiAt s ch).sample ∧ (uaiAt t ch).diag = (uaiAt s ch).diag ∧
      (∀ k : Fin 16, k ≠ ch → uaiAt t k = uaiAt s k)) ∧
  (∀ (ch : Fin 16) (s : State), s.field.running = true → (uaiAt s ch).sent = true → runs (.settlingEnd false ch) s fun t =>
    t = s.modUai ch fun u => { u with settlingDone := true }) ∧
  (∀ (ch : Fin 16) (s : State), s.field.running = true → (diAt s ch).loaded = true → runs (.settlingEnd true ch) s fun t =>
    t = s.modDi ch fun d => { d with settling := false }) ∧
  (∀ (ch : Fin 16) (ohms : Nat) (s : State), s.field.running = true → bits (uaiAt s ch).mode 3 0 = 5 →
    runs (.tcOpenTest ch ohms) s fun t =>
      (uaiAt t ch).openTc = decide (20000 < ohms) ∧
      bit (uaiAt t ch).dieDiag.v 0 = (decide (20000 < ohms) || bit (uaiAt s ch).outFlags 0) ∧
      (uaiAt t ch).dieDiag.c = ~~~(uaiAt t ch).dieDiag.v) ∧
  (∀ (c : Fin 16) (refs : List (Fin 3 × Int)) (diffs : List Int) (s : State), s.field.running = true → s.spare.fail = false →
    s.spare.at_ = some c → s.spare.phase = 1 → runs (.spareVisitPhaseEnd refs diffs none) s fun t =>
      (phasePasses refs diffs = true → t = { s with spare := { s.spare with phase := 2 } }) ∧
      (phasePasses refs diffs = false → t.spare.fail = true ∧ t.spare.at_ = none)) ∧
  (∀ (c : Fin 16) (refs : List (Fin 3 × Int)) (diffs : List Int) (s : State), s.field.running = true → s.spare.fail = false →
    s.spare.at_ = some c → s.spare.phase = 2 → runs (.spareVisitPhaseEnd refs diffs none) s fun t =>
      t.spare = { s.spare with phase := 3, visitFail2 := !phasePasses refs diffs }) ∧
  (∀ s : State, linkReady s = true → runs .refDeviationRecord s fun t =>
    t.spare.history.head? = some (opMs s / 86400000, s.spare.refDeviation) ∧ t.spare.history.length ≤ 365 ∧
    t.spare.refDeviation = s.spare.refDeviation ∧
    (fLt (fOfNat 500) (fAbs s.spare.refDeviation) = true → t.spare.refDrift = true))

/-- TRIM_ZERO, TRIM_SPAN, TRIM_CLEAR, TRIM_CAPTURE_END and TRIM_BUTTON_RELEASE complete. On a READY channel with no capture
under way a start begins one with the reference of R194; TRIM_CLEAR leaves ZERO_TRIM 0.0 and SPAN_TRIM 1.0 with a commit
waiting; the end of a capture 2 s after its start leaves none under way, TRIM_REFERENCE at NaN and the result, puts the new trim
into effect with a commit waiting where it is accepted, and leaves the configuration and the NOR's work as they were where it is
not; a button's release starts a capture after 3 s to 10 s, clears the trims after more, and does nothing after less (from R193
to R197, R207; the readings of log entries 30, 106, 107). -/
def Obligations.Trimming : Prop :=
  (∀ (r : Req) (ch : Fin 16) (s : State), may s r 2 = true → chanReady s ch.val = true → (uaiAt s ch).trimBusy = none →
    runs (.trimZero r ch) s fun t => (uaiAt t ch).trimBusy = some .zero ∧
      (uaiAt t ch).trimRefUsed = if (uaiAt s ch).trimRef.ok && !fIsNan (uaiAt s ch).trimRef.v then (uaiAt s ch).trimRef.v
        else cfgUaiEuLow s ch.val) ∧
  (∀ (r : Req) (ch : Fin 16) (s : State), may s r 2 = true → chanReady s ch.val = true → (uaiAt s ch).trimBusy = none →
    runs (.trimSpan r ch) s fun t => (uaiAt t ch).trimBusy = some .span ∧
      (uaiAt t ch).trimRefUsed = if (uaiAt s ch).trimRef.ok && !fIsNan (uaiAt s ch).trimRef.v then (uaiAt s ch).trimRef.v
        else cfgUaiEuHigh s ch.val) ∧
  (∀ (r : Req) (ch : Fin 16) (s : State), may s r 2 = true → chanReady s ch.val = true → runs (.trimClear r ch) s fun t =>
    zeroTrim t ch.val = Pair.mk0 0 ∧ spanTrim t ch.val = Pair.mk0 f1 ∧ .trim ∈ t.nor.waiting) ∧
  (∀ (ch : Fin 16) (k : TrimKind) (x : Word) (s : State), up s = true →
    (uaiAt s ch).trimBusy = some k → (uaiAt s ch).trimAt + 2000 ≤ now s → runs (.trimCaptureEnd ch x) s fun t =>
      (uaiAt t ch).trimBusy = none ∧ (uaiAt t ch).trimRef = nanPair ∧
      (trimOk s ch k (trimPair s ch k x) = true → (uaiAt t ch).trimResult = 1 ∧ .trim ∈ t.nor.waiting ∧
        (if k == .zero then zeroTrim t ch.val else spanTrim t ch.val) = trimPair s ch k x) ∧
      (trimOk s ch k (trimPair s ch k x) = false → (uaiAt t ch).trimResult = 2 ∧ t.cfg = s.cfg ∧ t.nor = s.nor)) ∧
  (∀ (ch n : Fin 16) (span : Bool) (a b : BitVec 64) (s : State), chanReady s ch.val = true →
    (if span then cfgUaiTrimSpanDi s ch.val else cfgUaiTrimZeroDi s ch.val).toNat = n.val →
    (diAt s n).press = some (a, b) → (diAt s n).pressDone = false →
    16 ≤ (if span then cfgUaiTrimZeroDi s ch.val else cfgUaiTrimSpanDi s ch.val).toNat →
    runs (.trimButtonRelease ch span) s fun t =>
      ((b - a).toNat < 30000000 → t = s.modDi n fun d => { d with pressDone := true }) ∧
      (100000000 < (b - a).toNat → zeroTrim t ch.val = Pair.mk0 0 ∧ spanTrim t ch.val = Pair.mk0 f1 ∧ .trim ∈ t.nor.waiting) ∧
      (30000000 ≤ (b - a).toNat → (b - a).toNat ≤ 100000000 → (uaiAt s ch).trimBusy = none →
        (uaiAt t ch).trimBusy = some (if span then .span else .zero)))

/-- HART_TRANSACTION_START, HART_TRANSACTION_END, HART_MODEM_SELF_TEST, HART_REDISCOVER and OTHER_MASTER_CLEAR complete. A
transaction takes its idle modem for the channel whose turn it is; its end frees the modem: without an answer it is counted as a
retry up to two and then as a failure, the third failure in a row loses the device, and of a suspended channel neither counts;
an answer to command 0 ends the retries and the run of failures, is counted, gives the device's identity, and begins polling
where that is the one expected; a self-test's result is noted on its modem, the other modems and every channel staying as they
were; REDISCOVER has the device identified anew; OTHER_MASTER clears 10 min after its last sign (from R199 to R202, R207, R208, R253;
the readings of log entry 19). -/
def Obligations.HartTransactions : Prop :=
  (∀ (c : Fin 20) (k : Fin 4) (s : State), modemOf s c = some k → modemNext s k = some c → (vat s.modems k).active = none →
    runs (.hartTransactionStart c) s fun t =>
      (vat t.modems k).active = some c ∧ (hartAt t c).st ≠ .off ∧
      (hartAt t c).cmd = if (hartAt s c).retries = 0 then hartNext s c else (hartAt s c).cmd) ∧
  (∀ (c : Fin 20) (k : Fin 4) (s : State), up s = true → modemBusy s c = some k → hartSuspended s c = false →
    (hartAt s c).retries < 2 → runs (.hartTransactionEnd c none false) s fun t =>
      (vat t.modems k).active = none ∧ (hartAt t c).retries = (hartAt s c).retries + 1 ∧
      (hartAt t c).failures = (hartAt s c).failures) ∧
  (∀ (c : Fin 20) (k : Fin 4) (s : State), up s = true → modemBusy s c = some k → hartSuspended s c = false →
    2 ≤ (hartAt s c).retries → runs (.hartTransactionEnd c none false) s fun t =>
      (vat t.modems k).active = none ∧ (hartAt t c).retries = 0 ∧ (hartAt t c).failures = satInc (hartAt s c).failures ∧
      (2 ≤ (hartAt s c).failRun → (hartAt t c).commFail = true ∧ (hartAt t c).st = .identifying)) ∧
  (∀ (c : Fin 20) (k : Fin 4) (s : State), up s = true → modemBusy s c = some k → hartSuspended s c = true →
    runs (.hartTransactionEnd c none false) s fun t => (vat t.modems k).active = none ∧ t.hart = s.hart) ∧
  (∀ (c : Fin 20) (k : Fin 4) (x : HartResp) (o : Bool) (s : State), up s = true → modemBusy s c = some k → (hartAt s c).cmd = 0 →
    runs (.hartTransactionEnd c (some x) o) s fun t =>
      (vat t.modems k).active = none ∧
      (hartAt t c).retries = 0 ∧ (hartAt t c).failRun = 0 ∧ (hartAt t c).transactions = satInc (hartAt s c).transactions ∧
      (hartAt t c).devType = x.devType ∧ (hartAt t c).devId = x.devId ∧
      ((hartAt t c).st = .polling ↔ idMatches s c.val x = true) ∧ (hartAt t c).idMis = !idMatches s c.val x) ∧
  (∀ (k : Fin 4) (pass : Bool) (s : State), s.field.running = true → runs (.hartModemSelfTest k pass) s fun t =>
    (vat t.modems k).fail = !pass ∧ t.hart = s.hart ∧ ∀ j : Fin 4, j ≠ k → vat t.modems j = vat s.modems j) ∧
  (∀ (r : Req) (c : Fin 20) (s : State), may s r 2 = true → chanReady s c.val = true → (hartAt s c).st ≠ .off →
    runs (.hartRediscover r c) s fun t =>
      (hartAt t c).st = .identifying ∧ (hartAt t c).commFail = false ∧ (hartAt t c).idMis = false) ∧
  (∀ (c : Fin 20) (s : State), (hartAt s c).otherMaster = true → (hartAt s c).otherAt + 600000 ≤ now s →
    runs (.otherMasterClear c) s fun t => t = s.modHart c fun h => { h with otherMaster := false })

/-! Loop outputs. -/

/-- AO_READBACK_SAMPLE, OPEN_TEST_PULSE, MANUAL_ON, MANUAL_OFF, MANUAL_VALUE_WRITE and MANUAL_TIMEOUT complete. A readback
sample of an enabled output gives the pair of the measured current and the flags of R243, and leaves its command, its applied
current and the other outputs; a test pulse of a source below 1 mA settles OPEN both ways and shows OPEN_TEST; MANUAL_ON takes
an output into manual where its manual value is acceptable and else leaves it as it is; MANUAL_OFF ends manual; a manual value
is taken, but an unacceptable one in manual; 30 min without a touch end manual (from R60, R165, R234, R242 to R244, R253, R282; the readings of log
entries 20 to 23). -/
def Obligations.LoopOutputs : Prop :=
  (∀ (n : Fin 4) (ma volts : Word) (cap : Bool) (upset : Word) (s : State), s.field.running = true → linkReady s = true →
    bits (feltAt s (aoOut n)).mode 3 0 ≠ 0 → runs (.aoReadbackSample n ma volts cap upset) s fun t =>
      (aoAt t n).readback = pairUpset ma upset ∧ (aoAt t n).diag = Pair.mk0 (aoFlags s n ma volts cap).1 ∧
      (aoAt t n).command = (aoAt s n).command ∧
      (aoAt t n).applied = (aoAt s n).applied ∧ ∀ k : Fin 4, k ≠ n → aoAt t k = aoAt s k) ∧
  (∀ (n : Fin 4) (ma : Word) (cap : Bool) (s : State), s.field.running = true → linkReady s = true → aoSource s n = true →
    (aoAt s n).openTest = true → fLt (aoAt s n).applied f1 = true → (aoRank s n).1.dead = false →
    runs (.openTestPulse n ma cap) s fun t =>
      bit (aoAt t n).diag.v 0 = (cap && fLt ma (fRat 1 10) && !((portAt s (aoPort n)).st == .foldback)) ∧
      bit (aoAt t n).diag.v 10 = true) ∧
  (∀ (r : Req) (o : Fin 12) (s : State), may s r 2 = true → chanReady s (outChan o) = true → manualOk o (manualPair s o) = true →
    runs (.manualOn r o) s fun t => inManual t o = true) ∧
  (∀ (r : Req) (o : Fin 12) (s : State), may s r 2 = true → chanReady s (outChan o) = true → manualOk o (manualPair s o) = false →
    runs (.manualOn r o) s fun t => inManual t o = inManual s o) ∧
  (∀ (r : Req) (o : Fin 12) (s : State), may s r 2 = true → chanReady s (outChan o) = true →
    runs (.manualOff r o) s fun t => inManual t o = false) ∧
  (∀ (r : Req) (o : Fin 12) (v : Pair) (s : State), may s r 2 = true → chanReady s (outChan o) = true → v.ok = true →
    runs (.manualValueWrite r o v) s fun t =>
      (inManual s o = true → manualOk o v = false → manualPair t o = manualPair s o) ∧
      (inManual s o = false ∨ manualOk o v = true → manualPair t o = v)) ∧
  (∀ (o : Fin 12) (s : State), up s = true → inManual s o = true →
    (if h : o.val < 4 then (aoAt s ⟨o.val, h⟩).manualAt else (doAt s ⟨o.val - 4, by omega⟩).manualAt) + 1800000 ≤ now s →
    runs (.manualTimeout o) s fun t => inManual t o = false)


/-! Vibration and speed. -/

/-- WAVEFORM_SAMPLE_WRITE and FREQUENCY_EDGE complete. A sample of a waveform channel taken at the tick of its index stands at
that index of its ring, the missing code in its place where it is lost or its pair fails, which is counted; the other channels'
rings and captures are as they were. An on transition of a FREQUENCY input whose edge log is written stands at the next index
of its ring, its tick's low word, and is its newest tick; one of an input without a log changes no ring (from R70, R186, R210 to R213;
the readings of log entries 32, 104). -/
def Obligations.WaveformRings : Prop :=
  (∀ (ch : Fin 16) (tick : BitVec 64) (volts upset : Word) (lost : Bool) (i : Nat) (s : State), vibReady s = true →
    waveCh s ch.val = true → sampleAt s ch.val tick.toNat = some i → Mem.wf ramByte s.dram.bytes = true →
    runs (.waveformSampleWrite ch tick volts upset lost) s fun t =>
      (vibAt t ch).writeIndex = BitVec.ofNat 64 i ∧ (vibAt t ch).firstIndex.isSome = true ∧
      ringGet t ch.val (BitVec.ofNat 64 i).toNat = (if lost || decide (upset ≠ 0) then missingCode else waveCode volts) ∧
      t.vib.missing = (if lost || decide (upset ≠ 0) then satInc s.vib.missing else s.vib.missing) ∧
      (∀ k : Fin 16, k ≠ ch → vibAt t k = vibAt s k)) ∧
  (∀ (ch : Fin 16) (tick : BitVec 64) (level : Word) (held : Nat) (s : State), s.field.running = true →
    bits (uaiAt s ch).mode 3 0 = 8 → freqRises (chanMode (uaiAt s ch).mode).sensor (uaiAt s ch) level held = true →
    vibReady s = true → edgeCh s ch.val = true → Mem.wf ramByte s.dram.bytes = true →
    runs (.frequencyEdge ch tick level held) s fun t =>
      (vibAt t ch).lastTick = tick ∧ (uaiAt t ch).freqLast = some tick ∧ tick.toNat ≤ (acqNow t).toNat ∧
      (vibAt t ch).writeIndex = (if (vibAt s ch).firstIndex.isNone then 0 else (vibAt s ch).writeIndex + 1) ∧
      ringGet t ch.val (vibAt t ch).writeIndex.toNat = tick.setWidth 32) ∧
  (∀ (ch : Fin 16) (tick : BitVec 64) (level : Word) (held : Nat) (s : State), s.field.running = true →
    bits (uaiAt s ch).mode 3 0 = 8 → edgeCh s ch.val = false → runs (.frequencyEdge ch tick level held) s fun t =>
      (uaiAt t ch).freqOn = freqSwitch (chanMode (uaiAt s ch).mode).sensor (uaiAt s ch) level held ∧ t.dram = s.dram ∧ t.vib = s.vib)

/-- TRIGGER_CAPTURE, CAPTURE_NOW, SCHEDULED_CAPTURE, CAPTURE_WINDOW_CLOSE, CANCEL_PENDING and RESEND_ID complete. On a waveform
channel of a node whose VIBRATION is READY, the trigger point's entry of ACT_UNACK, an Operator's CAPTURE_NOW, and the schedule's
instant at NORMAL each make a capture, merge into the one whose window is open, or are refused, as R215 and R216 say; a window
that is over closes, and its capture stays pending only where CAPTURES is subscribed; CANCEL_PENDING leaves the captures of
which sending has begun; RESEND_ID puts a capture whose first sample is in the ring with those to be sent again (from R214 to
R217, R225, R229; the readings of log entries 26, 27, 110). -/
def Obligations.Captures : Prop :=
  (∀ (ch : Fin 16) (s : State), vibReady s = true → waveCh s ch.val = true → (vibAt s ch).trigDue = true →
    runs (.triggerCapture ch) s fun t => CaptureTaken s ch 1 t ∧ (vibAt t ch).trigDue = false) ∧
  (∀ (r : Req) (ch : Fin 16) (s : State), may s r 1 = true → vibReady s = true → waveCh s ch.val = true →
    runs (.captureNow r ch) s fun t => CaptureTaken s ch 2 t) ∧
  (∀ (ch : Fin 16) (s : State), vibReady s = true → waveCh s ch.val = true → scheduleDue s ch = true →
    s.power.eff = 0 → runs (.scheduledCapture ch) s fun t => CaptureTaken s ch 3 t ∧ (vibAt t ch).schedAt = opMs s) ∧
  (∀ (ch : Fin 16) (s : State), up s = true → windowOver s ch = true → runs (.captureWindowClose ch) s fun t =>
    (vibAt t ch).windowOpen = false ∧
    ((subscribers s (capturesAddr ch.val)).isEmpty = false → (vibAt t ch).pending = (vibAt s ch).pending) ∧
    ((subscribers s (capturesAddr ch.val)).isEmpty = true →
      ∀ c ∈ (vibAt t ch).pending, c.id ≠ (vibAt s ch).lastCapture)) ∧
  (∀ (r : Req) (ch : Fin 16) (s : State), may s r 2 = true → vibReady s = true → runs (.cancelPending r ch) s fun t =>
    (∀ c, c ∈ (vibAt t ch).pending ↔ c ∈ (vibAt s ch).pending ∧ c.started = true) ∧
    (∀ k : Fin 16, k ≠ ch → vibAt t k = vibAt s k)) ∧
  (∀ (r : Req) (ch : Fin 16) (id : Word) (c : Capture) (s : State), may s r 1 = true → vibReady s = true →
    (vibAt s ch).past.find? (fun c => decide (c.id = id)) = some c → ringOldest s ch ≤ c.first.toNat →
    (vibAt s ch).firstIndex.isSome = true → runs (.resendId r ch id) s fun t =>
      (vibAt t ch).resends = (vibAt s ch).resends ++ [{ c with sent := 0, started := false, truncated := false, resend := true }])

/-- WAVEFORM, FEATURE_UPDATE and FEATURE_STALE_TIMEOUT complete. Where the class's queue has room a WAVEFORM sends from the
oldest triggered capture, without one from the oldest commanded, then from a stream, then from the oldest scheduled, then from
the oldest to be sent again. A feature whose update is due publishes: counted, at this time and with the stamp of its newest
sample, running with its value where it can be computed, else held without speed with its value as it was. One that has not
published for three intervals and its span is held stale with its value as it was (from R218, R221 to R225, R291; the readings of log entries 10, 32,
108, 109, 111). -/
def Obligations.WaveformsAndFeatures : Prop :=
  (∀ s u : State, u = refreshStreams s → vibReady s = true → originBytes s 3 + 65536 ≤ originCap 3 → runs .waveform s fun t =>
    (∀ n i, oldestOf u VibCh.pending (fun c => decide (c.kind = 1)) = some (n, i) → t = noteShed (sendCapture u n i false)) ∧
    (oldestOf u VibCh.pending (fun c => decide (c.kind = 1)) = none →
      (∀ n i, oldestOf u VibCh.pending (fun c => decide (c.kind = 2)) = some (n, i) → t = noteShed (sendCapture u n i false)) ∧
      (oldestOf u VibCh.pending (fun c => decide (c.kind = 2)) = none →
        (∀ n, readyStream u = some n → t = noteShed (sendStream u n)) ∧
        (readyStream u = none →
          (∀ n i, oldestOf u VibCh.pending (fun c => decide (c.kind = 3)) = some (n, i) → t = noteShed (sendCapture u n i false)) ∧
          (oldestOf u VibCh.pending (fun c => decide (c.kind = 3)) = none →
            ∀ n i, oldestOf u VibCh.resends (fun _ => true) = some (n, i) → t = noteShed (sendCapture u n i true)))))) ∧
  (∀ (ch : Fin 16) (k : Nat) (s : State), vibReady s = true → featUsed s ch k = true →
    featShed s ch k = false → (featAt s ch k).st ≠ .heldUnplaced → featDue s ch k = true →
    (speedLost s ch k = true ∨ spanWhole s ch k = true) → runs (.featureUpdate ch k) s fun t =>
      (featAt t ch k).pubs = (featAt s ch k).pubs + 1 ∧ (featAt t ch k).pubAt = now s ∧
      (featAt t ch k).at_ = (vibAt s ch).newestAt ∧
      (speedLost s ch k = false → (featAt t ch k).st = .running ∧ (featAt t ch k).value = Pair.mk0 (featValue s ch k) ∧
        (featAt t ch k).missing = (spanSamples s ch k).any fun w => decide (w = missingCode)) ∧
      (speedLost s ch k = true → (featAt t ch k).st = .heldNoSpeed ∧ (featAt t ch k).value = (featAt s ch k).value)) ∧
  (∀ (ch : Fin 16) (k : Nat) (s : State), vibReady s = true → featUsed s ch k = true → (featAt s ch k).st = .running →
    (featAt s ch k).pubAt + 3 * (cfgFeatUpdateMs s ch.val k).toNat + spanMs s ch k ≤ now s →
    runs (.featureStaleTimeout ch k) s fun t =>
      (featAt t ch k).st = .heldStale ∧ (featAt t ch k).value = (featAt s ch k).value)

/-! Discrete inputs and outputs. -/

/-- DI_FILTER_TRANSITION, DI_LINE_OPEN, TOTAL_PRESET, TOTAL_PRESET_APPLY, CLEAR_WRAP and TOTAL_BACKUP_WRITE complete. A raw
sample moves the counter of its enabled input by one within 0 and COUNT_LIMIT; where it reaches an end the filter turns, a
transition counted in the total where the edge is one that counts, and else nothing but RAW and the counter changes; the other
inputs are as they were. OPEN follows its event. A preset whose pair checks waits, and one that fails changes no input; at the
sample boundary the oldest replaces the total and ends WRAPPED, the sample's own transition following it. CLEAR_WRAP ends
WRAPPED and TOTAL_GAP. The totals of the pulse inputs stand in BACKUP_RAM as pairs, its words below 32 and from 64 on as they were (from R255 to
R264, R281; the readings of log entry 24). -/
def Obligations.DiscreteInputs : Prop :=
  (∀ (n : Fin 16) (x : Bool) (tick : BitVec 64) (s : State), s.field.running = true → diSet (diAt s n) 0 ≠ 0 →
    runs (.diFilterTransition n [x] tick) s fun t =>
      (diAt t n).raw = x ∧ (diAt t n).counter = BitVec.ofNat 8 (diCounted (diAt s n) x) ∧
      (diTurned (diAt s n) x = true → (diAt t n).filtered = x ∧ (diAt t n).transitions = (diAt s n).transitions + 1 ∧
        (diAt t n).lastEdge = tick ∧
        (diAt t n).dieTotal = if diCounts (diAt s n) x then Pair.mk0 ((diAt s n).dieTotal.v + 1) else (diAt s n).dieTotal) ∧
      (diTurned (diAt s n) x = false →
        t = s.modDi n fun d => { d with raw := x, counter := BitVec.ofNat 8 (diCounted (diAt s n) x) }) ∧
      ∀ k : Fin 16, k ≠ n → diAt t k = diAt s k) ∧
  (∀ (n : Fin 16) (o : Bool) (s : State), s.field.running = true → (o = false ∨ diSet (diAt s n) 0 ≠ 0 ∧ diSet (diAt s n) 3 = 1) →
    runs (.diLineOpen n o) s fun t => t = s.modDi n fun d => { d with openFlag := o }) ∧
  (∀ (r : Req) (n : Fin 16) (v : Pair) (s : State), may s r 2 = true → chanReady s (20 + n.val) = true →
    runs (.totalPreset r n v) s fun t =>
      (v.ok = true → (diAt t n).presets = (diAt s n).presets ++ [v]) ∧ (v.ok = false → t.disc = s.disc)) ∧
  (∀ (n : Fin 16) (v : Pair) (l : List Pair) (s : State), s.field.running = true → (diAt s n).presets = v :: l →
    runs (.totalPresetApply n false) s fun t =>
      (diAt t n).dieTotal = v ∧ (diAt t n).dieWrapped = false ∧ (diAt t n).presets = l) ∧
  (∀ (n : Fin 16) (v : Pair) (l : List Pair) (s : State), s.field.running = true → (diAt s n).presets = v :: l →
    runs (.totalPresetApply n true) s fun t =>
      (diAt t n).presets = l ∧ (diAt t n).filtered = !(diAt s n).filtered ∧
      (diAt t n).dieTotal = if diCounts (diAt s n) (!(diAt s n).filtered) then Pair.mk0 (v.v + 1) else v) ∧
  (∀ (r : Req) (n : Fin 16) (s : State), may s r 2 = true → chanReady s (20 + n.val) = true →
    runs (.clearWrap r n false) s fun t =>
      t = s.modDi n fun d => { d with dieWrapped := false, totalGap := false, merged := 0 }) ∧
  (∀ (r : Req) (n : Fin 16) (s : State), may s r 2 = true → chanReady s (20 + n.val) = true →
    runs (.clearWrap r n true) s fun t => (diAt t n).totalGap = false ∧ (diAt t n).filtered = !(diAt s n).filtered ∧
      (diAt t n).dieWrapped = (diCounts (diAt s n) (!(diAt s n).filtered) && decide ((diAt s n).dieTotal.v = 0xFFFFFFFF))) ∧
  (∀ s : State, linkReady s = true → runs .totalBackupWrite s fun t =>
    (∀ n : Fin 16, cfgDiDiMode s n.val = 2 → vat t.bkup.ram (totalSlot n) = (diAt s n).total.v ∧
      vat t.bkup.ram ⟨33 + 2 * n.val, by omega⟩ = (diAt s n).total.c) ∧
    (∀ k : Fin 256, k.val < 32 ∨ 64 ≤ k.val → vat t.bkup.ram k = vat s.bkup.ram k))

/-- DO_CURRENT_LIMIT, DO_THERMAL_CUTOFF, DO_THERMAL_RESTART, RESET_LATCH, DO_GROUP_SHED, DO_SHED_RESTART, DO_OFF_TEST,
DO_OPEN_LOAD_DETECT, DO_REVERSE_BLOCK, DO_STAGGERED_RESTART, DO_PATTERN_EDGE and SAFEN_CHANGE complete. A thermal cut-off
switches its output off, and the ninth within 60 s latches it; the restart comes 2 s after; RESET_LATCH ends the latch and
leaves the thermal cut-off and the history standing; the highest energised output is shed above 3.6 A, and while shedding lasts above
3.0 A, and none at or below; the lowest shed 2 s ago restarts; a test of an output that is off sets EXT_DRIVE and OPEN_LOAD by
its two voltages and clears EXT_DRIVE after three without; a terminal above VFLD blocks its output and one no longer above ends the
block; the lowest output that waits restarts; a pattern edge gives the tick, and no latched, shed or blocked output is energised
after it; a level of SAFEn that has stood is the qualified state, one that has not changes the pin alone (from R268 to R276, R282; the readings of log entries 25, 31). -/
def Obligations.DiscreteOutputs : Prop :=
  (∀ (n : Fin 8) (b : Bool) (s : State), s.field.running = true → runs (.doCurrentLimit n b) s fun t =>
    t = s.modDo n fun d => { d with overload := b }) ∧
  (∀ (n : Fin 8) (s : State), s.field.running = true → (doAt s n).energised = true → runs (.doThermalCutoff n) s fun t =>
    (doAt t n).energised = false ∧ (doAt t n).thermal = true ∧ (doAt t n).cutAt = now s ∧
    (8 ≤ (recentCuts s (doAt s n)).length → (doAt t n).latched = true) ∧
    ∀ k : Fin 8, k ≠ n → doAt t k = doAt s k) ∧
  (∀ (n : Fin 8) (s : State), s.field.running = true → (doAt s n).thermal = true → (doAt s n).latched = false →
    (doAt s n).cutAt + 2000 ≤ now s → runs (.doThermalRestart n) s fun t =>
      (doAt t n).thermal = false ∧ ∀ k : Fin 8, k ≠ n → doAt t k = doAt s k) ∧
  (∀ (r : Req) (n : Fin 8) (s : State), may s r 2 = true → chanReady s (36 + n.val) = true → (doAt s n).latched = true →
    runs (.resetLatch r n) s fun t => (doAt t n).latched = false ∧ (doAt t n).thermal = (doAt s n).thermal ∧
      (doAt t n).cutoffs = (doAt s n).cutoffs) ∧
  (∀ (n : Fin 8) (ma : Nat) (s : State), s.field.running = true →
    (3600 < ma ∨ s.disc.shedding = true ∧ 3000 < ma) → topEnergised s = some n →
    runs (.doGroupShed ma) s fun t => (doAt t n).shed = true ∧ (doAt t n).energised = false ∧ t.disc.shedding = true ∧
      ∀ k : Fin 8, k ≠ n → doAt t k = doAt s k) ∧
  (∀ (ma : Nat) (s : State), s.field.running = true → (ma ≤ 3000 ∨ s.disc.shedding = false ∧ ma ≤ 3600) →
    runs (.doGroupShed ma) s fun t => t.disc.shedding = false ∧ ∀ k : Fin 8, doAt t k = doAt s k) ∧
  (∀ (n : Fin 8) (s : State), s.field.running = true →
    ((List.finRange 8).find? fun n => (doAt s n).shed && decide ((doAt s n).shedAt + 2000 ≤ now s)) = some n →
    runs .doShedRestart s fun t => (doAt t n).shed = false ∧ ∀ k : Fin 8, k ≠ n → doAt t k = doAt s k) ∧
  (∀ (n : Fin 8) (e m : Int) (s : State), s.field.running = true → (doAt s n).energised = false → s.field.band = .normal →
    16000 < s.field.vfldMv → (doAt s n).openTest = 2 → runs (.doOffTest n e m) s fun t =>
      (10000 < e → (doAt t n).extDrive = true) ∧ (3500 < m → (doAt t n).openLoad = true) ∧
      (e ≤ 10000 → (doAt s n).extDrive = false → (doAt t n).extDrive = false) ∧
      (e ≤ 10000 → 2 ≤ (doAt s n).extClear → (doAt t n).extDrive = false)) ∧
  (∀ (n : Fin 8) (s : State), s.field.running = true → (doAt s n).energised = true →
    ((doAt s n).openTest = 1 ∨ (doAt s n).openTest = 2) →
    runs (.doOpenLoadDetect n) s fun t => t = s.modDo n fun d => { d with openLoad := true, testsClear := 0, openGone := 0 }) ∧
  (∀ (n : Fin 8) (s : State), s.field.running = true → (doAt s n).energised = true → runs (.doReverseBlock n true) s fun t =>
    (doAt t n).reverse = true ∧ (doAt t n).extDrive = true ∧ (doAt t n).energised = false) ∧
  (∀ (n : Fin 8) (s : State), s.field.running = true → (doAt s n).reverse = true → runs (.doReverseBlock n false) s fun t =>
    (doAt t n).reverse = false ∧ (doAt t n).extDrive = (doAt s n).extDrive) ∧
  (∀ (n : Fin 8) (s : State), s.field.running = true → s.field.suppliesOn = true →
    ((List.finRange 8).find? fun n => (doAt s n).waitRestart) = some n → runs .doStaggeredRestart s fun t =>
      (doAt t n).waitRestart = false ∧ ∀ k : Fin 8, k ≠ n → doAt t k = doAt s k) ∧
  (∀ (tick : BitVec 64) (s : State), s.field.running = true → runs (.doPatternEdge tick) s fun t =>
    t.disc.acqTick = tick ∧ ∀ n : Fin 8, (doAt s n).latched = true ∨ (doAt s n).shed = true ∨ (doAt s n).reverse = true →
      (doAt t n).energised = false) ∧
  (∀ (low : Bool) (s : State), up s = true → s.disc.safen = !low → runs (.safenChange low true) s fun t =>
    t.disc.safen = low ∧ t.disc.safenPin = low ∧
    (low = true → s.field.running = true → linkReady s = true → t.disc.dieSafen = true)) ∧
  (∀ (low : Bool) (s : State), up s = true → runs (.safenChange low false) s fun t =>
    t = { s with disc := { s.disc with safenPin := low } })



/-! Points and alarms. -/

/-- POINT_EVALUATION, DELAY_EXPIRY, RELEASE_DELAY_EXPIRY, SUPPRESS_HOLD_EXPIRY, SETPOINT_WRITE and MAPPED_TIMEOUT complete. On a
node whose DRAM has not failed, an evaluation of a point that may be evaluated publishes the verdict's value, ends its mark and a
setpoint's wait, and counts: an extra one, one at which a delay, a release delay or a suppression's hold has run out, and a due
one that neither reads a point of its class still to be evaluated nor holds a transition. A due one of a scan in which the
point was evaluated ahead only notes that, and any other due one of an evaluated point leaves it evaluated in that scan. A
setpoint whose pair checks waits for the next evaluation, and one that fails changes no point; a mapped entry without a frame
for its timeout is timed out (from R257, R285 to R296, R317, R321, R322; the readings of log entries 33, 34, 36). -/
def Obligations.Evaluations : Prop :=
  (∀ (p : BitVec 16) (ev : EvalIn) (l : LocalPt) (s : State), up s = true → s.dram.failed = false → tget s.points p.toNat = some l →
    ev.due = false → (l.evaluated = true ∨ l.byDuty = true) →
    runs (.pointEvaluation p ev) s fun t => Evaluated s p.toNat l ev t) ∧
  (∀ (p : BitVec 16) (ev : EvalIn) (l : LocalPt) (s : State), up s = true → s.dram.failed = false → tget s.points p.toNat = some l →
    ev.due = true → (l.evaluated = true ∨ l.byDuty = true ∨ mayStart s p.toNat = true) →
    l.early ≠ some (scanOf s p.toNat ev.tick) → scanDeps s p.toNat (scanOf s p.toNat ev.tick) = [] → heldCount s p.toNat = 0 →
    runs (.pointEvaluation p ev) s fun t => Evaluated s p.toNat l ev t ∧
      (tget t.points p.toNat).map LocalPt.scanNo = some (some (scanOf s p.toNat ev.tick))) ∧
  (∀ (p : BitVec 16) (ev : EvalIn) (l : LocalPt) (s : State), up s = true → tget s.points p.toNat = some l →
    ev.due = true → l.early = some (scanOf s p.toNat ev.tick) → runs (.pointEvaluation p ev) s fun t =>
      t = s.modPoint p.toNat fun k => { k with early := none }) ∧
  (∀ (p : BitVec 16) (ev : EvalIn) (l : LocalPt) (s : State), up s = true → s.dram.failed = false → tget s.points p.toNat = some l →
    ev.due = true → l.evaluated = true → l.early ≠ some (scanOf s p.toNat ev.tick) → runs (.pointEvaluation p ev) s fun t =>
      (tget t.points p.toNat).map (fun k => (k.evaluated, k.scanNo)) = some (true, some (scanOf s p.toNat ev.tick))) ∧
  (∀ (p : BitVec 16) (c : Fin 7) (ev : EvalIn) (l : LocalPt) (s : State), up s = true → s.dram.failed = false →
    tget s.points p.toNat = some l → l.evaluated = true → (vat l.alarm.conds c).running = true →
    runs (.delayExpiry p c ev) s fun t => Evaluated s p.toNat l ev t) ∧
  (∀ (p : BitVec 16) (ev : EvalIn) (l : LocalPt) (s : State), up s = true → s.dram.failed = false → tget s.points p.toNat = some l →
    l.evaluated = true → releaseOver s l.alarm = true → runs (.releaseDelayExpiry p ev) s fun t => Evaluated s p.toNat l ev t) ∧
  (∀ (p : BitVec 16) (ev : EvalIn) (l : LocalPt) (s : State), up s = true → s.dram.failed = false → tget s.points p.toNat = some l →
    l.evaluated = true → holdOver s l.alarm = true → runs (.suppressHoldExpiry p ev) s fun t => Evaluated s p.toNat l ev t) ∧
  (∀ (p : BitVec 16) (v : Pair) (r : Req) (l : LocalPt) (s : State), may s r 2 = true → tget s.points p.toNat = some l →
    cfgPtSource s p.toNat = 3 → runs (.setpointWrite r p v) s fun t =>
      (v.ok = true → (tget t.points p.toNat).map LocalPt.setpointNew = some (some v)) ∧ (v.ok = false → t.points = s.points)) ∧
  (∀ (c : Fin 2) (e : Nat) (s : State), up s = true → 1 ≤ e → cfgHas s 12 (c.val * 65536 + e) = true →
    mapTimedOut s c.val e (tgetD (vat s.can c).maps e {}) = true → runs (.mappedTimeout c e) s fun t =>
      (tget (vat t.can c).maps e).map MapSt.timedOut = some true)

/-- ACK, SHELVE, UNSHELVE, OOS_ON, OOS_OFF and ADAPT_RESTART complete. On a node whose DRAM has not failed, the action on an
evaluated point with no other waiting brings its extra evaluation: one that is an integrity failure holds the action; at any
other it is taken and none waits after it. Then of the conditions of a point in service, neither shelved nor suppressed, an ACK
of every SEQ leaves unacknowledged only ones that are active; SHELVE of a point in service, within its limits, shelves it
for its minutes of recorder time; UNSHELVE leaves it not shelved; OOS_ON puts it out of service and ends shelving; OOS_OFF puts it back;
ADAPT_RESTART leaves the estimator without a valid estimate (from R324 to R326; the readings of log entries 36, 49). -/
def Obligations.OperatorActions : Prop :=
  ∀ (r : Req) (p : BitVec 16) (ev : EvalIn) (l : LocalPt) (s : State), s.dram.failed = false → tget s.points p.toNat = some l →
    l.evaluated = true → l.alarm.held = [] → pendingMergeOf s p.toNat = none →
    (∀ seq : BitVec 16, may s r 1 = true → runs (.ack r p seq ev) s fun t => Acted s p.toNat (.ack seq) ev t fun a =>
      seq = 0xFFFF → l.alarm.oos = false → l.alarm.shelved = false → l.alarm.suppressed = false →
        ∀ n : Fin 7, (vat a.conds n).unack = true → (vat a.conds n).active = true) ∧
    (∀ m : BitVec 12, may s r 1 = true → runs (.shelve r p m ev) s fun t => Acted s p.toNat (.shelve m) ev t fun a =>
      l.alarm.oos = false → m ≠ 0 → m.toNat ≤ (cfgLimShelveMaxMin s p.toNat).toNat →
        a.shelved = true ∧ a.shelveEnd = (recMs s).toNat + 60000 * m.toNat) ∧
    (may s r 1 = true → runs (.unshelve r p ev) s fun t => Acted s p.toNat .unshelve ev t fun a => a.shelved = false) ∧
    (may s r 2 = true → runs (.oosOn r p ev) s fun t => Acted s p.toNat .oosOn ev t fun a => a.oos = true ∧ a.shelved = false) ∧
    (may s r 2 = true → runs (.oosOff r p ev) s fun t => Acted s p.toNat .oosOff ev t fun a => a.oos = false) ∧
    (may s r 2 = true → runs (.adaptRestart r p ev) s fun t => Acted s p.toNat .adaptRestart ev t fun a =>
      a.adaptValid = false)

/-- SHELVE_EXPIRY, HELD_ACTION_DISCARD, ADAPT_ESTIMATE, DAMASK_OBSERVATION, DAMASK_CHECKPOINT, DAMASK_CLEAR, ACK_ALL and
ALARM_RECEIVE complete. Shelving whose time has run out ends; of a point's waiting actions those held for 10 s are discarded and
the others stay; the estimate of a point with ADAPTIVE 1 whose paths agree gives its period, its validity and the effective
on-delay, and one whose paths differ changes no point; an observation of a root changes the point's links to that root alone:
of each, the oldest onset that is owed one, once 5 s have passed, is counted up to 64 and shifts its hit into the history; a checkpoint takes the next number and changes no point; DAMASK_CLEAR empties the tables of its group's
points and leaves every other point; ACK_ALL leaves an acknowledgement of every SEQ waiting last at each point of its group, and the
others as they were. An ALARM of another node whose head fails its check changes no point and nothing held of a node; an
intact one of a SYSTEM condition of which nothing is held, and one of a point that is not this node's, is entered (from R319, R320, R324 to R326, R331, R336, R342, R343, R349; the readings of log
entries 36, 53, 117). -/
def Obligations.AlarmTimersAndAlarms : Prop :=
  (∀ (p : BitVec 16) (l : LocalPt) (s : State), up s = true → tget s.points p.toNat = some l → l.alarm.shelved = true →
    l.alarm.shelveEnd ≤ (recMs s).toNat → runs (.shelveExpiry p) s fun t =>
      (tget t.points p.toNat).map (fun k => (k.alarm.shelved, k.alarm.shelveEnd)) = some (false, 0)) ∧
  (∀ (p : BitVec 16) (l : LocalPt) (s : State), up s = true → tget s.points p.toNat = some l →
    runs (.heldActionDiscard p) s fun t =>
      (tget t.points p.toNat).map (fun k => k.alarm.held) = some (l.alarm.held.filter fun h => decide (now s < h.at_ + 10000))) ∧
  (∀ (p : BitVec 16) (l : LocalPt) (x : Option Word) (s : State), up s = true → tget s.points p.toNat = some l →
    cfgLimAdaptive s p.toNat = 1 →
    x = estimate (estTs (cfgPtClass s p.toNat).toNat) l.alarm.estim.reverse (estN (cfgPtClass s p.toNat).toNat) →
    runs (.adaptEstimate p 0) s fun t =>
      tget t.points p.toNat = some { l with alarm := { l.alarm with
        period := x.getD fNan, adaptValid := x.isSome,
        effOn := if x.isSome then effFrom s p.toNat (x.getD fNan) else cfgLimOnDelay s p.toNat } }) ∧
  (∀ (p : BitVec 16) (u : Word) (l : LocalPt) (s : State), up s = true → tget s.points p.toNat = some l →
    cfgLimAdaptive s p.toNat = 1 → u ≠ 0 → runs (.adaptEstimate p u) s fun t => t.points = s.points ∧ sysActive t 0x06 = true) ∧
  (∀ (p root : BitVec 16) (l : LocalPt) (s : State), up s = true → tget s.points p.toNat = some l →
    cfgGrpDamaskMode s (groupOf s p.toNat) = 1 → l.byDuty = false →
    runs (.damaskObservation p root) s fun t => t.alarms = s.alarms ∧
      ∃ roots, tget t.points p.toNat = some { l with alarm := { l.alarm with roots := roots } } ∧
        roots.length = l.alarm.roots.length ∧ ∀ (i : Nat) (x : RootLink), l.alarm.roots[i]? = some x →
          (x.root ≠ root ∨ x.waits = [] → roots[i]? = some x) ∧
          ∀ w ws, x.root = root → x.waits = w :: ws →
            (w.at_ + 5000 ≤ (recMs s).toNat → roots[i]? = some { x with
              obs := min 64 (x.obs + 1), history := (x.history <<< 1) ||| (if w.hit then 1 else 0), waits := ws }) ∧
            ((recMs s).toNat < w.at_ + 5000 → roots[i]? = some x)) ∧
  (∀ s : State, up s = true → runs .damaskCheckpoint s fun t =>
    t.alarms.checkpointNo = s.alarms.checkpointNo + 1 ∧ t.points = s.points) ∧
  (∀ (r : Req) (g : BitVec 8) (s : State), may s r 3 = true → groupShut s g.toNat = false → runs (.damaskClear r g) s fun t =>
    ∀ p l, tget s.points p = some l → tget t.points p =
      some (if groupOf s p = g.toNat then { l with alarm := { l.alarm with roots := [] } } else l)) ∧
  (∀ (r : Req) (g : BitVec 8) (s : State), may s r 1 = true → groupShut s g.toNat = false → (s.points.map Prod.fst).Nodup →
    runs (.ackAll r g) s fun t => ∀ p l, tget s.points p = some l → tget t.points p =
      some (if groupOf s p = g.toNat
        then { l with alarm := { l.alarm with held := l.alarm.held ++ [{ act := .ack 0xFFFF, at_ := now s }] } } else l)) ∧
  (∀ (src : Fin 64) (ws : List Word) (s : State), up s = true → ws.length = 22 → src.val ≠ nodeNum s →
    runs (.alarmReceive src ws) s fun t =>
      ((alarmHead ws).any (fun p => !p.ok) = true → t.canvas = s.canvas ∧ t.points = s.points ∧
        t.alarms.peerSys = s.alarms.peerSys) ∧
      ((alarmHead ws).any (fun p => !p.ok) = false → bits (ws.getD 0 0) 31 24 = 1 →
        tget s.alarms.peerSys (bits (ws.getD 0 0) 23 16 * 64 + bits (ws.getD 0 0) 5 0) = none →
        tget t.alarms.peerSys (bits (ws.getD 0 0) 23 16 * 64 + bits (ws.getD 0 0) 5 0) = some ⟨ws.getD 6 0, ws.getD 7 0⟩) ∧
      ((alarmHead ws).any (fun p => !p.ok) = false → bits (ws.getD 0 0) 31 24 = 0 →
        losesConflict s src.val (bits (ws.getD 0 0) 15 0) = false → tget s.points (bits (ws.getD 0 0) 15 0) = none →
        tget t.canvas.replica (bits (ws.getD 0 0) 15 0) =
          some (alarmEntry s src.val ws (tget s.canvas.replica (bits (ws.getD 0 0) 15 0)))))

/-- SYSTEM_CONDITION_CHANGE, SYSTEM_CONDITION_CLEAR_TIMER and SYS_ACK complete. A cause that comes leaves its condition active
with this time as its last event's, one that was not active in ACT_UNACK with the next TRANSITION_SEQ; a cause that goes, and for
a timed condition 60 s since its last event, and for LINK_DOWN every port that is in use UP for 10 s, take ACT_UNACK to
RTN_UNACK and ACT_ACK to NORM, and with POINT_CONFLICT no peer's conflict stands; an acknowledgement that fits takes
ACT_UNACK to ACT_ACK and RTN_UNACK to NORM. Of C0_BACKLOG and HISTORY_DROPPING each of the last two may be raised again by the ALARM
that it sends (from R332, R333, R349; the readings of log entry 37). -/
def Obligations.SystemConditions : Prop :=
  (∀ (k : Fin 64) (s : State), up s = true → runs (.systemConditionChange k true) s fun t =>
    sysActive t k = true ∧ (vat t.alarms.sysc k).lastEvent = now s ∧
    (sysActive s k = true → (vat t.alarms.sysc k).seq = (vat s.alarms.sysc k).seq) ∧
    (sysActive s k = false → (vat t.alarms.sysc k).st = .actUnack ∧
      (vat t.alarms.sysc k).seq = nextTseq (vat s.alarms.sysc k).seq)) ∧
  (∀ (k : Fin 64) (s : State), up s = true → runs (.systemConditionChange k false) s fun t =>
    (vat t.alarms.sysc k).st = SysCleared (vat s.alarms.sysc k).st ∨ RaisedAgain k t) ∧
  (∀ (k : Fin 64) (s : State), up s = true → timedConds.contains k.val = true → causeGone s k.val = true → k ≠ 0x2A →
    (vat s.alarms.sysc k).lastEvent + 60000 ≤ now s → runs (.systemConditionClearTimer k) s fun t =>
      ((vat t.alarms.sysc k).st = SysCleared (vat s.alarms.sysc k).st ∨ RaisedAgain k t) ∧
      (k = 0x26 → ∀ e ∈ t.canvas.peers, e.2.conflict = false)) ∧
  (∀ s : State, up s = true → (∀ p : Fin 3, (vat s.ring.ports p).mode = 0 ∨
      ((vat s.ring.ports p).st = .up ∧ (vat s.ring.ports p).upAt + 10000 ≤ now s)) →
    runs (.systemConditionClearTimer 0x2A) s fun t => (vat t.alarms.sysc 0x2A).st = SysCleared (vat s.alarms.sysc 0x2A).st) ∧
  (∀ (r : Req) (code : BitVec 8) (h : code.toNat < 64) (seq : BitVec 16) (s : State), may s r 1 = true →
    seqFits seq (vat s.alarms.sysc ⟨code.toNat, h⟩).seq = true →
    runs (.sysAck r code seq) s fun t =>
      ((vat s.alarms.sysc ⟨code.toNat, h⟩).st = .actUnack → (vat t.alarms.sysc ⟨code.toNat, h⟩).st = .actAck) ∧
      ((vat s.alarms.sysc ⟨code.toNat, h⟩).st = .rtnUnack → (vat t.alarms.sysc ⟨code.toNat, h⟩).st = .norm ∨
        RaisedAgain ⟨code.toNat, h⟩ t))



/-! Calling and panels. -/

/-- TO_MANNED, TO_UMS, ACCEPT_UMS, SET_DUTY, ACCEPT_DUTY, ROTA_ON and ROTA_OFF complete on the node that holds the CALL duty,
from a source that has the right to them. TO_MANNED leaves the space manned, with no call and no passage to UMS pending;
TO_UMS is refused while an alarm calls, and with a duty engineer on the rota and nothing pending begins the passage to UMS
and its time, or leaves UMS standing; ACCEPT_UMS of that passage makes the space unmanned, and is refused without one;
SET_DUTY of an engineer on the rota gives that engineer the duty, in UMS as a passage that leaves the duty as it was, and is
refused for any other engineer or while one is pending; ACCEPT_DUTY by the engineer it is passing to takes the duty and has a
call that stands call anew, and is refused without a passage; ROTA_ON puts an engineer on the rota; ROTA_OFF takes one off,
and is refused for the duty engineer (from R352 to R354, R364). -/
def Obligations.ManningRequests : Prop :=
  (∀ (src : CallFrom) (s : State), up s = true → s.call.holds = true → callRight s 1 src = true → runs (.toManned src) s fun t =>
    t.call.ums = false ∧ t.call.st = .idle ∧ t.call.pend ≠ .toUms) ∧
  (∀ (src : CallFrom) (s u : State), u = applyWaiting s → up s = true → s.call.holds = true → callRight s 2 src = true →
    runs (.toUms src) s fun t =>
      ((callables u).isEmpty = true → u.call.duty ≠ 0xFF → onRota u.call u.call.duty.toNat = true → u.call.pend = .none_ →
        t.call.refused = false ∧ if u.call.ums then t.call.ums = true
          else t.call.pend = .toUms ∧ t.call.pendEnd = some (now s + 1000 * (cfgCallHandoverTimeout s).toNat)) ∧
      ((callables u).isEmpty = false → t.call = refuse u.call)) ∧
  (∀ (src : CallFrom) (s u : State), u = applyWaiting s → up s = true → s.call.holds = true → callRight s 3 src = true →
    runs (.acceptUms src) s fun t =>
      (u.call.pend = .toUms → t.call.ums = true ∧ t.call.pend = .none_) ∧ (u.call.pend ≠ .toUms → t.call = refuse u.call)) ∧
  (∀ (src : CallFrom) (eng : BitVec 8) (s u : State), u = applyWaiting s → up s = true → s.call.holds = true →
    callRight s 4 src = true → runs (.setDuty src eng) s fun t =>
      (eng.toNat < 16 → onRota u.call eng.toNat = true → u.call.pend ≠ .duty →
        if u.call.ums then t.call.pend = .duty ∧ t.call.pendEng = eng ∧ t.call.duty = u.call.duty else t.call.duty = eng) ∧
      (16 ≤ eng.toNat ∨ onRota u.call eng.toNat = false ∨ u.call.pend = .duty → t.call = refuse u.call)) ∧
  (∀ (src : CallFrom) (s u : State), u = applyWaiting s → up s = true → s.call.holds = true → callRight s 5 src = true →
    runs (.acceptDuty src) s fun t =>
      (u.call.pend = .duty → callEng src = u.call.pendEng → t.call.duty = callEng src ∧ t.call.pend = .none_ ∧
        (u.call.st ≠ .idle → t.call.st = .calling)) ∧
      (u.call.pend ≠ .duty ∨ callEng src ≠ u.call.pendEng → t.call = refuse u.call)) ∧
  (∀ (src : CallFrom) (eng : BitVec 8) (s u : State), u = applyWaiting s → up s = true → s.call.holds = true →
    callRight s 0xC src = true → runs (.rotaOn src eng) s fun t =>
      (eng.toNat < 16 → onRota t.call eng.toNat = true) ∧ (16 ≤ eng.toNat → t.call = u.call)) ∧
  (∀ (src : CallFrom) (eng : BitVec 8) (s u : State), u = applyWaiting s → up s = true → s.call.holds = true →
    callRight s 0xD src = true → runs (.rotaOff src eng) s fun t =>
      (eng.toNat < 16 → eng ≠ u.call.duty → onRota t.call eng.toNat = false) ∧
      (eng.toNat < 16 → eng = u.call.duty → t.call = refuse u.call) ∧ (16 ≤ eng.toNat → t.call = u.call))

/-- DEADMAN_START, DEADMAN_RESET, DEADMAN_STOP, ENG_ALARM, ENG_ALARM_RESET and ACCEPT of a call complete on the node that
holds the CALL duty, from a source that has the right to them. The dead-man timer runs for its period from its start and from
a reset, a reset of a timer that is off changes nothing, and a stop leaves it off; the engineers' alarm has or loses its
manual cause; an engineer on the rota accepts the call that stands under its CALL_ID, with the time to attend, and in IDLE is
noted where a cause of the engineers' alarm stands (from R356, R358, R359, R364). -/
def Obligations.CallRequests : Prop :=
  (∀ (src : CallFrom) (s : State), up s = true → s.call.holds = true → callRight s 6 src = true →
    runs (.deadmanStart src) s fun t =>
      t.call.dead = .running ∧ t.call.deadEnd = some (now s + 1000 * (cfgCallDeadmanPeriod s).toNat) ∧ t.call.causeDead = false) ∧
  (∀ (src : CallFrom) (s u : State), u = applyWaiting s → up s = true → s.call.holds = true → callRight s 7 src = true →
    runs (.deadmanReset src) s fun t =>
      (u.call.dead = .off → t = u) ∧
      (u.call.dead ≠ .off → t.call.dead = .running ∧ t.call.deadEnd = some (now s + 1000 * (cfgCallDeadmanPeriod s).toNat))) ∧
  (∀ (src : CallFrom) (s : State), up s = true → s.call.holds = true → callRight s 8 src = true →
    runs (.deadmanStop src) s fun t => t.call.dead = .off ∧ t.call.deadEnd = none ∧ t.call.causeDead = false) ∧
  (∀ (src : CallFrom) (s : State), up s = true → s.call.holds = true → callRight s 9 src = true →
    runs (.engAlarm src) s fun t => t.call.causeManual = true) ∧
  (∀ (src : CallFrom) (s : State), up s = true → s.call.holds = true → callRight s 0xA src = true →
    runs (.engAlarmReset src) s fun t => t.call.causeManual = false) ∧
  (∀ (src : CallFrom) (id : BitVec 16) (s u : State), u = applyWaiting s → up s = true → s.call.holds = true →
    callRight s 0xB src = true → runs (.callAccept src id) s fun t =>
      (16 ≤ (callEng src).toNat ∨ onRota u.call (callEng src).toNat = false → t.call = u.call) ∧
      ((callEng src).toNat < 16 → onRota u.call (callEng src).toNat = true → u.call.st = .calling ∨ u.call.st = .backup ∨ u.call.st = .engineers → id = u.call.callId →
        t.call.st = .accepted ∧ engBit t.call.accepted (callEng src).toNat = true ∧
        t.call.stageEnd = some (now s + 1000 * (cfgCallAttendTime s).toNat)) ∧
      ((callEng src).toNat < 16 → onRota u.call (callEng src).toNat = true → u.call.st = .idle → anyCause u.call = true →
        engBit t.call.accepted (callEng src).toNat = true ∧ t.call.st = .idle))

/-- ACCEPT_TIME_EXPIRY, BACKUP_TIME_EXPIRY, ATTEND_TIME_EXPIRY, HANDOVER_TIMEOUT, DEADMAN_PREWARN, DEADMAN_EXPIRY and
MANNED_ESCALATE_EXPIRY complete on the node that holds the CALL duty, once their time has run out. A call not accepted goes
to the backup stage and its time where one is configured and there is a backup engineer, else to the engineers; from the
backup stage, and from an acceptance not attended to, it goes to the engineers; a passage not accepted ends refused, with
watch and duty as they were; the dead-man timer warns with its end as it was, and expires with its cause of the engineers'
alarm; an alarm that stands too long unacknowledged in MANNED gives that alarm its cause (from R351 to R360). -/
def Obligations.CallTimers : Prop :=
  (∀ s u : State, u = applyWaiting s → up s = true → s.call.holds = true → u.call.st = .calling →
    ranOut u u.call.stageEnd = true → runs .acceptTimeExpiry s fun t =>
      if cfgCallBackupStage s = 1 ∧ u.call.backup ≠ 0xFF
      then t.call.st = .backup ∧ t.call.stageEnd = some (now s + 1000 * (cfgCallBackupTime s).toNat)
      else t.call.st = .engineers ∧ t.call.causeCall = true) ∧
  (∀ s u : State, u = applyWaiting s → up s = true → s.call.holds = true → u.call.st = .backup →
    ranOut u u.call.stageEnd = true → runs .backupTimeExpiry s fun t => t.call.st = .engineers ∧ t.call.causeCall = true) ∧
  (∀ s u : State, u = applyWaiting s → up s = true → s.call.holds = true → u.call.st = .accepted →
    ranOut u u.call.stageEnd = true → runs .attendTimeExpiry s fun t => t.call.st = .engineers ∧ t.call.causeCall = true) ∧
  (∀ s u : State, u = applyWaiting s → up s = true → s.call.holds = true → u.call.pend ≠ .none_ →
    ranOut u u.call.pendEnd = true → runs .handoverTimeout s fun t =>
      t.call.pend = .none_ ∧ t.call.refused = true ∧ t.call.ums = u.call.ums ∧ t.call.duty = u.call.duty) ∧
  (∀ (s u : State) (e : Nat), u = applyWaiting s → up s = true → s.call.holds = true → u.call.dead = .running →
    u.call.deadEnd = some e → e ≤ now s + 1000 * (cfgCallDeadmanPrewarn s).toNat →
    runs .deadmanPrewarn s fun t => t.call.dead = .prewarn ∧ t.call.deadEnd = some e) ∧
  (∀ s u : State, u = applyWaiting s → up s = true → s.call.holds = true → u.call.dead = .prewarn →
    ranOut u u.call.deadEnd = true → runs .deadmanExpiry s fun t => t.call.dead = .expired ∧ t.call.causeDead = true) ∧
  (∀ s u : State, u = mannedNote (applyWaiting s) → up s = true → s.call.holds = true → u.call.ums = false →
    cfgCallMannedEscalate s ≠ 0 → u.call.mannedSince.any (fun e => decide (e.2 + 1000 * (cfgCallMannedEscalate s).toNat ≤ now s)) = true →
    runs .mannedEscalateExpiry s fun t => t.call.causeManned = true)

/-- CALL_DUTY_STEP, CALL_STATE_PERIODIC, CALL_STATE_RECEIVE, CALL_REQUEST_RECEIVE and CALL_PATH_TIMEOUT complete. With no
request waiting, nothing pending and the dead-man timer off, the step of the node that holds the CALL duty opens a call under
the next CALL_ID for the first alarm that calls in UMS, with its time to accept, and closes a call once none calls, each with
the next CALL_SEQ; the periodic CALL STATE goes out with the next CALL_SEQ under this node's number; a CALL STATE whose pairs
check is taken by a node that does not hold the duty where it is newer or the first, and one that fails leaves number and
duty as they were; a CALL_REQUEST that checks joins the requests of the holder, but one of ROTA_ON or ROTA_OFF; 3 s without
CALL STATE on a node with a segment duty leave CALL_PATH active (from R357, R360 to R363, R372, R376; the readings of log
entry 38). -/
def Obligations.CallState : Prop :=
  (∀ (s : State) (v : CondView) (l : List CondView), up s = true → s.call.holds = true → s.call.other = [] →
    s.call.requests = [] → s.call.ums = true → s.call.st = .idle → s.call.pend = .none_ → s.call.dead = .off →
    callables s = v :: l → runs .callDutyStep s fun t =>
      t.call.st = .calling ∧ t.call.callId = s.call.callId + 1 ∧ t.call.opener = v.subject ∧ t.call.seq = s.call.seq + 1 ∧
      t.call.stageEnd = some (now s + 1000 * (cfgCallAcceptTime s).toNat)) ∧
  (∀ s : State, up s = true → s.call.holds = true → s.call.other = [] → s.call.requests = [] → s.call.st ≠ .idle →
    s.call.stageEnd = none → s.call.pend = .none_ → s.call.dead = .off → callables s = [] →
    runs .callDutyStep s fun t => t.call.st = .idle ∧ t.call.causeCall = false ∧ t.call.seq = s.call.seq + 1) ∧
  (∀ s : State, up s = true → s.call.holds = true → runs .callStatePeriodic s fun t =>
    t.call.seq = s.call.seq + 1 ∧ t.call.words.length = 17 ∧ t.call.holder = BitVec.ofNat 8 (nodeNum s)) ∧
  (∀ (src : Fin 64) (ws : List Word) (s : State), up s = true → ws.length = 17 → bits (ws.headD 0) 31 24 = 1 →
    src.val ≠ nodeNum s → runs (.callStateReceive src ws) s fun t =>
      ((callPairs ws).all Pair.ok = true → s.call.holds = false → (s.call.haveState = false ∨ seqNewer (ws.getD 1 0) s.call.seq = true) →
        t.call.seq = ws.getD 1 0 ∧ t.call.haveState = true ∧ t.call.wordsAt = now s ∧
        t.call.duty = BitVec.ofNat 8 (bits (ws.getD 3 0) 15 8) ∧ t.call.callId = BitVec.ofNat 16 (bits (ws.getD 5 0) 31 16)) ∧
      ((callPairs ws).all Pair.ok = false → t.call.seq = s.call.seq ∧ t.call.duty = s.call.duty)) ∧
  (∀ (src : Fin 64) (ws : List Word) (q : CallReq) (s : State), up s = true → ws.length = 5 → bits (ws.getD 0 0) 31 24 = 2 →
    s.call.holds = true → (callPairs ws).all Pair.ok = true →
    reqOf (bits (ws.getD 1 0) 31 24) (BitVec.ofNat 8 (bits (ws.getD 1 0) 7 0)) (BitVec.ofNat 16 (bits (ws.getD 3 0) 31 16)) = some q →
    runs (.callRequestReceive src ws) s fun t => if bits (ws.getD 1 0) 31 24 = 0xC ∨ bits (ws.getD 1 0) 31 24 = 0xD
      then t = s else t.call.requests = s.call.requests ++ [q]) ∧
  (∀ s : State, up s = true → anySegDuty s = true → s.call.holds = false → s.call.wordsAt + 3000 ≤ now s →
    sysActive s 0x2D = false → runs .callPathTimeout s fun t => sysActive t 0x2D = true)

/-- PANEL_ACK_FRAME, PANEL_SILENCE_FRAME, PANEL_REQUEST_FRAME, PANEL_HEARTBEAT, PANEL_LOST_TIMEOUT, PANEL_COMMAND_PERIODIC
and PANEL_ALARM_REPEAT complete on a node with the duty of the panel's segment. An ACK frame that checks leaves its
acknowledgement waiting last at the point of this node it names; SILENCE leaves the panel silenced with nothing unsilenced; a
REQUEST of TO_UMS from a panel with the right joins the requests of the holder; a heartbeat notes its time and ends the
panel's loss; a panel silent for its timeout is lost, with PANEL_LOST active; the frame of every second goes to each segment
whose duty is held, with the clock's seconds; the repeat sends the frames of the alarms that stand, at most 100 on each
segment (from R324, R326, R364 to R371; the readings of log entries 40, 48). -/
def Obligations.PanelFrames : Prop :=
  (∀ (c : Fin 2) (p : Fin 64) (a b x y : Word) (l : LocalPt) (s : State), panelHeard s c.val p.val = true →
    (cfgPanKind s c.val p.val).toNat ≤ 1 → b = ~~~a → y = ~~~x → bits a 31 24 = 0 → bits a 23 16 = nodeNum s →
    tget s.points (bits a 15 0) = some l → BitVec.ofNat 16 (bits x 31 16) ≠ 0xFFFF →
    runs (.panelAckFrame c p [a, b, x, y]) s fun t => (tget t.points (bits a 15 0)).map (fun k => k.alarm.held) =
      some (l.alarm.held ++ [{ act := .ack (BitVec.ofNat 16 (bits x 31 16)), at_ := now s }])) ∧
  (∀ (c : Fin 2) (p : Fin 64) (s : State), panelHeard s c.val p.val = true →
    runs (.panelSilenceFrame c p [0x00000000, 0xFFFFFFFF]) s fun t =>
      (panelAt t (panelKey c.val p.val)).silenced = true ∧ (panelAt t (panelKey c.val p.val)).unsilenced = []) ∧
  (∀ (c : Fin 2) (p : Fin 64) (w : Word) (s : State), panelHeard s c.val p.val = true → s.call.holds = true →
    callRight s 2 (.panel (BitVec.ofNat 4 (cfgPanKind s c.val p.val).toNat) (BitVec.ofNat 8 (cfgPanEngineer s c.val p.val).toNat)) = true →
    runs (.panelRequestFrame c p 2 [w, ~~~w]) s fun t => t.call.requests = s.call.requests ++ [.toUms]) ∧
  (∀ (c : Fin 2) (p : Fin 64) (ws : List Word) (s : State), up s = true → segDutyHeld s c.val = true → p.val < 48 →
    cfgHas s 13 (panelKey c.val p.val) = true →
    runs (.panelHeartbeat c p ws) s fun t =>
      (panelAt t (panelKey c.val p.val)).heardAt = some (now s) ∧ (panelAt t (panelKey c.val p.val)).lost = false) ∧
  (∀ (c : Fin 2) (p : Fin 64) (s : State), up s = true → segDutyHeld s c.val = true →
    cfgHas s 13 (panelKey c.val p.val) = true →
    (panelAt s (panelKey c.val p.val)).lost = false →
    panelSince s c.val p.val + (cfgPanHeartbeatTimeout s c.val p.val).toNat ≤ now s → runs (.panelLostTimeout c p) s fun t =>
      (panelAt t (panelKey c.val p.val)).lost = true ∧ sysActive t 0x2C = true) ∧
  (∀ s : State, up s = true → anySegDuty s = true → runs .panelCommandPeriodic s fun t =>
    ∀ c : Fin 2, segDutyHeld s c.val = true →
      ∃ f, (c.val, f) ∈ t.panels.txq ∧ f.id = panelId 3 (nodeNum s) 63 3 0 ∧ f.words.getD 2 0 = s.bkup.seconds) ∧
  (∀ s : State, up s = true → anySegDuty s = true → runs .panelAlarmRepeat s fun t =>
    t.panels.txq = s.panels.txq ++ (hundred s (repeatFrames s 0)).map (fun f => (0, f)) ++
      (hundred s (repeatFrames s 1)).map (fun f => (1, f)))


/-! Placement, firmware, membership and replication. -/

/-- PLACEMENT_ROUND, TASK_HANDOVER, PLACEMENT_PERIODIC, REBALANCE, ROTATE_NOW and SPARE_ROTATION complete. A round that is
wanted is counted with the quads that take part; where two or more take part, none late, differing or with a failing pair,
the decision takes the next PLACEMENT_EPOCH at this time, and with fewer the decision in effect stands; a handover makes the
engine a task moves to its primary; PLACEMENT is sent after 10 s, as a broadcast where its queue has room; REBALANCE,
ROTATE_NOW and the rotation's day make a round due that rebalances (from R382 to R388, R392, R400, R419, R425; the readings
of log entries 62, 63). -/
def Obligations.PlacementRounds : Prop :=
  (∀ (late differ bad : BitVec 4) (s : State), up s = true → s.cfg.absent = false → s.cfg.fwLoaded = true → s.cfg.phasesDone = 3 →
    roundWanted s = true → runs (.placementRound late differ bad) s fun t =>
      t.canvas.rounds = s.canvas.rounds + 1 ∧ t.canvas.counted = countedMask s ∧
      t.canvas.agreement = agreementCode (maskQuads (countedMask s)).length ∧
      (late = 0 → differ = 0 → bad = 0 → 2 ≤ (maskQuads (countedMask s)).length →
        t.canvas.epoch = Pair.mk0 (s.canvas.epoch.v + 1) ∧ t.canvas.lastRound = now s) ∧
      ((maskQuads (countedMask s)).length < 2 → t.canvas.epoch = s.canvas.epoch ∧ t.canvas.tasks = s.canvas.tasks)) ∧
  (∀ (n : Nat) (task : Task) (e : Fin 16) (s : State), up s = true → tget s.canvas.tasks n = some task → task.moving = some e →
    runs (.taskHandover n) s fun t => (tget t.canvas.tasks n) = some { task with primary := some e, moving := none }) ∧
  (∀ s : State, up s = true → s.cfg.absent = false → fnReady s 1 0 = true → s.canvas.placementSentAt + 10000 ≤ now s →
    runs .placementPeriodic s fun t => t.canvas.placementSentAt = now s ∧ t.canvas.placementDue = false ∧
      (hasRoom s 1 36 → broadcasts t 1 0x25 (placementWords s))) ∧
  (∀ (r : Req) (s : State), may s r 2 = true → fnReady s 0xA 0 = true → runs (.rebalance r) s fun t =>
    t = { s with canvas := { s.canvas with rebalance := true, roundDue := true } }) ∧
  (∀ (r : Req) (s : State), may s r 3 = true → fnReady s 0xA 0 = true → runs (.rotateNow r) s fun t =>
    t.canvas.rebalance = true ∧ t.canvas.roundDue = true) ∧
  (∀ s : State, up s = true → s.cfg.absent = false → s.cfg.phasesDone = 3 → rotationDue s = true →
    runs .spareRotation s fun t => t.canvas.rebalance = true ∧ t.canvas.roundDue = true ∧ t.canvas.rotatedAt = opMs s)

/-- DRAIN_OFF, RESUME, DRAIN_COMPLETE, ENGINE_RETRY and WEAR_READ complete. DRAIN_OFF of a quad that may drain leaves it
draining toward OFF with a round due, and of any other changes nothing; RESUME of a draining quad leaves it in RUN; the end
of a drain leaves the quad in UPDATE or OFF as it was ordered, with the next QUAD_EPOCH and a round due; ENGINE_RETRY puts a
withdrawn engine back with no fault counted and a round due; a wear reading of an engine whose quad is in RUN is noted, worn
from 2 %, and withdraws the engine from 4 % (from R25, R66, R391 to R394, R399, R423; the readings of log entries 63, 64, 113). -/
def Obligations.DrainsAndEngines : Prop :=
  (∀ (r : Req) (q : Fin 4) (s : State), may s r 2 = true → runs (.drainOff r q) s fun t =>
    (mayDrain s q = true → (quadAt t q).st = .drain ∧ (quadAt t q).drainTo = some .toOff ∧ t.canvas.roundDue = true) ∧
    (mayDrain s q = false → t = s) ∧ (∀ k : Fin 4, k ≠ q → quadAt t k = quadAt s k)) ∧
  (∀ (r : Req) (q : Fin 4) (s : State), may s r 2 = true → (quadAt s q).st = .drain → runs (.resume r q) s fun t =>
    (quadAt t q).st = .run ∧ (quadAt t q).drainTo = none ∧ t.canvas.roundDue = true) ∧
  (∀ (q : Fin 4) (s : State), up s = true → (quadAt s q).st = .drain → runs (.drainComplete q) s fun t =>
    (quadAt t q).st = (if (quadAt s q).drainTo = some .toUpdate then .update else .off) ∧
    (quadAt t q).epoch = nextEpoch (quadAt s q).epoch ∧ t.canvas.roundDue = true ∧
    (∀ k : Fin 4, k ≠ q → quadAt t k = quadAt s k)) ∧
  (∀ (r : Req) (e : Fin 16) (s : State), may s r 3 = true → fnReady s 0xA 0 = true → (engineAt s e).withdrawn = true →
    runs (.engineRetry r e) s fun t => (engineAt t e).withdrawn = false ∧ (engineAt t e).faultTimes = [] ∧ t.canvas.roundDue = true) ∧
  (∀ (e : Fin 16) (hz tj ppm : Word) (s : State), ppm = wearOf e hz tj → up s = true → (quadAt s (quadOf e)).st = .run →
    runs (.wearRead e hz tj) s fun t => (engPl t e).wearPpm = ppm ∧ (engPl t e).worn = decide (20000 ≤ ppm.toInt) ∧
    (40000 ≤ ppm.toInt → (engineAt t e).withdrawn = true) ∧
    (ppm.toInt < 40000 → (engineAt t e).withdrawn = (engineAt s e).withdrawn))

/-- FW_BEGIN, FW_ERASE_COMPLETE, FW_WINDOW_WRITE, FW_COMMIT, FW_VERIFY_COMPLETE, FW_CANCEL, FW_RECEIVE_TIMEOUT, FW_APPLY and
FW_QUAD_STEP_COMPLETE complete. FW_BEGIN begins to erase the copy that is not in use, whose region alone reads erased; the
erasure's end begins the reception; a window write of the next word programs it, but those of the FW_SEQ pair, and no byte
outside it; FW_COMMIT begins the check, which gives a good copy the next FW_SEQ, as a pair, and rejects another with the NOR
as it was; FW_CANCEL ends a reception with the NOR as it was, and of a staged copy programs both words of the FW_SEQ pair to
0 so that its header fails; so does the apply that fails at a quad; 10 min without a write end a reception; the apply goes
on, or has ended with every quad in service on the copy (R397; from R25, R394 to R398, R424; the readings of log entry 67).
-/
def Obligations.FirmwareLoads : Prop :=
  (∀ (r : Req) (s : State), may s r 3 = true → s.canvas.fw.st = .idle → startComplete s = true → norBusy s = false →
    s.nor.image = .idle → runs (.fwBegin r) s fun t =>
      t.canvas.fw.st = .erasing ∧ t.canvas.fw.target = !s.cfg.fwCopy ∧ t.canvas.fw.next = 0 ∧
      ∀ a : Nat, memGet norByte t.nor.bytes a =
        if fwBase s (!s.cfg.fwCopy) ≤ a ∧ a < fwBase s (!s.cfg.fwCopy) + norQ s then norByte else memGet norByte s.nor.bytes a) ∧
  (∀ s : State, up s = true → s.canvas.fw.st = .erasing → runs .fwEraseComplete s fun t =>
    t.canvas.fw.st = .receiving ∧ t.nor = s.nor) ∧
  (∀ (r : Req) (idx : BitVec 21) (w : Word) (s : State), may s r 3 = true → s.canvas.fw.st = .receiving →
    idx.toNat = s.canvas.fw.next.toNat → Mem.wf norByte s.nor.bytes = true → runs (.fwWindowWrite r idx [w]) s fun t =>
      t.canvas.fw.next = s.canvas.fw.next + 1 ∧ t.canvas.fw.writtenAt = now s ∧
      (idx.toNat = 1 ∨ idx.toNat = 2 → t.nor = s.nor) ∧
      (idx.toNat ≠ 1 → idx.toNat ≠ 2 → 4 * idx.toNat < min (norQ s) (8 * 2 ^ 20) →
        fwWord t s.canvas.fw.target idx.toNat = w) ∧
      (∀ a : Nat, a < fwBase s s.canvas.fw.target + 4 * idx.toNat ∨ fwBase s s.canvas.fw.target + 4 * idx.toNat + 4 ≤ a →
        memGet norByte t.nor.bytes a = memGet norByte s.nor.bytes a)) ∧
  (∀ (r : Req) (s : State), may s r 3 = true → s.canvas.fw.st = .receiving → runs (.fwCommit r) s fun t =>
    t.canvas.fw.st = .verifying ∧ t.nor = s.nor) ∧
  (∀ s : State, up s = true → s.canvas.fw.st = .verifying → Mem.wf norByte s.nor.bytes = true → runs .fwVerifyComplete s fun t =>
    if fwShape s s.canvas.fw.target && fwBodyOk s s.canvas.fw.target && decide (fwHighest s + 1 < 0xFFFFFFFF)
    then t.canvas.fw.st = .staged ∧ t.canvas.fw.seq = w32 (fwHighest s + 1) ∧
      fwWord t s.canvas.fw.target 1 = w32 (fwHighest s + 1) ∧ fwWord t s.canvas.fw.target 2 = ~~~(w32 (fwHighest s + 1))
    else t.canvas.fw.st = .rejected ∧ t.nor = s.nor) ∧
  (∀ (r : Req) (s : State), may s r 3 = true → Mem.wf norByte s.nor.bytes = true → runs (.fwCancel r) s fun t =>
    (s.canvas.fw.st = .receiving → t.canvas.fw.st = .idle ∧ t.nor = s.nor) ∧
    (s.canvas.fw.st = .staged → t.canvas.fw.st = .idle ∧ fwWord t s.canvas.fw.target 1 = 0 ∧
      fwWord t s.canvas.fw.target 2 = 0 ∧ fwHeaderOk t s.canvas.fw.target = false)) ∧
  (∀ (q : Fin 4) (s : State), up s = true → (quadAt s q).st = .reset → s.cfg.fwLoaded = true → 2 ≤ (quadAt s q).tries →
    s.canvas.fw.st = .applying → s.canvas.fw.at_ = some q → Mem.wf norByte s.nor.bytes = true →
    runs (.quadSelfCheckComplete q false) s fun t =>
      t.canvas.fw.st = .failed ∧ fwWord t s.canvas.fw.target 1 = 0 ∧ fwWord t s.canvas.fw.target 2 = 0 ∧
      sysActive t 0x28 = true) ∧
  (∀ s : State, up s = true → s.canvas.fw.st = .receiving → s.canvas.fw.writtenAt + 600000 ≤ now s →
    runs .fwReceiveTimeout s fun t => t.canvas.fw.st = .idle ∧ t.nor = s.nor) ∧
  (∀ (r : Req) (s : State), may s r 3 = true → s.canvas.fw.st = .staged → runs (.fwApply r) s fun t =>
    t.canvas.fw.st = .applying ∨ (t.canvas.fw.st = .applied ∧ ∀ q : Fin 4, (quadAt t q).st.inService = true → runsNew t q = true)) ∧
  (∀ s : State, up s = true → s.canvas.fw.st = .applying → stepEnded s = true → runs .fwQuadStepComplete s fun t =>
    t.canvas.fw.st = .applying ∨ (t.canvas.fw.st = .applied ∧ ∀ q : Fin 4, (quadAt t q).st.inService = true → runsNew t q = true))

/-- HEARTBEAT_SEND, HEARTBEAT_RECEIVE, PEER_ABSENT_TIMEOUT, FORGET_NODE, C3_GRANT_COMPUTE, DUTY_SEND and DUTY_RECEIVE
complete on a node whose ring is READY. The heartbeat takes the next count and goes out as a broadcast where its queue has
room; one received whose pairs check binds a number heard for the first time to its address, is noted for a number bound to
its address, and from another address leaves the peers as they were with NODE_CLASH active; 325 ms after its last a counted
node is absent and unbound; FORGET_NODE leaves the node forgotten; the C3 grants, the budget and this node's need follow the
view; DUTY goes out as a broadcast; one received from a counted node is ignored where a pair fails, and else each claim
passes a duty to the lower number (from R408, R409, R413 to R421, R447; the readings of log entry 66). -/
def Obligations.Membership : Prop :=
  (∀ s : State, up s = true → fnReady s 1 0 = true → runs .heartbeatSend s fun t =>
    t.canvas.beat = s.canvas.beat + 1 ∧
    (hasRoom s 0 9 → broadcasts t 0 0x2B (heartbeatWords { s with canvas := { s.canvas with beat := s.canvas.beat + 1 } }))) ∧
  (∀ (mac : BitVec 48) (src : BitVec 8) (ws : List Word) (s : State), up s = true → fnReady s 1 0 = true → src.toNat < 64 →
    ([0, 2, 4].all fun i => ws.getD (i + 1) 0 == ~~~(ws.getD i 0)) = true → src.toNat ≠ nodeNum s →
    runs (.heartbeatReceive mac src ws) s fun t =>
      (tget s.ring.bindings src.toNat = none → tget t.ring.bindings src.toNat = some mac) ∧
      (tget s.ring.bindings src.toNat = none ∨ tget s.ring.bindings src.toNat = some mac →
        (peerAt t src.toNat).heardAt = some (now s) ∧ (peerAt t src.toNat).beatNo = (ws.getD 0 0).setWidth 16) ∧
      (∀ m, tget s.ring.bindings src.toNat = some m → m ≠ mac → sysActive t 0x30 = true ∧ t.canvas.peers = s.canvas.peers)) ∧
  (∀ (n : Fin 64) (m : Nat) (s : State), up s = true → (peerAt s n.val).st = .counted → (peerAt s n.val).heardAt = some m →
    m + 325 ≤ now s → runs (.peerAbsentTimeout n) s fun t =>
      (peerAt t n.val).st = .absent ∧ (peerAt t n.val).beats = 0 ∧ tget t.ring.bindings n.val = none) ∧
  (∀ (r : Req) (n : BitVec 8) (p : Peer) (s : State), may s r 3 = true → fnReady s 0xA 0 = true →
    tget s.canvas.peers n.toNat = some p → runs (.forgetNode r n) s fun t =>
      tget t.canvas.peers n.toNat = some { p with forgotten := true }) ∧
  (∀ s : State, up s = true → fnReady s 1 0 = true → runs .c3GrantCompute s fun t =>
    t.canvas.grants = viewGrants s ∧ t.canvas.grant = tgetD (viewGrants s) (nodeNum s) 0 ∧
    t.canvas.budget = w32 (viewBudget s) ∧ t.canvas.need = w32 (ownNeed s)) ∧
  (∀ s : State, up s = true → s.cfg.absent = false → fnReady s 1 0 = true → runs .dutySend s fun t =>
    hasRoom s 0 56 → broadcasts t 0 0x26 (dutyWords s)) ∧
  (∀ (src : Fin 64) (ws : List Word) (s : State), up s = true → fnReady s 1 0 = true → (peerAt s src.val).st = .counted →
    runs (.dutyReceive src ws) s fun t =>
      ((dutyPairs ws).all Pair.ok = false → t.canvas.duty = s.canvas.duty) ∧
      ((dutyPairs ws).all Pair.ok = true → t.canvas.duty.call = keeper s.canvas.duty.call (bits (ws.headD 0) 31 24) src.val ∧
        ∀ x : Fin 64, vat t.canvas.duty.peer x = keeper (vat s.canvas.duty.peer x) (holderByte ws 8 x.val) src.val))

/-- REPLICA_DELTA_SEND, REPLICA_REFRESH, REPLICA_DELTA_RECEIVE, REPLICA_SNAPSHOT_RECEIVE and REPLICA_STALE_TIMEOUT complete.
A delta takes at most 22 records from those waiting and goes out as a broadcast where its queue has room; a point not sent
for 10 s is noted as sent with its value now; a delta received gives the SEQUENCE that is expected next where none was, and
one whose prefix fails changes neither replica nor points; a snapshot whose prefix fails changes nothing of Canvas, and one
of one part completes its sender's snapshot with its base; a replica record without one from its holder for 25 s is stale
(from R92, R93, R402 to R405; the readings of log entry 68). -/
def Obligations.Replication : Prop :=
  (∀ s : State, up s = true → runs .replicaDeltaSend s fun t =>
    t.canvas.deltaq = s.canvas.deltaq.drop 22 ∧
    (s.canvas.deltaq ≠ [] → hasRoom s 2 (4 + ((s.canvas.deltaq.take 22).flatten).length) →
      broadcasts t 2 0x29 (repPrefix 1 (s.canvas.deltaq.take 22).length 0 1 0 ++ (s.canvas.deltaq.take 22).flatten))) ∧
  (∀ (p : BitVec 16) (l : LocalPt) (s : State), up s = true → tget s.points p.toNat = some l → l.sentAt + 10000 ≤ now s →
    runs (.replicaRefresh p) s fun t => (tget t.points p.toNat).map (fun k => (k.lastSent, k.sentAt)) = some (l.pub.value, now s)) ∧
  (∀ (src : Fin 64) (seq : Word) (ws : List Word) (s : State), up s = true → fnReady s 1 0 = true →
    runs (.replicaDeltaReceive src seq ws) s fun t =>
      (tget s.ring.expects (expectKey src.val 2) = none → (tget t.ring.expects (expectKey src.val 2)).map Expect.next = some (seq + 1)) ∧
      (prefixOk ws = false → t.canvas.replica = s.canvas.replica ∧ t.points = s.points)) ∧
  (∀ (src : Fin 64) (ws : List Word) (s : State), up s = true → fnReady s 1 0 = true →
    runs (.replicaSnapshotReceive src ws) s fun t =>
      (prefixOk ws = false → t.canvas = s.canvas) ∧
      (prefixOk ws = true → bits (ws.getD 0 0) 31 24 = 1 → bits (ws.getD 1 0) 31 16 = 1 →
        (peerAt t src.val).snapped = true ∧ (peerAt t src.val).snapBase = ws.getD 2 0 ∧ src.val ∉ t.sys.snapAwait)) ∧
  (∀ (p : BitVec 16) (r : RepPt) (s : State), up s = true → tget s.canvas.replica p.toNat = some r → r.at_ + 25000 ≤ now s →
    runs (.replicaStaleTimeout p) s fun t => tget t.canvas.replica p.toNat = some { r with stale := true })


/-! Ring, switch and Bereb. -/

/-- PORT_LINK_CHANGE, RING_FRAME_RECEIVE, STATION_FRAME_RECEIVE and PROXY_ENTRY_EXPIRY complete with the ring up. A port's
link takes the state of its mode, a link that comes up is counted, one that is not up neither preempts nor pauses, one that
an enabled port loses leaves its condition active, and the other ports are as they were. A frame whose check sum fails is
counted and goes nowhere; an own frame that returns is counted, goes nowhere and notes its time; a duplicate delivered and
sent is counted and goes nowhere; a frame seen for the first time, for others, leaves by the other port and is counted there.
A frame of link S from an address that does not fit the proxy table leaves the table as it was with its condition active, and
any other is learned. An entry unused for 60 s is empty, the others standing (from R426 to R431, R434 to R436; the readings
of log entry 80). -/
def Obligations.RingPorts : Prop :=
  (∀ (p : Fin 3) (a b v : Bool) (sp : BitVec 2) (s : State), ringUp s = true → runs (.portLinkChange p a b v sp) s fun t =>
    (linkAt t p).st = linkSt s p a b ∧
    (linkSt s p a b = .up → (linkAt s p).st ≠ .up → (linkAt t p).changes = satInc (linkAt s p).changes) ∧
    (linkSt s p a b ≠ .up → (linkAt t p).preempt = false ∧ (linkAt t p).pausing = false) ∧
    ((linkAt s p).st = .up → linkSt s p a b ≠ .up → (linkAt s p).mode ≠ 0 → sysActive t 0x2A = true) ∧
    (∀ k : Fin 3, k ≠ p → linkAt t k = linkAt s k)) ∧
  (∀ (p : Fin 2) (f : RingFrame) (s : State), ringUp s = true → linkUp s (ringPort p) = true → f.fcsOk = false →
    runs (.ringFrameReceive p f) s fun t =>
      (linkAt t (ringPort p)).rx = satInc (linkAt s (ringPort p)).rx ∧
      (linkAt t (ringPort p)).fcs = satInc (linkAt s (ringPort p)).fcs ∧ t.ring.wireOut = [] ∧ t.ring.dups = s.ring.dups) ∧
  (∀ (p : Fin 2) (f : RingFrame) (s : State), ringUp s = true → linkUp s (ringPort p) = true → f.fcsOk = true →
    f.tagged = true → f.kind ≠ .pause → f.src = nodeMac s → runs (.ringFrameReceive p f) s fun t =>
      (linkAt t (ringPort p)).own = satInc (linkAt s (ringPort p)).own ∧ t.ring.wireOut = [] ∧
      (if p = 1 then t.ring.returnedAB = now s else t.ring.returnedBA = now s)) ∧
  (∀ (p : Fin 2) (f : RingFrame) (e : HsrDup) (s : State), ringUp s = true → linkUp s (ringPort p) = true → f.fcsOk = true →
    f.tagged = true → f.kind ≠ .pause → f.src ≠ nodeMac s → inProxy s f.src = false → dupOf s f.src f.hsrSeq = some e →
    e.delivered = true → (if otherPort p = 0 then e.sentA else e.sentB) = true → f.dst = groupMac s → nodeMac s ≠ groupMac s →
    runs (.ringFrameReceive p f) s fun t =>
      (linkAt t (ringPort p)).dups = satInc (linkAt s (ringPort p)).dups ∧ t.ring.wireOut = []) ∧
  (∀ (p : Fin 2) (f : RingFrame) (s : State), ringUp s = true → linkUp s (ringPort p) = true → f.fcsOk = true →
    f.tagged = true → f.kind ≠ .pause → f.src ≠ nodeMac s → inProxy s f.src = false → dupOf s f.src f.hsrSeq = none →
    f.dst ≠ nodeMac s → f.idle = true → linkUp s (ringPort (otherPort p)) = true → runs (.ringFrameReceive p f) s fun t =>
      (BitVec.ofNat 2 (otherPort p).val, BitVec.ofNat 2 (frameClass false f.kind).val) ∈ t.ring.wireOut ∧
      (linkAt t (ringPort (otherPort p))).tx = satInc (linkAt s (ringPort (otherPort p))).tx) ∧
  (∀ (f : RingFrame) (s : State), ringUp s = true → linkUp s 2 = true → f.fcsOk = true → f.kind ≠ .pause →
    runs (.stationFrameReceive f) s fun t =>
      (learn s f.src = none → sysActive t 0x34 = true ∧ t.ring.proxy = s.ring.proxy ∧ t.ring.wireOut = []) ∧
      (∀ u, learn s f.src = some u → t.ring.proxy = u.ring.proxy ∧ inProxy t f.src = true)) ∧
  (∀ (k : Fin 8) (x : Proxy) (s : State), ringUp s = true → vat s.ring.proxy k = some x → x.at_ + 60000 ≤ now s →
    runs (.proxyEntryExpiry k) s fun t => vat t.ring.proxy k = none ∧ ∀ j : Fin 8, j ≠ k → vat t.ring.proxy j = vat s.ring.proxy j)

/-- HSR_SUPERVISION_SEND, RING_OPEN_TIMEOUT, PAUSE_REFRESH, FRAME_BUFFER_ECC_ERROR, PTP_MESSAGE_RECEIVE,
PTP_PEER_DELAY_MEASURE and PTP_ANNOUNCE_TIMEOUT complete with the ring up. Supervision leaves by both ports under the next
HSR number; own frames missing for 6 s in a direction open the ring, and 6 s of both close it; PAUSE holds link S back above
256 KiB and lets go at 128 KiB; an error in a frame of the buffer discards that copy, counted, with its condition active; the
better grandmaster's Announce is followed, its Sync makes an uncalibrated node a slave with that offset; a path delay is
noted on its port alone; after three announce intervals without Announce there is no master, and 10 s later the condition is active (from R429 to R433,
R440, R441, R459; the readings of log entries 81, 82, 114). -/
def Obligations.RingAndTimeMessages : Prop :=
  (∀ s : State, ringUp s = true → linkUp s 0 = true → linkUp s 1 = true → runs .hsrSupervisionSend s fun t =>
    t.ring.wireOut = [(0, 1), (1, 1)] ∧ t.ring.hsrSeq = s.ring.hsrSeq + 1) ∧
  (∀ s : State, ringUp s = true → runs .ringOpenTimeout s fun t =>
    ((s.ring.returnedAB + 6000 ≤ now s ∨ s.ring.returnedBA + 6000 ≤ now s) → t.ring.ringOpen = true) ∧
    (∀ m, ¬(s.ring.returnedAB + 6000 ≤ now s ∨ s.ring.returnedBA + 6000 ≤ now s) → s.ring.bothSince = some m →
      m + 6000 ≤ now s → t.ring.ringOpen = false)) ∧
  (∀ s : State, ringUp s = true → linkUp s 2 = true → runs .pauseRefresh s fun t =>
    (262144 < heldBytes s → (linkAt t 2).pausing = true ∧ (linkAt t 2).pauses = satInc (linkAt s 2).pauses) ∧
    (heldBytes s ≤ 131072 → (linkAt t 2).pausing = false)) ∧
  (∀ (c : Fin 4) (src : BitVec 48) (q : BitVec 16) (s : State), ringUp s = true → runs (.frameBufferEccError c .transit src q) s fun t =>
    (classAt t c).discards = satInc (classAt s c).discards ∧ sysActive t 0x33 = true ∧
    ∀ d ∈ t.ring.dups, d.mac = src → d.seq = q → d.sentA = false ∧ d.sentB = false) ∧
  (∀ (p : Fin 3) (g : GmData) (utc : BitVec 16) (v : Bool) (s : State), ptpOn s = true → linkUp s p = true → g.steps.toNat < 255 →
    (match s.ring.ptp.best with
      | none => true
      | some b => decide (gmKey g < gmKey b)) = true →
    runs (.ptpMessageReceive p (.announce g utc v)) s fun t =>
      t.ring.ptp.best = some g ∧ t.ring.ptp.gm = g.gm ∧ t.ring.ptp.gmClass = g.cls ∧ t.ring.ptp.announceAt = now s) ∧
  (∀ (p : Fin 3) (x : Nat) (o : Word) (s : State), ptpOn s = true → linkUp s p = true → s.ring.ptp.best.isSome = true →
    s.ring.ptp.st = .uncalibrated → runs (.ptpMessageReceive p (.sync x o)) s fun t =>
      t.ring.ptp.st = .slave ∧ t.ring.ptp.offset = o ∧ t.ring.ptp.seconds = x) ∧
  (∀ (p : Fin 2) (ns : Word) (s : State), ptpOn s = true → linkUp s (ringPort p) = true → runs (.ptpPeerDelayMeasure p ns) s fun t =>
    t = s.modRingPort (ringPort p) fun r => { r with pathDelay := ns }) ∧
  (∀ s : State, ptpOn s = true → announceLapsed s = true →
    runs .ptpAnnounceTimeout s fun t =>
    t.ring.ptp.st = .noMaster ∧
    (s.ring.ptp.st ≠ .noMaster → t.ring.ptp.best = none ∧ t.ring.ptp.gmClass = 0xFF ∧ t.ring.ptp.noMasterAt = some (now s)) ∧
    (∀ m, s.ring.ptp.st = .noMaster → s.ring.ptp.noMasterAt = some m → m + 10000 ≤ now s → sysActive t 0x31 = true))

/-- ORIGINATION_SEND, BEREB_RECEIVE, SEQUENCE_HOLD_EXPIRY, EVENT, RING_CLEAR_COUNTERS and CLEAR_PEAKS complete. The oldest
message of a class leaves when its tokens suffice, counted, under the next HSR number, and of the classes 1 to 3 the queue
and the tokens are less by it; while a class before it has one that may go, a class sends nothing; a message received that fails a check is counted under its cause and does nothing else; a
reply that checks leaves none outstanding under its tag and type; held messages of a sender and class are gone when their
hold ends; the events waiting go out and leave none, each subscription of them marked with whether its queue is past a
quarter; RING_CLEAR_COUNTERS clears the counts of causes, requests, classes and ports and leaves the queues; CLEAR_PEAKS puts
each peak to what stands queued and leaves the discards (from R429, R437 to R449, R457, R461; the readings of log entries 41,
82). -/
def Obligations.SendAndReceive : Prop :=
  (∀ (c : Fin 4) (m : Msg) (l : List Msg) (s : State), ringUp s = true → c ≠ 0 → s.ring.heldS = [] → (classAt s c).queue = m :: l →
    msgBits m ≤ (classAt (refill s c) c).bucket → (∀ d : Fin 4, d < c → classReady s d = false) → runs (.originationSend c) s fun t =>
      (classAt t c).queue = l ∧ (classAt t c).originated = satInc (classAt s c).originated ∧
      (classAt t c).bucket = (classAt (refill s c) c).bucket - msgBits m ∧ t.ring.hsrSeq = s.ring.hsrSeq + 1) ∧
  (∀ (m : Msg) (l : List Msg) (s : State), ringUp s = true → (classAt s 0).queue = m :: l →
    msgBits m ≤ (classAt (refill s 0) 0).bucket → runs (.originationSend 0) s fun t =>
      (classAt t 0).originated = satInc (classAt s 0).originated ∧ t.ring.hsrSeq = s.ring.hsrSeq + 1) ∧
  (∀ (c d : Fin 4) (s : State), ringUp s = true → d < c → classReady s d = true → runs (.originationSend c) s fun t => t = s) ∧
  (∀ (mac : BitVec 48) (ws : List Word) (k : Fin 8) (s : State), ringUp s = true → discardCause s mac ws = some k →
    runs (.berebReceive mac ws) s fun t => t.ring.causes = vmod s.ring.causes k satInc) ∧
  (∀ (mac : BitVec 48) (ws : List Word) (s : State), ringUp s = true → discardCause s mac ws = none →
    isReply (parseMsg mac ws).type = true → (parseMsg mac ws).src.toNat < 64 → runs (.berebReceive mac ws) s fun t =>
      ∀ o ∈ t.ring.outstanding, ¬(o.1 = (parseMsg mac ws).tag ∧ o.2 = (parseMsg mac ws).type)) ∧
  (∀ (n : Fin 64) (c : Fin 4) (s : State), ringUp s = true → (heldOf s n c.val).isEmpty = false →
    runs (.sequenceHoldExpiry n c) s fun t => heldOf t n c.val = []) ∧
  (∀ s : State, ringUp s = true → s.linen.events ≠ [] → runs .eventSend s fun t =>
    t.linen = { s.linen with events := [] } ∧ ∀ u ∈ t.ring.subs, feedsEvents u = true → u.gap = decide (4194304 < originBytes s 1)) ∧
  (∀ (r : Req) (s : State), may s r 2 = true → fnReady s 1 0 = true → runs (.ringClearCounters r) s fun t =>
    t.ring.causes = Vector.replicate 8 0 ∧ t.ring.hostReqs = Vector.replicate 16 0 ∧
    (∀ c : Fin 4, (classAt t c).discards = 0 ∧ (classAt t c).originated = 0 ∧ (classAt t c).queue = (classAt s c).queue) ∧
    ∀ p : Fin 3, (linkAt t p).rx = 0 ∧ (linkAt t p).tx = 0 ∧ (linkAt t p).fcs = 0 ∧ (linkAt t p).dups = 0 ∧ (linkAt t p).own = 0) ∧
  (∀ (r : Req) (s : State), may s r 2 = true → fnReady s 1 0 = true → runs (.clearPeaks r) s fun t =>
    ∀ c : Fin 4, (classAt t c).peak = (classAt s c).occupancy ∧ (classAt t c).discards = (classAt s c).discards)

/-- READ, WRITE, SUBSCRIBE, UNSUBSCRIBE, SNAPSHOT_REQUEST, IDENTIFY, END_SESSION, SUBSCRIPTION_CHECK and SUBSCRIPTION_LAPSE
complete. Where the request is no repeat, no limit is reached and its range is one that R449 admits: READ is answered with
the words of its range, WRITE writes them and is acknowledged, SUBSCRIBE leaves one subscription under its name with the
words as last told, UNSUBSCRIBE leaves none under its name and every other, SNAPSHOT_REQUEST of a bound node sends it the
snapshot, IDENTIFY is answered with its words, END_SESSION leaves the session no subscription and no cursor. A READ of a
range not admitted is only counted. A subscription alone on the node whose range has changed, past its least interval and
with none of its notices waiting, is reported; a station unheard for 60 s has no subscription left and every other stands
(from R8, R449 to R456, R510; the readings of log entries 78, 79). -/
def Obligations.BerebRequests : Prop :=
  (∀ (q : Rq) (addr : Word) (n : BitVec 16) (s u : State), u = noteRequester s (rqReq q) → ringUp s = true →
    spanOk addr n.toNat = true → repeatOf u q 1 = none → atLimit u q.mac = false → windowsIn addr n.toNat = [] →
    q.noReply = false → hasRoom u 1 n.toNat → (readObjs u (rqReq q) addr n.toNat).length = n.toNat →
    runs (.berebRead q addr n) s fun t => ∃ m ∈ (classAt t 1).queue, m.type = 0x11 ∧ m.tag = q.tag ∧ m.mac = q.mac ∧
      m.status = 0 ∧ m.addr = addr ∧ m.payload = readObjs u (rqReq q) addr n.toNat) ∧
  (∀ (q : Rq) (addr : Word) (n : BitVec 16) (s : State), ringUp s = true → spanOk addr n.toNat = false →
    runs (.berebRead q addr n) s fun t => t = { s with ring := { s.ring with causes := vmod s.ring.causes 3 satInc } }) ∧
  (∀ (q : Rq) (addr : Word) (ws : List Word) (s u : State), u = noteRequester s (rqReq q) → ringUp s = true →
    spanOk addr ws.length = true → repeatOf u q 2 = none → atLimit u q.mac = false → q.noReply = true → q.tag = 0 →
    runs (.berebWrite q addr ws) s fun t => t = writeObjs u (rqReq q) addr ws) ∧
  (∀ (q : Rq) (addr : Word) (ws : List Word) (s u : State), u = noteRequester s (rqReq q) → ringUp s = true →
    spanOk addr ws.length = true → repeatOf u q 2 = none → atLimit u q.mac = false → q.noReply = false →
    hasRoom (writeObjs u (rqReq q) addr ws) 1 0 → runs (.berebWrite q addr ws) s fun t =>
      ∃ m ∈ (classAt t 1).queue, m.type = 0x12 ∧ m.tag = q.tag ∧ m.mac = q.mac ∧ m.status = 0) ∧
  (∀ (q : Rq) (addr : Word) (n : BitVec 16) (w : Word) (s u : State), u = noteRequester s (rqReq q) → ringUp s = true →
    spanOk addr n.toNat = true → repeatOf u q 3 = none → atLimit u q.mac = false → windowsIn addr n.toNat = [] →
    u.ring.subs.length < 32 → runs (.berebSubscribe q addr n w) s fun t =>
      ∃ x ∈ t.ring.subs, named q x = true ∧ x.addr = addr ∧ x.count = n.toNat ∧ x.maxMs = 100 * bits w 31 16 ∧
        x.last = readObjs u (rqReq q) addr n.toNat ∧ ∀ y ∈ t.ring.subs, named q y = true → y = x) ∧
  (∀ (q : Rq) (s u : State), u = noteRequester s (rqReq q) → ringUp s = true → repeatOf u q 4 = none → atLimit u q.mac = false →
    runs (.berebUnsubscribe q) s fun t => ∀ y, y ∈ t.ring.subs ↔ y ∈ u.ring.subs ∧ named q y = false) ∧
  (∀ (q : Rq) (n : Nat) (s u : State), u = noteRequester s (rqReq q) → ringUp s = true → repeatOf u q 5 = none →
    atLimit u q.mac = false → q.tag = 0 → boundNode u q.mac = some n → runs (.snapshotRequest q) s fun t =>
      t = sendSnapshot u q.mac n) ∧
  (∀ (q : Rq) (s u : State), u = noteRequester s (rqReq q) → ringUp s = true → repeatOf u q 5 = none → atLimit u q.mac = false →
    q.noReply = false → hasRoom u 1 15 → runs (.identify q) s fun t => ∃ m ∈ (classAt t 1).queue, m.type = 0x15 ∧
      m.tag = q.tag ∧ m.mac = q.mac ∧ m.payload = identifyWords u q.mac) ∧
  (∀ (q : Rq) (s u : State), u = noteRequester s (rqReq q) → ringUp s = true → repeatOf u q 5 = none → atLimit u q.mac = false →
    runs (.endSession q) s fun t => (∀ y ∈ t.ring.subs, ¬(y.mac = q.mac ∧ y.sess = q.sess)) ∧
      ∀ c : Fin 8, ¬((cursorAt t c).owned = true ∧ (cursorAt t c).mac = q.mac ∧ (cursorAt t c).sess = q.sess)) ∧
  (∀ (x : Subs) (s : State), ringUp s = true → s.ring.subs = [x] → windowsIn x.addr x.count = [] →
    readObjs s { mac := x.mac, sess := x.sess } x.addr x.count ≠ x.last → x.lastAt + x.minMs ≤ now s → notePending s x = false →
    (readObjs s { mac := x.mac, sess := x.sess } x.addr x.count).length = x.count → hasRoom s 1 x.count →
    runs .subscriptionCheck s fun t => ∃ m ∈ (classAt t 1).queue, m.notify = true ∧ m.type = 0x11 ∧ m.tag = x.tag ∧ m.mac = x.mac) ∧
  (∀ (mac : BitVec 48) (x : StationSess) (s : State), up s = true → (s.ring.stations.find? fun t => t.mac == mac) = some x →
    x.at_ + 60000 ≤ now s → runs (.subscriptionLapse mac) s fun t =>
      ∀ y, y ∈ t.ring.subs ↔ y ∈ s.ring.subs ∧ y.mac ≠ mac)

/-- REGISTER_WRITE and TAP_INSTRUCTION complete. A write of TRIM_REFERENCE takes a pair that checks, and no other; WAKE_AT
takes its word at Service level; a station word of BACKUP_RAM takes its word and no other does; an address of a domain
without objects takes nothing, but any write under a new SESSION of an amendment's owner ends it; a test access port
instruction takes the logic balls, but BYPASS and IDCODE, which give them back (from R8 to R12, R60, R128, R193; the readings
of log entries 59, 60). -/
def Obligations.RegisterWrites : Prop :=
  (∀ (r : Req) (n : Fin 16) (v c : Word) (s u : State), u = noteOwner s r → may s r 2 = true → chanReady s n.val = true →
    runs (.registerWrite r (0x40000000 + w32 (0x100 * n.val + 0xA)) [v, c]) s fun t =>
      (c = ~~~v → t = u.modUai n fun x => { x with trimRef := ⟨v, c⟩ }) ∧ (c ≠ ~~~v → t.uai = s.uai)) ∧
  (∀ (r : Req) (w : Word) (s u : State), u = noteOwner s r → may s r 3 = true → fnReady s 2 0 = true →
    runs (.registerWrite r 0x80000018 [w]) s fun t => t = u.modBkup fun b => { b with wakeAt := w }) ∧
  (∀ (r : Req) (i : Fin 64) (w : Word) (s : State), may s r 2 = true → fnReady s 2 0 = true →
    runs (.registerWrite r (0x800001C0 + w32 i.val) [w]) s fun t =>
      vat t.bkup.ram ⟨192 + i.val, by omega⟩ = w ∧ ∀ k : Fin 256, k.val ≠ 192 + i.val → vat t.bkup.ram k = vat s.bkup.ram k) ∧
  (∀ (r : Req) (addr w : Word) (s : State), up s = true → 0xD ≤ bits addr 31 28 →
    runs (.registerWrite r addr [w]) s fun t => t = noteOwner s r) ∧
  (∀ (ins : TapIns) (s : State), runs (.tapInstruction ins) s fun t =>
    t = { s with pins := { s.pins with tapTaken := !(decide (ins = .bypass) || decide (ins = .idcode)) } })


/-! CAN. -/

/-- CAN_BUS_IDLE_DETECT, CAN_NORMAL_ENTRY, CAN_BUS_OFF, CAN_BUS_OFF_RECOVERY, RECOVER_NOW, CAN_CLEAR_COUNTERS and
CAN_RECEIVE_ERROR complete. A listening controller without the duty that finds the bus idle is RESTRICTED and its bus READY;
a restricted one whose duty has stood its time and that has seen idle is NORMAL; more than 255 transmit errors make a NORMAL
one BUS_OFF with its condition active and its bus not READY; recovery puts it back RESTRICTED with both counts at 0, but a
third entry within 60 s begins a hold of 10 s, during which recovery changes nothing and which RECOVER_NOW ends;
CAN_CLEAR_COUNTERS clears the frame counts and leaves buffers and error counts; a receive error of a NORMAL one is shown and
raises the receive count by 1 or 8, to 255 at most, passive from 128 of either count (from R412, R468 to R470, R485 to R487;
the readings of log entries 75, 76). -/
def Obligations.CanStates : Prop :=
  (∀ (c : Fin 2) (s : State), up s = true → (canAt s c).mode = .listening → segDutyHeld s c.val = false →
    runs (.canBusIdleDetect c) s fun t => (canAt t c).mode = .restricted ∧ fnReady t 6 c.val = true) ∧
  (∀ (c : Fin 2) (s : State), up s = true → (canAt s c).mode = .restricted → dutyAged s c = true → (canAt s c).idleSeen = true →
    runs (.canNormalEntry c) s fun t => t = s.modCan c fun k => { k with mode := .normal }) ∧
  (∀ (c : Fin 2) (s : State), up s = true → (canAt s c).mode = .normal → 255 < (canAt s c).tec → runs (.canBusOff c) s fun t =>
    (canAt t c).mode = .busOff ∧ (canAt t c).passive = false ∧ (canAt t c).holdEnd = none ∧ fnReady t 6 c.val = false ∧
    sysActive t 0x35 = true ∧ (canAt t c).entries.getLast? = some (now s)) ∧
  (∀ (c : Fin 2) (s : State), up s = true → (canAt s c).mode = .busOff → (canAt s c).holdEnd = none →
    runs (.canBusOffRecovery c) s fun t =>
      if (canAt s c).entries.length ≤ 2
      then (canAt t c).mode = .restricted ∧ (canAt t c).tec = 0 ∧ (canAt t c).rec_ = 0 ∧ fnReady t 6 c.val = true
      else t = s.modCan c fun k => { k with holdEnd := some (now s + 10000) }) ∧
  (∀ (c : Fin 2) (e : Nat) (s : State), up s = true → (canAt s c).mode = .busOff → (canAt s c).holdEnd = some e →
    runs (.canBusOffRecovery c) s fun t =>
      (now s < e → t = s) ∧ (e ≤ now s → (canAt t c).mode = .restricted ∧ (canAt t c).tec = 0 ∧ fnReady t 6 c.val = true)) ∧
  (∀ (r : Req) (c : Fin 2) (e : Nat) (s : State), may s r 2 = true → canServed s c.val = true → (canAt s c).mode = .busOff →
    (canAt s c).holdEnd = some e → runs (.recoverNow r c) s fun t =>
      (canAt t c).mode = .restricted ∧ (canAt t c).holdEnd = none ∧ fnReady t 6 c.val = true) ∧
  (∀ (r : Req) (c : Fin 2) (s : State), may s r 2 = true → canServed s c.val = true → runs (.canClearCounters r c) s fun t =>
    (canAt t c).rxFrames = 0 ∧ (canAt t c).txFrames = 0 ∧ (canAt t c).rxOverrun = 0 ∧ (canAt t c).collisions = 0 ∧
    (canAt t c).bufs = (canAt s c).bufs ∧ (canAt t c).tec = (canAt s c).tec) ∧
  (∀ (c : Fin 2) (e : CanErr) (eight : Bool) (s : State), up s = true → (canAt s c).mode = .normal →
    runs (.canReceiveError c e false eight) s fun t =>
      (canAt t c).lec = lecCode e ∧ (canAt t c).tec = (canAt s c).tec ∧
      (canAt t c).rec_ = min 255 ((canAt s c).rec_ + if eight then 8 else 1) ∧
      ((canAt t c).passive = true ↔ 128 ≤ (canAt t c).tec ∨ 128 ≤ (canAt t c).rec_))

/-- CAN_FRAME_RECEIVE, CAN_RX_SERVICE, BUFFER_LOCK_LAPSE, TX_REQUEST, TX_CANCEL, CAN_TX_COMPLETE and CAN_TX_ERROR complete. A
restricted controller counts a classical frame; one that no filter takes changes no buffer; one of a list filter goes to the
next free FIFO buffer, or with none free is lost, counted, with its condition active; one of a high-priority filter goes to
its buffer, noting that it overwrote a full one, or to the shadow of a locked one. Service locks a full high-priority buffer
while it is read, and frees the FIFO's oldest; a lock lapses after 1 ms, counted. A request fills an empty transmit buffer
and leaves the others; a cancel before arbitration frees its buffer, and later is noted; a frame sent frees its buffer with
its result and lowers the transmit count by one; a lost arbitration changes nothing but a cancelled frame, which ends; an
error raises the transmit count by 8 and the fourth ends the frame (from R463 to R480, R484; the readings of log entries 75,
76). -/
def Obligations.CanFrames : Prop :=
  (∀ (c : Fin 2) (f : CanFrame) (s : State), up s = true → (canAt s c).mode = .restricted → f.fdf = false →
    runs (.canFrameReceive c f) s fun t =>
      (canAt t c).rxFrames = satInc (canAt s c).rxFrames ∧ (canAt t c).tec = (canAt s c).tec ∧
      ((segDutyHeld s c.val = false ∨ f.rtr = true ∨ filterOf s c f.ide (bufId f.ide f.id) = none) → (canAt t c).bufs = (canAt s c).bufs) ∧
      (∀ (n : Nat) (b : Fin 64), segDutyHeld s c.val = true → f.rtr = false → filterOf s c f.ide (bufId f.ide f.id) = some n → n < 0x80 →
        fifoFree (canAt s c) = some b → vat (canAt t c).bufs b = rxBuf s f n ∧ (canAt t c).fifo = (canAt s c).fifo ++ [b.val]) ∧
      (∀ n : Nat, segDutyHeld s c.val = true → f.rtr = false → filterOf s c f.ide (bufId f.ide f.id) = some n → n < 0x80 →
        fifoFree (canAt s c) = none → (canAt t c).rxOverrun = satInc (canAt s c).rxOverrun ∧ sysActive t 0x38 = true) ∧
      (∀ i : Fin 8, segDutyHeld s c.val = true → f.rtr = false → filterOf s c f.ide (bufId f.ide f.id) = some (0x80 + i.val) →
        if (vat (canAt s c).bufs ⟨i.val, by omega⟩).locked
        then vat (canAt t c).shadows i = some (rxBuf s f (0x80 + i.val)) ∧ (canAt t c).bufs = (canAt s c).bufs
        else vat (canAt t c).bufs ⟨i.val, by omega⟩ =
          { rxBuf s f (0x80 + i.val) with lost := (vat (canAt s c).bufs ⟨i.val, by omega⟩).full })) ∧
  (∀ (c : Fin 2) (b : Fin 8) (x : Word) (s : State), up s = true → segDutyHeld s c.val = true →
    (vat (canAt s c).bufs ⟨b.val, by omega⟩).full = true → runs (.canRxService c ⟨b.val, by omega⟩ true x) s fun t =>
      (vat (canAt t c).bufs ⟨b.val, by omega⟩).locked = true ∧ (vat (canAt t c).bufs ⟨b.val, by omega⟩).full = true ∧
      (vat (canAt t c).bufs ⟨b.val, by omega⟩).data = (vat (canAt s c).bufs ⟨b.val, by omega⟩).data) ∧
  (∀ (c : Fin 2) (b : Fin 48) (x : Word) (s : State), up s = true → segDutyHeld s c.val = true → 8 ≤ b.val →
    (vat (canAt s c).bufs ⟨b.val, by omega⟩).full = true → (canAt s c).fifo.head? = some b.val →
    runs (.canRxService c b false x) s fun t =>
      (vat (canAt t c).bufs ⟨b.val, by omega⟩).full = false ∧ (vat (canAt t c).bufs ⟨b.val, by omega⟩).locked = false ∧
      b.val ∉ (canAt t c).fifo) ∧
  (∀ (c : Fin 2) (b : Fin 48) (s : State), up s = true → (vat (canAt s c).bufs ⟨b.val, by omega⟩).locked = true →
    (vat (canAt s c).bufs ⟨b.val, by omega⟩).lockedAt + 1 ≤ now s → runs (.bufferLockLapse c b) s fun t =>
      (vat (canAt t c).bufs ⟨b.val, by omega⟩).locked = false ∧ (canAt t c).lapses = satInc (canAt s c).lapses) ∧
  (∀ (c : Fin 2) (k : Fin 16) (f : CanFrame) (s : State), up s = true → (txBuf (canAt s c) k).full = false →
    runs (.txRequest c k f) s fun t =>
      (txBuf (canAt t c) k).full = true ∧ (txBuf (canAt t c) k).txResult = 1 ∧ (txBuf (canAt t c) k).id = bufId f.ide f.id ∧
      (txBuf (canAt t c) k).dlc = f.dlc ∧ ∀ j : Fin 16, j ≠ k → txBuf (canAt t c) j = txBuf (canAt s c) j) ∧
  (∀ (c : Fin 2) (k : Fin 16) (p : TxPoint) (s : State), up s = true → (txBuf (canAt s c) k).full = true →
    (txBuf (canAt s c) k).won = false → runs (.txCancel c k p) s fun t =>
      if p = .waiting then (txBuf (canAt t c) k).full = false ∧ (txBuf (canAt t c) k).txResult = 3 ∧
        (canAt t c).txCancelled = satInc (canAt s c).txCancelled
      else (txBuf (canAt t c) k).full = true ∧ (txBuf (canAt t c) k).cancel = true) ∧
  (∀ (c : Fin 2) (k : Fin 16) (d : BitVec 7) (s : State), up s = true → (canAt s c).mode = .normal → (canAt s c).tec ≤ 255 →
    (txBuf (canAt s c) k).full = true → (txBuf (canAt s c) k).fdf = false → runs (.canTxComplete c k d) s fun t =>
      (txBuf (canAt t c) k).full = false ∧ (txBuf (canAt t c) k).txResult = (if (txBuf (canAt s c) k).cancel then 4 else 2) ∧
      (canAt t c).txFrames = satInc (canAt s c).txFrames ∧ (canAt t c).tec = (canAt s c).tec - 1) ∧
  (∀ (c : Fin 2) (k : Fin 16) (s : State), up s = true → (canAt s c).mode = .normal → (canAt s c).tec ≤ 255 →
    (txBuf (canAt s c) k).full = true → runs (.canTxError c k .lost) s fun t =>
      if (txBuf (canAt s c) k).cancel then (txBuf (canAt t c) k).full = false ∧ (txBuf (canAt t c) k).txResult = 3 else t = s) ∧
  (∀ (c : Fin 2) (k : Fin 16) (s : State), up s = true → (canAt s c).mode = .normal → (canAt s c).tec ≤ 255 →
    (txBuf (canAt s c) k).full = true → (txBuf (canAt s c) k).cancel = false → runs (.canTxError c k (.err .bit1 false true)) s fun t =>
      (canAt t c).tec = (canAt s c).tec + 8 ∧ (canAt t c).collisions = satInc (canAt s c).collisions ∧
      if 4 ≤ (txBuf (canAt s c) k).errors + 1 then (txBuf (canAt t c) k).txResult = 5 ∧ (txBuf (canAt t c) k).full = false
      else (txBuf (canAt t c) k).full = true ∧ (txBuf (canAt t c) k).errors = (txBuf (canAt s c) k).errors + 1)

/-! Configuration: amendments, commits and images. -/

/-- AMEND_OPEN, AMEND_APPLY, AMEND_ABORT, AMEND_OPEN_TIMEOUT and AMEND_CHECK_COMPLETE complete. AMEND_OPEN where an amendment
may be opened leaves one open and empty under its requester, with the NOR as it was; APPLY by its owner leaves it checking;
ABORT from the owner's address leaves it idle and any other changes nothing; an open one unwritten for 60 s is idle; the
check's end leaves the NOR as it was, and leaves a good amendment committing, its commit last of those that wait, none of
them a trim, and a bad one rejected with the configuration as it was (from R128 to R131, R143, R197; the readings of log
entry 72). -/
def Obligations.Amendments : Prop :=
  (∀ (r : Req) (s : State), may s r 2 = true → mayOpen (noteOwner s r) = true → runs (.amendOpen r) s fun t =>
    t.nor.amend = .open_ ∧ t.nor.ownerMac = r.mac ∧ t.nor.ownerSess = r.sess ∧ t.nor.buffer = [] ∧ t.nor.amendLen = 0 ∧
    t.nor.bytes = s.nor.bytes) ∧
  (∀ (r : Req) (s : State), may s r 2 = true → ownsAmend s r = true → runs (.amendApply r) s fun t =>
    t = { s with nor := { s.nor with amend := .checking } }) ∧
  (∀ (r : Req) (s : State), may s r 2 = true → runs (.amendAbort r) s fun t =>
    t = if s.nor.amend = .open_ ∧ s.nor.ownerMac = r.mac then { s with nor := { s.nor with amend := .idle } } else s) ∧
  (∀ s : State, up s = true → s.nor.amend = .open_ → s.nor.amendAt + 60000 ≤ now s → runs .amendOpenTimeout s fun t =>
    t = { s with nor := { s.nor with amend := .idle } }) ∧
  (∀ s : State, up s = true → s.nor.amend = .checking → runs .amendCheckComplete s fun t =>
    t.nor.bytes = s.nor.bytes ∧
    ((checkAmend s).bad.isEmpty = true → t.nor.amend = .committing ∧ t.nor.waiting = (s.nor.waiting.filter fun w => !(w == .trim)) ++ [.amendment]) ∧
    ((checkAmend s).bad.isEmpty = false → t.nor.amend = .rejected ∧ t.cfg = s.cfg))

/-- COMMIT_START and NOR_COMMIT_STEP_COMPLETE complete. The oldest commit that waits starts at step 1 on the target slot with
the next SLOT_SEQ and the NOR as it was, or fails with its condition active where no SLOT_SEQ is left, and an amendment's
commit leaves no trim waiting; each step that ends begins the next; step 2 has put the marker into the backup domain with the
NOR as it was; step 3 has erased the slot's first 64 KiB and nothing else; step 7 has programmed COMMIT and then its
complement with the marker still set; the commit then ends with the marker cleared, the NOR as it was and an amendment's
commit committed; a first read-back that differs begins it anew and a second in succession fails it with its condition active
(from R131 to R136, R197; the readings of log entry 73). -/
def Obligations.CommitSteps : Prop :=
  (∀ (w : CommitFor) (l : List CommitFor) (s : State), up s = true → norBusy s = false → commitDue s = true →
    s.nor.waiting = w :: l → runs .commitStart s fun t =>
      t.nor.bytes = s.nor.bytes ∧
      ((highestSeq s).toNat + 1 < 0xFFFFFFFF → (t.nor.job.map fun j => (j.why, j.target, j.seq, j.step)) =
        some (w, targetSlot s, w32 ((highestSeq s).toNat + 1), 1)) ∧
      (w = .amendment → CommitFor.trim ∉ t.nor.waiting) ∧
      (0xFFFFFFFF ≤ (highestSeq s).toNat + 1 → t.nor.job = none ∧ sysActive t 4 = true)) ∧
  (∀ (j : NorJob) (ok : Bool) (s : State), up s = true → s.nor.job = some j → 1 ≤ j.step → j.step ≤ 7 →
    ok = true ∨ j.step ≤ 4 ∨ j.step = 7 → runs (.norCommitStepComplete ok) s fun t =>
      t.nor.job = some { j with step := j.step + 1 }) ∧
  (∀ (j : NorJob) (s : State), up s = true → s.nor.job = some j → j.step = 1 → runs (.norCommitStepComplete true) s fun t =>
    t.nor.job = some { j with step := 2 } ∧ markerSet t = true ∧ vat t.bkup.ram 1 = j.seq ∧ t.nor.bytes = s.nor.bytes) ∧
  (∀ (j : NorJob) (s : State), up s = true → s.nor.job = some j → j.step = 2 → runs (.norCommitStepComplete true) s fun t =>
    t.nor.job = some { j with step := 3 } ∧
    ∀ a : Nat, memGet norByte t.nor.bytes a =
      if slotBase s j.target ≤ a ∧ a < slotBase s j.target + 0x10000 then norByte else memGet norByte s.nor.bytes a) ∧
  (∀ (j : NorJob) (s : State), up s = true → s.nor.job = some j → j.step = 6 → Mem.wf norByte s.nor.bytes = true →
    runs (.norCommitStepComplete true) s fun t =>
      t.nor.job = some { j with step := 7 } ∧ slotWord t (slotBase s j.target) 60 = 0x4B44434D ∧ t.bkup.ram = s.bkup.ram) ∧
  (∀ (j : NorJob) (s : State), up s = true → s.nor.job = some j → j.step = 7 → Mem.wf norByte s.nor.bytes = true →
    runs (.norCommitStepComplete true) s fun t =>
      t.nor.job = some { j with step := 8 } ∧ slotWord t (slotBase s j.target) 61 = 0xB4BBBCB2 ∧ t.bkup.ram = s.bkup.ram) ∧
  (∀ (j : NorJob) (s : State), up s = true → s.nor.job = some j → 8 ≤ j.step → runs (.norCommitStepComplete true) s fun t =>
    t.nor.job = none ∧ t.nor.bytes = s.nor.bytes ∧ (∀ i : Fin 4, vat t.bkup.ram ⟨i.val, by omega⟩ = 0) ∧
    (j.why = .amendment → t.nor.amend = .committed)) ∧
  (∀ (j : NorJob) (s : State), up s = true → s.nor.job = some j → 5 ≤ j.step → j.step ≠ 7 →
    runs (.norCommitStepComplete false) s fun t =>
      if 1 ≤ j.failures then t.nor.job = none ∧ sysActive t 4 = true ∧ (j.why = .amendment → t.nor.amend = .failed)
      else (t.nor.job.map fun k => (k.why, k.target, k.seq, k.step, k.failures)) = some (j.why, j.target, j.seq, 1, 1))

/-- IMAGE_BEGIN, IMAGE_ERASE_COMPLETE, IMAGE_WINDOW_WRITE, IMAGE_COMMIT, IMAGE_CANCEL, IMAGE_RECEIVE_TIMEOUT and
IMAGE_VERIFY_COMPLETE complete. IMAGE_BEGIN begins to erase the target slot, whose region alone reads erased; the erasure's
end begins the reception; a window write of the next word programs it, but those of the COMMIT pair; IMAGE_COMMIT begins the
check with the NOR as it was; a cancel, and 10 min without a write, end the reception with a repair commit waiting and the
NOR as it was; the check's end leaves a good image pending with COMMIT programmed, and rejects another with the NOR as it was
and a repair commit waiting (from R136 to R138, R143; the readings of log entries 67, 73). -/
def Obligations.ImageLoads : Prop :=
  (∀ (r : Req) (s : State), may s r 3 = true → s.nor.image = .idle → startComplete s = true → norBusy s = false →
    s.nor.amend = .idle → 0 < norQ s → runs (.imageBegin r) s fun t =>
      t.nor.image = .erasing ∧ t.nor.imageTarget = targetSlot s ∧ t.nor.imageNext = 0 ∧
      ∀ a : Nat, memGet norByte t.nor.bytes a =
        if slotBase s (targetSlot s) ≤ a ∧ a < slotBase s (targetSlot s) + norQ s then norByte else memGet norByte s.nor.bytes a) ∧
  (∀ s : State, up s = true → s.nor.image = .erasing → runs .imageEraseComplete s fun t =>
    t = { s with nor := { s.nor with image := .receiving, imageAt := now s } }) ∧
  (∀ (r : Req) (idx : BitVec 23) (w : Word) (s : State), may s r 3 = true → s.nor.image = .receiving →
    idx.toNat = s.nor.imageNext.toNat → Mem.wf norByte s.nor.bytes = true → runs (.imageWindowWrite r idx [w]) s fun t =>
      t.nor.imageNext = s.nor.imageNext + 1 ∧
      (idx.toNat ≠ 60 → idx.toNat ≠ 61 → 4 * idx.toNat < norQ s → slotWord t (slotBase s s.nor.imageTarget) idx.toNat = w) ∧
      (idx.toNat = 60 ∨ idx.toNat = 61 → t.nor.bytes = s.nor.bytes)) ∧
  (∀ (r : Req) (s : State), may s r 3 = true → s.nor.image = .receiving → runs (.imageCommit r) s fun t =>
    t.nor.image = .verifying ∧ t.nor.imageTarget = s.nor.imageTarget ∧ t.nor.bytes = s.nor.bytes) ∧
  (∀ (r : Req) (s : State), may s r 3 = true → s.nor.image = .receiving → runs (.imageCancel r) s fun t =>
    t.nor.image = .idle ∧ .repair ∈ t.nor.waiting ∧ t.nor.bytes = s.nor.bytes) ∧
  (∀ s : State, up s = true → s.nor.image = .receiving → s.nor.imageAt + 600000 ≤ now s → runs .imageReceiveTimeout s fun t =>
    t.nor.image = .idle ∧ .repair ∈ t.nor.waiting ∧ t.nor.bytes = s.nor.bytes) ∧
  (∀ s : State, up s = true → s.nor.image = .verifying → Mem.wf norByte s.nor.bytes = true → runs .imageVerifyComplete s fun t =>
    if (imageFaults s).isEmpty
    then t.nor.image = .pending ∧ slotWord t (slotBase s s.nor.imageTarget) 60 = 0x4B44434D
    else t.nor.image = .rejected ∧ t.nor.bytes = s.nor.bytes ∧ .repair ∈ t.nor.waiting)


/-! History. -/

/-- NAND_SCAN_COMPLETE, INDEX_BUILD_COMPLETE, RECORDER_CHECKPOINT and RECORDS_DROPPED_REPORT complete. A scan that finds no
target, and one of a NAND that does not fit, leave their states with the condition active, and one that fits is noted with
its targets, page, bad blocks and the highest timing mode that they share, terminated from mode 5; the end of the index
puts HISTORY in service with the condition inactive; with staging below three quarters the checkpoint records the milliseconds as a pair; the report of dropped records empties the counts that
it records where staging has room (from R494, R500, R504, R517, R575; the readings of log entries 86, 119). -/
def Obligations.RecorderStart : Prop :=
  (∀ (info : NandInfo) (s : State), up s = true → s.linen.st = .scanning → s.linen.scanned = false →
    runs (.nandScanComplete info) s fun t =>
      (info.targets = 0 → t.linen.st = .noNand ∧ sysActive t 0x39 = true) ∧
      (info.targets ≠ 0 → nandFits info = true →
        t.linen.scanned = true ∧ t.nand.targets = info.targets ∧ t.nand.page = info.page ∧ t.nand.badTable = info.bad ∧
        t.nand.timing < 8 ∧ (t.nand.odt = true ↔ 5 ≤ t.nand.timing) ∧
        (∀ k : Nat, t.nand.timing < k → k < 8 → info.modes0.getLsbD k = false ∨ (info.targets = 2 ∧ info.modes1.getLsbD k = false)) ∧
        (info.modes0.getLsbD 0 = true → info.modes1.getLsbD 0 = true → info.modes0.getLsbD t.nand.timing = true ∧
          (info.targets = 2 → info.modes1.getLsbD t.nand.timing = true)) ∧ (t.linen.st = .scanning ∨ sysActive t 0x39 = true)) ∧
      (info.targets ≠ 0 → nandFits info = false → t.linen.st = .fault ∧ sysActive t 0x39 = true)) ∧
  (∀ s : State, up s = true → s.linen.st = .indexing → runs .indexBuildComplete s fun t =>
    t.linen.st = .inService ∧ t.linen.indexed = true ∧ sysActive t 0x39 = false) ∧
  (∀ s : State, up s = true → histReady s = true → s.linen.staged.length * 4 < stagingCap * 3 →
    runs .recorderCheckpoint s fun t =>
      let m := (recMs s).toNat + 60000
      recorded s t 0x4C [w32 (m / 2 ^ 32 % 65536), w32 m, ~~~w32 (m / 2 ^ 32 % 65536), ~~~w32 m]) ∧
  (∀ s : State, up s = true → s.linen.dropping = true → runs .recordsDroppedReport s fun t =>
    (s.linen.staged.length < stagingCap →
      t.linen.dropD = 0 ∧ t.linen.dropE = 0 ∧ t.linen.dropA = 0 ∧ t.linen.dropP = 0 ∧ t.linen.lostSeq = 0 ∧
      (histReady s = true → recorded s t 0x4D
        [s.linen.dropD, s.linen.dropE, s.linen.dropA, s.linen.dropP, s.linen.lostSeq])))

/-- NAND_SEGMENT_PROGRAM and NAND_BLOCK_REFRESH complete while HISTORY is READY. A page programmed takes the staged records
that it holds, in their order, into the open block, and keeps the permanent ones while there is room; a program that fails
puts its block into the bad table and out of use, the others standing; with no page and no block left HISTORY is in FAULT
with its condition active; a refreshed block is gone and its records stand in the newest one, of each tier; a block programmed within 12
months that bears no label and of which no 16 bits are corrected is not refreshed (from R503 to R508; the readings
of log entries 43, 44, 115). -/
def Obligations.PagesProgrammed : Prop :=
  (∀ (ok : Bool) (b : NandBlock) (bs : List NandBlock) (s : State), up s = true → histReady s = true →
    (segment s).isEmpty = false → s.nand.main = b :: bs → b.pages < 64 → mainReserve s < mainPlaces s →
    runs (.nandSegmentProgram ok) s fun t =>
      (ok = true →
        (t.nand.main.head?.map fun k => (k.id, k.recs, k.pages)) = some (b.id, b.recs ++ segment s, b.pages + 1) ∧
        ∀ e ∈ segment s, e.2.cls = .p → e ∈ t.nand.perm ∨ permCap ≤ t.nand.perm.length) ∧
      (ok = false → b.id ∈ t.nand.badTable ∧ (∀ k ∈ t.nand.main, k.id = b.id → k ∈ bs) ∧
        (∀ k ∈ bs, k ∈ t.nand.main))) ∧
  (∀ (ok : Bool) (s : State), up s = true → histReady s = true → (segment s).isEmpty = false → hasPage s = false →
    nextBlock s = none → runs (.nandSegmentProgram ok) s fun t => t.linen.st = .fault ∧ sysActive t 0x39 = true) ∧
  (∀ (block corrected : Nat) (b : NandBlock) (s : State), up s = true → histReady s = true → mainBusy s = false →
    s.nand.main.find? (fun k => decide (k.id = block)) = some b → (nextBlock s).isSome = true →
    refreshDue s b.at_ b.wall corrected = true → runs (.nandBlockRefresh block corrected) s fun t =>
      (∀ k ∈ t.nand.main, k.id ≠ block) ∧ (t.nand.main.head?.map NandBlock.recs) = some b.recs) ∧
  (∀ (trend : Bool) (block corrected b' : Nat) (b : TierBlock) (s : State), up s = true → histReady s = true →
    trendBusy s = false → (∀ k ∈ s.nand.main, k.id ≠ block) → (trend = true → tierBlockAt s false block = none) →
    tierBlockAt s trend block = some b → nextIn s trend = some b' → b' ≠ block →
    refreshDue s b.at_ b.wall corrected = true → runs (.nandBlockRefresh block corrected) s fun t =>
      (∀ k ∈ tierLog t trend, k.id ≠ block) ∧
      ((tierLog t trend).head?.map fun k => (k.id, k.pages)) = some (b', b.pages) ∧
      (∀ k ∈ tierLog s trend, k.id ≠ block → k ∈ tierLog t trend) ∧
      t.nand.trends = s.nand.trends ∧ t.nand.perm = s.nand.perm ∧ t.nand.main = s.nand.main) ∧
  (∀ (block corrected : Nat) (b : NandBlock) (s : State), s.nand.main.find? (fun k => decide (k.id = block)) = some b →
    opMs s < b.at_ + yearMs → corrected < 16 → b.wall = none → runs (.nandBlockRefresh block corrected) s fun t => t = s)

/-- CURSOR_CLAIM, CURSOR_RELEASE, CURSOR_IDLE_TIMEOUT, POSITION_LOW_WRITE, CURSOR_ADVANCE, SEEK_OLDEST, SEEK_NEWEST and
WINDOW_FILL_COMPLETE complete. A free cursor claimed is the requester's, and one that is owned stays as it is; its owner's
release and 60 s without a request leave it free; the owner's write of POSITION_LOW sets the low half of the position,
ADVANCE takes the position after the window, SEEK_OLDEST and SEEK_NEWEST of the records and of the permanent records take
their ends, each starting a fill; a fill ends with at most 16 records, or 48 trend entries, in the window. All but the fill
leave every other cursor as it was (from R505, R510 to R513; the readings of log entry 86). -/
def Obligations.CursorRequests : Prop :=
  (∀ (r : Req) (c : Fin 8) (s : State), up s = true → histReady s = true → runs (.cursorClaim r c) s fun t =>
    t.nand = s.nand ∧ (∀ k : Fin 8, k ≠ c → cursorAt t k = cursorAt s k) ∧
    ((cursorAt s c).owned = true → cursorAt t c = cursorAt s c) ∧
    ((cursorAt s c).owned = false → ownsCursor t r c = true)) ∧
  (∀ (r : Req) (c : Fin 8) (s : State), up s = true → ownsCursor s r c = true → runs (.cursorRelease r c) s fun t =>
    (cursorAt t c).owned = false ∧ ∀ k : Fin 8, k ≠ c → cursorAt t k = cursorAt s k) ∧
  (∀ (c : Fin 8) (s : State), up s = true → (cursorAt s c).owned = true → (cursorAt s c).at_ + 60000 ≤ now s →
    runs (.cursorIdleTimeout c) s fun t => (cursorAt t c).owned = false ∧ ∀ k : Fin 8, k ≠ c → cursorAt t k = cursorAt s k) ∧
  (∀ (r : Req) (c : Fin 8) (w : Word) (s : State), up s = true → ownsCursor s r c = true →
    runs (.positionLowWrite r c w) s fun t =>
      (cursorAt t c).posLow = w ∧ (cursorAt t c).posHigh = (cursorAt s c).posHigh ∧ (cursorAt t c).busy = true ∧
      ∀ k : Fin 8, k ≠ c → cursorAt t k = cursorAt s k) ∧
  (∀ (r : Req) (c : Fin 8) (s : State), up s = true → ownsCursor s r c = true → runs (.cursorAdvance r c) s fun t =>
    (cursorAt t c).posLow = w32 (cursorAt s c).nextPos ∧ (cursorAt t c).busy = true ∧
    ∀ k : Fin 8, k ≠ c → cursorAt t k = cursorAt s k) ∧
  (∀ (r : Req) (c : Fin 8) (s : State), up s = true → ownsCursor s r c = true → runs (.seekOldest r c) s fun t =>
    (cursorAt t c).busy = true ∧ ((cursorAt s c).tier = 1 → (cursorAt t c).posLow = 0) ∧
    ((cursorAt s c).tier = 0 → ∀ e es, allRecs s = e :: es → (cursorAt t c).posLow = e.1) ∧
    ∀ k : Fin 8, k ≠ c → cursorAt t k = cursorAt s k) ∧
  (∀ (r : Req) (c : Fin 8) (s : State), up s = true → ownsCursor s r c = true → runs (.seekNewest r c) s fun t =>
    (cursorAt t c).busy = true ∧ ((cursorAt s c).tier = 0 → (cursorAt t c).posLow = s.linen.nextSeq) ∧
    ((cursorAt s c).tier = 1 → (cursorAt t c).posLow = w32 (permRecs s).length) ∧
    ∀ k : Fin 8, k ≠ c → cursorAt t k = cursorAt s k) ∧
  (∀ (c : Fin 8) (bad : List (Word × Word)) (s : State), up s = true → s.linen.st = .inService → (cursorAt s c).busy = true →
    runs (.windowFillComplete c bad) s fun t =>
      (cursorAt t c).busy = false ∧ (cursorAt t c).filledAt = some (now s) ∧
      ((cursorAt s c).tier.toNat ≤ 1 →
        (cursorAt t c).entries.toNat ≤ 16 ∧ (cursorAt t c).window.length = 16 * (cursorAt t c).entries.toNat) ∧
      (2 ≤ (cursorAt s c).tier.toNat →
        (cursorAt t c).entries.toNat ≤ 48 ∧ (cursorAt t c).window.length = 5 * (cursorAt t c).entries.toNat))

/-- TREND_SAMPLE and TREND_ARCHIVE complete. For a point this node holds itself, a sample joins its cache first of at most 49
152, with the time and, where both its pairs hold, the point's value and quality code; an archive period joins its summary of
the cache to the archive first and leaves the cache, and the archives hold no more than the tier and its buffer have room for, of
which nothing goes while they have room (from R502, R514; the readings of log entries 46,
47). -/
def Obligations.Trends : Prop :=
  (∀ (p : Nat) (l : LocalPt) (s : State), up s = true → (s.points.map Prod.fst).Nodup → tget s.points p = some l →
    l.byDuty = false → runs .trendSample s fun t =>
      ∃ e, (tgetD t.nand.trends p {}).cache = (e :: (tgetD s.nand.trends p {}).cache).take 49152 ∧ e.1 = opMs s ∧
        (l.pub.value.ok = true → l.pub.quality.ok = true → e.2.1 = l.pub.value.v ∧ e.2.2.toNat = bits l.pub.quality.v 2 0)) ∧
  (∀ (p : Nat) (l : LocalPt) (s : State), up s = true → (s.points.map Prod.fst).Nodup → tget s.points p = some l →
    l.byDuty = false → runs .trendArchive s fun t =>
      (tgetD t.nand.trends p {}).cache = (tgetD s.nand.trends p {}).cache ∧
      ∃ e, (tgetD t.nand.trends p {}).archive.Sublist (e :: (tgetD s.nand.trends p {}).archive) ∧
        trendTotal t.nand.trends ≤ trendRoom t ∧
        (trendTotal s.nand.trends + s.points.length ≤ trendRoom t →
          (tgetD t.nand.trends p {}).archive = e :: (tgetD s.nand.trends p {}).archive) ∧
        e = cachePeriod s (tgetD s.nand.trends p {}) (opMs s / archiveMs s * archiveMs s - archiveMs s))

/-! Time. -/

/-- OP_MS_INCREMENT and RTC_ROLLOVER_COMPARISON complete. With the logic side up, the tick counts this node's millisecond and
OP_MS, but not OP_MS on battery, with both its pairs whole and the seconds as they were, and leaves a SYNCED clock not
compared for 3 s HELD; with the logic side down it changes nothing. The roll-over on a node that is no slave counts a second,
takes a waiting trim code and leaves the quality; on a slave it notes the comparison and its offset, sets a clock that is
UNSET, off by more than the threshold or of another UTC offset, which is then HELD, and leaves a HELD clock SYNCED at the
third comparison in a row within 100 us (from R462, R525, R530 to R534; the readings of log entries 3, 42). -/
def Obligations.ClockCounts : Prop :=
  (∀ s : State, up s = false → runs .opMsIncrement s fun t => t = s) ∧
  (∀ s : State, up s = true → runs .opMsIncrement s fun t =>
    now t = now s + 1 ∧
    opMs t = (if s.bkup.onVbat then opMs s else (opMs s + 1) % 2 ^ 48) ∧
    (s.bkup.onVbat = false → t.bkup.opHi.ok = true ∧ t.bkup.opLo.ok = true) ∧
    recMs t = (if s.bkup.timeKnown then BitVec.ofNat 48 (opMs t) else t.sys.msSince.setWidth 48) ∧
    t.bkup.seconds = s.bkup.seconds ∧
    t.bkup.quality = (if s.bkup.quality = .synced ∧ s.bkup.comparedAt + 3000 ≤ now s + 1 then .held else s.bkup.quality)) ∧
  (∀ (x : Int) (s : State), cfgTimeTimeSource s ≠ 1 ∨ s.ring.ptp.st ≠ .slave → runs (.rtcRolloverComparison x) s fun t =>
    t.bkup.seconds = s.bkup.seconds + 1 ∧ t.bkup.sub = 0 ∧ t.bkup.trim = s.bkup.trimNew.getD s.bkup.trim ∧
    t.bkup.trimNew = none ∧ t.bkup.quality = s.bkup.quality) ∧
  (∀ (x : Int) (s : State), up s = true → cfgTimeTimeSource s = 1 → s.ring.ptp.st = .slave →
    runs (.rtcRolloverComparison x) s fun t =>
      let off := ((s.bkup.seconds + 1).toNat : Int) * 1000000000 - ptpLabelNs s x
      t.bkup.comparedAt = now s ∧
      t.bkup.rtcOffset = offsetWord off ∧
      (s.bkup.quality = .unset ∨ utcChanged s = true ∨ (cfgTimeStepThresholdMs s).toNat * 1000000 < off.natAbs →
        t.bkup.quality = .held ∧ t.bkup.seconds = wInt (ptpLabelNs s x / 1000000000) ∧
        (s.bkup.quality = .unset → sysActive t 0x3E = false)) ∧
      (s.bkup.quality = .held → off.natAbs ≤ 100000 → off.natAbs ≤ (cfgTimeStepThresholdMs s).toNat * 1000000 →
        2 ≤ s.bkup.goodRun → classOk s = true → s.ring.ptp.utcValid = true → utcChanged s = false → t.bkup.quality = .synced))


/-- STAGE_WRITE, RTC_COMMIT, CANCEL_STAGE, STAGE_LAPSE, RTC_SHIFT_WRITE, SHIFT_COMPLETE, RTC_TRIM_CODE_WRITE,
AUTO_TRIM_ADJUST and TIME_PERIODIC complete. A stage write takes the words that it carries, and both stage a setting; a
commit of one that may be committed makes it the clock's value, HELD, with the condition active where that is more than a
second, and any other changes nothing; a cancel, and 10 s, drop the setting with the seconds as they were; a positive shift
moves the count by its ticks at once and a negative one waits its ticks, which its end clears; a trim code written waits
where AUTO_TRIM does not choose it, and AUTO_TRIM, after 600 s of SYNCED, steps the code by one where the shifts sum to 20 ticks or more; TIME goes
out as a broadcast where its queue has room (from R528 to R533, R536, R544; the readings of log entries 84, 116). -/
def Obligations.ClockRequests : Prop :=
  (∀ (r : Req) (sec sub : Option Word) (s : State), may s r 2 = true → fnReady s 0x02 0 = true →
    runs (.stageWrite r sec sub) s fun t =>
      t.bkup.stageSec = sec.getD s.bkup.stageSec ∧ t.bkup.stageSub = sub.getD s.bkup.stageSub ∧
      (sec.isSome = true → sub.isSome = true → t.bkup.staged = true ∧ t.bkup.stagedAt = now s)) ∧
  (∀ (r : Req) (s : State), may s r 2 = true → fnReady s 0x02 0 = true → runs (.rtcCommit r) s fun t =>
    if s.bkup.staged = true ∧ s.bkup.stageSub.toNat ≤ 32767 ∧ ¬(cfgTimeTimeSource s = 1 ∧ s.bkup.quality = .synced)
    then t.bkup.seconds = s.bkup.stageSec ∧ t.bkup.sub = s.bkup.stageSub.setWidth 15 ∧ t.bkup.quality = .held ∧
      t.bkup.staged = false ∧ t.bkup.shiftLeft = 0 ∧
      (moreThanSecond (wallNow s) (s.bkup.stageSec ++ (0 : BitVec 17) ++ s.bkup.stageSub.setWidth 15) = true →
        sysActive t 0x3F = true)
    else t = s) ∧
  (∀ (r : Req) (s : State), may s r 2 = true → fnReady s 0x02 0 = true → runs (.cancelStage r) s fun t =>
    t.bkup.staged = false ∧ t.bkup.seconds = s.bkup.seconds) ∧
  (∀ s : State, up s = true → s.bkup.staged = true → s.bkup.stagedAt + 10000 ≤ now s → runs .stageLapse s fun t =>
    t.bkup.staged = false ∧ t.bkup.seconds = s.bkup.seconds) ∧
  (∀ (r : Req) (w : Word) (s : State), may s r 2 = true → fnReady s 0x02 0 = true → s.bkup.shiftLeft = 0 →
    cfgTimeTimeSource s ≠ 1 → runs (.rtcShiftWrite r w) s fun t =>
      (0 ≤ (w.extractLsb' 0 16).toInt → s.bkup.seconds.toNat + 2 < 2 ^ 32 →
        labelCount (wallNow t) = labelCount (wallNow s) + (w.extractLsb' 0 16).toNat) ∧
      (-32768 < (w.extractLsb' 0 16).toInt → (w.extractLsb' 0 16).toInt < 0 →
        t.bkup.shiftLeft = (w.extractLsb' 0 16).toInt.natAbs ∧ wallNow t = wallNow s)) ∧
  (∀ s : State, s.bkup.shiftLeft ≠ 0 → runs .shiftComplete s fun t => t.bkup.shiftLeft = 0 ∧ wallNow t = wallNow s) ∧
  (∀ (r : Req) (w : Word) (s : State), may s r 2 = true → fnReady s 0x02 0 = true → runs (.rtcTrimCodeWrite r w) s fun t =>
    t.bkup.trim = s.bkup.trim ∧
    t.bkup.trimNew = if cfgTimeAutoTrim s = 1 then s.bkup.trimNew else some (w.extractLsb' 0 5)) ∧
  (∀ s : State, up s = true → cfgTimeAutoTrim s = 1 → s.bkup.quality = .synced → s.bkup.trimAt + 600000 ≤ now s →
    runs .autoTrimAdjust s fun t => t.bkup.shiftSum = 0 ∧ t.bkup.trim = s.bkup.trim ∧
    (20 ≤ s.bkup.shiftSum → ∃ x, t.bkup.trimNew = some x ∧ x.toNat = s.bkup.trim.toNat - 1) ∧
    (s.bkup.shiftSum ≤ -20 → ∃ x, t.bkup.trimNew = some x ∧ x.toNat = min 31 (s.bkup.trim.toNat + 1)) ∧
    (s.bkup.shiftSum.natAbs < 20 → t.bkup.trimNew = s.bkup.trimNew)) ∧
  (∀ s : State, up s = true → hasRoom s 1 10 → runs .timePeriodic s fun t =>
    broadcasts t 1 0x2D (timeMsg s 1 0 s.bkup.quality s.bkup.quality (wallNow s) (wallNow s)) ∧ t.bkup = s.bkup)

/-- BACKUP_SUPPLY_CHANGEOVER, BROWNOUT_LATCH_SET, VBAT_TEST, SHUTDOWN, PWRON_OFF, WAKEN_LOW and WAKE_AT_MATCH complete. The
changeover notes the supply and the brown-out its latch, with the seconds as they were; the battery test notes the voltage,
with the condition active where it is low or absent; SHUTDOWN begins to wait, or waits on, with PWRON as it was; once the
records are stored or 2 s have passed PWRON drops, but not where the wake time has come; WAKEN ends a shutdown or its wait,
with PWRON on, and is else noted; the wake time ends a shutdown with PWRON on (from R520 to R522, R538, R539, R542, R544; the
readings of log entry 77). -/
def Obligations.BackupAndShutdown : Prop :=
  (∀ (v : Bool) (s : State), runs (.backupSupplyChangeover v) s fun t =>
    t.bkup.onVbat = v ∧ t.bkup.seconds = s.bkup.seconds ∧ t.bkup.pwron = s.bkup.pwron) ∧
  (∀ (v : Bool) (s : State), runs (.brownoutLatchSet v) s fun t =>
    t.bkup.latch = true ∧ t.bkup.seconds = s.bkup.seconds ∧ (v = true → t.bkup.shutdown = false ∧ t.bkup.pwron = true)) ∧
  (∀ (mv : BitVec 12) (s : State), up s = true → s.bkup.onVbat = false → runs (.vbatTest mv) s fun t =>
    t.bkup.vbatMv = mv ∧ t.bkup.vbatAbsent = decide (mv.toNat < 1000) ∧
    sysActive t 0x3D = decide (mv.toNat < (cfgTimeVbatLowMv s).toNat ∨ mv.toNat < 1000)) ∧
  (∀ (r : Req) (s : State), may s r 3 = true → fnReady s 0x02 0 = true → runs (.shutdown r) s fun t =>
    t.bkup.pwron = s.bkup.pwron ∧ t.bkup.shutWait = (if s.bkup.shutWait.isSome then s.bkup.shutWait else some (now s))) ∧
  (∀ (a : Nat) (s : State), up s = true → s.bkup.shutWait = some a → s.linen.staged = [] ∨ a + 2000 ≤ now s →
    runs .pwronOff s fun t => t.bkup.shutWait = none ∧
      if s.bkup.wakeAt ≠ 0 ∧ s.bkup.wakeAt.toNat ≤ s.bkup.seconds.toNat
      then t.bkup.pwron = s.bkup.pwron ∧ t.bkup.shutdown = s.bkup.shutdown
      else t.bkup.pwron = false ∧ t.bkup.shutdown = true) ∧
  (∀ s : State, runs .wakenLow s fun t =>
    t.bkup.shutdown = false ∧ t.bkup.shutWait = none ∧
    (s.bkup.shutdown = true ∨ s.bkup.shutWait.isSome = true → t.bkup.pwron = true ∧ t.bkup.wakeSeen = s.bkup.wakeSeen) ∧
    (s.bkup.shutdown = false → s.bkup.shutWait = none → t.bkup.wakeSeen = true ∧ t.bkup.pwron = s.bkup.pwron)) ∧
  (∀ s : State, s.bkup.shutdown = true → s.bkup.wakeAt ≠ 0 → s.bkup.wakeAt.toNat ≤ s.bkup.seconds.toNat →
    runs .wakeAtMatch s fun t => t.bkup.shutdown = false ∧ t.bkup.pwron = true)

/-! Counters. -/

/-- SAMPLER_WRAP, SAMPLER_SELECT_WRITE, COUNT_WRITE, CLEAR_WRAPS, DUMP_PERIODIC, DUMP_NOW, COUNTER_DUMP and RESEND_DUMP
complete. A counter that wraps alone goes on from its preload where it samples, the others standing, and writes a sample
where it samples, or counts it lost beyond 10 000 in its second; the low one of a chain adds one to its high one and writes
no sample. SELECT takes its fields and leaves the other counters; COUNT takes the word of a counter alone, or both words of a
chain, and a single word for a chained one changes nothing; CLEAR_WRAPS clears every wrap and no count. A dump takes every
counter under the next number, the periodic one at each multiple of DUMP_PERIOD_S and never where that is 0; with one subscriber, no sample waiting and room, the oldest unsent dump is queued to it in
three parts and is unsent no more, as is the dump that RESEND_DUMP names; COUNTER_DUMP leaves no sample waiting and the dumps
as they were (from R549 to R558, R560, R562, R563; the readings of log entries 8, 118). -/
def Obligations.CountersAndDumps : Prop :=
  (∀ (k : Fin 16) (x : Word) (src : SampleSrc) (s : State), up s = true → samplerRuns s k = true →
    chainHigh s k = none → isChainHigh s k = false → runs (.samplerWrap k x src) s fun t =>
      (samplerAt t k).count = wrapRest (if (samplerAt s k).sample then (samplerAt s k).preload else 0) x ∧
      (samplerAt t k).wrapped = true ∧ (∀ j : Fin 16, j ≠ k → samplerAt t j = samplerAt s j) ∧
      ((samplerAt s k).sample = false → t.perf.sampleRing = s.perf.sampleRing) ∧
      ((samplerAt s k).sample = true →
        if quadSilent s (samplerAt s k).event.toNat = true ∨ (samplerAt s k).second = now s / 1000 ∧ 10000 ≤ (samplerAt s k).inSecond
        then s.perf.samplesLost ≠ 0xFFFFFFFF → s.perf.samplesLost.toNat < t.perf.samplesLost.toNat
        else wrapMore (samplerAt s k).preload x = 0 → t.perf.sampleSeq = s.perf.sampleSeq + 1 ∧
          t.perf.samplesLost = s.perf.samplesLost ∧ (dumpWanted s = true → t.perf.waiting = s.perf.waiting + 1))) ∧
  (∀ (k h : Fin 16) (x : Word) (src : SampleSrc) (s : State), up s = true → samplerRuns s k = true →
    chainHigh s k = some h → (samplerAt s h).count ≠ 0xFFFFFFFF → runs (.samplerWrap k x src) s fun t =>
      (samplerAt t h).count = (samplerAt s h).count + 1 ∧ (samplerAt t k).count = x ∧
      t.perf.sampleRing = s.perf.sampleRing) ∧
  (∀ (r : Req) (k : Fin 16) (w : Word) (s : State), may s r 2 = true → runs (.samplerSelectWrite r k w) s fun t =>
    samplerAt t k = { samplerAt s k with enable := bit w 31, chain := bit w 30, sample := bit w 29, event := w.extractLsb' 0 16 } ∧
    ∀ j : Fin 16, j ≠ k → samplerAt t j = samplerAt s j) ∧
  (∀ (r : Req) (k : Fin 16) (v : Word) (s : State), may s r 2 = true → runs (.countWrite r k [v]) s fun t =>
    (chainHigh s k = none → isChainHigh s k = false →
      samplerAt t k = { samplerAt s k with count := v, wrapped := false }) ∧
    ((chainHigh s k).isSome = true ∨ isChainHigh s k = true → t = s)) ∧
  (∀ (r : Req) (k j : Fin 16) (hi lo : Word) (s : State), may s r 2 = true → isChainHigh s k = true → j.val = k.val + 1 →
    runs (.countWrite r k [hi, lo]) s fun t =>
      (samplerAt t k).count = hi ∧ (samplerAt t j).count = lo ∧ (samplerAt t k).wrapped = false) ∧
  (∀ (r : Req) (s : State), may s r 2 = true → runs (.clearWraps r) s fun t =>
    (∀ e : Nat, (ctrOf t e).wrapped = false ∧ (ctrOf t e).n = (ctrOf s e).n) ∧
    ∀ k : Fin 16, samplerAt t k = { samplerAt s k with wrapped := false }) ∧
  (∀ (n : Nat) (s : State), up s = true → fnReady s 0xA 0 = true → s.bkup.timeKnown = true →
    0 < (cfgCtrDumpPeriodS s).toNat → s.perf.dumpAt < n * (1000 * (cfgCtrDumpPeriodS s).toNat) →
    n * (1000 * (cfgCtrDumpPeriodS s).toNat) ≤ opMs s → runs .dumpPeriodic s fun t => DumpTaken s 1 t) ∧
  (∀ s : State, cfgCtrDumpPeriodS s = 0 → runs .dumpPeriodic s fun t => t = s) ∧
  (∀ (r : Req) (s : State), may s r 1 = true → runs (.dumpNow r) s fun t => DumpTaken s 2 t) ∧
  (∀ (mac : BitVec 48) (d : Dump) (n : Nat) (s : State), up s = true → subscribers s 0x90100023 = [mac] →
    s.perf.waiting = 0 → s.perf.unsent = n + 1 → s.perf.dumps[n]? = some d → originBytes s 3 + 4488 ≤ originCap 3 →
    runs .counterDump s fun t => t.perf.unsent = n ∧ t.perf.dumps = s.perf.dumps ∧
      ∃ a b c, (classAt t 3).queue = (classAt s 3).queue ++ [a, b, c] ∧ a.payload = dumpPart d 0 ∧ b.payload = dumpPart d 1 ∧
        c.payload = dumpPart d 2 ∧ a.type = 0x27 ∧ a.mac = mac) ∧
  (∀ s : State, up s = true → runs .counterDump s fun t => t.perf.waiting = 0 ∧ t.perf.dumps = s.perf.dumps) ∧
  (∀ (r : Req) (seq : Word) (mac : BitVec 48) (d : Dump) (s : State), may s r 1 = true → subscribers s 0x90100023 = [mac] →
    s.perf.dumps.find? (fun k => k.seq == seq) = some d → originBytes s 3 + 4488 ≤ originCap 3 →
    runs (.resendDump r seq) s fun t =>
      ∃ a b c, (classAt t 3).queue = (classAt s 3).queue ++ [a, b, c] ∧ a.payload = dumpPart d 0 ∧ b.payload = dumpPart d 1 ∧
        c.payload = dumpPart d 2 ∧ a.mac = mac)



/-! What holds of every command and every step. -/


/-- No command stops the block, in any state and on any operands; and every step keeps the memories in their canonical form
and every quad's epoch off 0x0000 (from R8, R19). -/
def Obligations.StepKeepsInvariant : Prop :=
  (∀ (c : Instr) (s : State), ∃ t, exec c s = .next t) ∧
  (∀ s t : State, Inv s → step s = .next t → Inv t)

/-- The state after reset meets the invariant. Its NOR, DRAM and quad memories list nothing, as the model chooses (log
entry 6). -/
def Obligations.ResetMeetsInvariant : Prop :=
  Inv State.reset ∧ State.reset.pending = [] ∧ State.reset.nor.bytes = [] ∧ State.reset.dram.bytes = []

/-- Each quad has a 16-bit epoch: 1 at reset and after every assertion of the logic reset, one more each time the quad enters
RESET, UPDATE or OFF, 0xFFFF passing to 1 and never 0, and the same through every other change (R19). -/
def Obligations.QuadEpochs : Prop :=
  (∀ q : Fin 4, (quadAt State.reset q).epoch = 1) ∧
  (∀ (cause : BitVec 2) (cut : Option Nat) (s t : State) (q : Fin 4), up s = true → exec (.logicResetAssert cause cut) s = .next t →
    (quadAt t q).epoch = 1) ∧
  (∀ (c : Instr) (s t : State) (q : Fin 4), (∀ cause cut, c ≠ .logicResetAssert cause cut) → exec c s = .next t →
    (entersGone (quadAt s q).st (quadAt t q).st →
      (quadAt t q).epoch = if (quadAt s q).epoch = 0xFFFF then 1 else (quadAt s q).epoch + 1) ∧
    (¬ entersGone (quadAt s q).st (quadAt t q).st → (quadAt t q).epoch = (quadAt s q).epoch))

/-- FLTn follows the node's own SYSTEM conditions once the start is complete: low while one of priority MEDIUM or HIGH is
active, released otherwise; every step keeps it so, and the end of the start makes it so (R334). -/
def Obligations.FltFollowsConditions : Prop :=
  (∀ s t : State, (startComplete s = true →
      s.pins.fltn = !(List.finRange 64).any fun k => sysActive s k && decide (2 ≤ sysPrio k.val)) →
    step s = .next t → startComplete t = true →
    t.pins.fltn = !(List.finRange 64).any fun k => sysActive t k && decide (2 ≤ sysPrio k.val)) ∧
  startComplete State.reset = false

/-- The memories: a word written reads back, its first byte at the lowest address; two memories in canonical form that read
the same are the same; erased bytes read as erased. Only the commands named by `writesNor` and `writesDram` change a byte of the
NOR or of the DRAM; a sample or an edge changes only its own word of its ring, and a fabric write only the words it writes
(from R6, R20, R22, R212; what an unlisted byte reads as is log entry 6, the byte order of DRAM log entry 7). -/
def Obligations.MemoryReadsWhatWasWritten : Prop :=
  (∀ (d : BitVec 8) (m : Mem) (a : Nat) (w : Word), Mem.wf d m = true →
    memWord d (memSetWord d m a w) a = w ∧ memGet d (memSetWord d m a w) a = w.extractLsb' 24 8) ∧
  (∀ (d : BitVec 8) (m n : Mem), Mem.wf d m = true → Mem.wf d n = true → (∀ a, memGet d m a = memGet d n a) → m = n) ∧
  (∀ (m : Mem) (a n k : Nat),
    memGet norByte (memErase m a n) k = if a ≤ k ∧ k < a + n then norByte else memGet norByte m k) ∧
  (∀ (c : Instr) (s t : State), writesNor c = false → exec c s = .next t → t.nor.bytes = s.nor.bytes) ∧
  (∀ (c : Instr) (s t : State), writesDram c = false → exec c s = .next t → t.dram.bytes = s.dram.bytes) ∧
  (∀ (ch : Fin 16) (tick : BitVec 64) (volts upset : Word) (lost : Bool) (i : Nat) (s t : State),
    sampleAt s ch.val tick.toNat = some i → exec (.waveformSampleWrite ch tick volts upset lost) s = .next t →
    ∀ a, a < ringAddr ch.val (i % 2 ^ 64) ∨ ringAddr ch.val (i % 2 ^ 64) + 4 ≤ a →
      memGet ramByte t.dram.bytes a = memGet ramByte s.dram.bytes a) ∧
  (∀ (ch : Fin 16) (tick : BitVec 64) (level : Word) (held : Nat) (s t : State),
    exec (.frequencyEdge ch tick level held) s = .next t →
    ∀ a, a < ringAddr ch.val (vibAt t ch).writeIndex.toNat ∨ ringAddr ch.val (vibAt t ch).writeIndex.toNat + 4 ≤ a →
      memGet ramByte t.dram.bytes a = memGet ramByte s.dram.bytes a) ∧
  (∀ (id : Nat) (r : FabReq) (s t : State), (s.fabric.out.find? fun r => decide (r.id = id)) = some r →
    exec (.fabricReplyDelivery id) s = .next t →
    (∀ a, r.write = none ∨ r.tgt ≠ .dram ∨ a < r.addr % 2 ^ 32 / 4 * 4 ∨
      r.addr % 2 ^ 32 / 4 * 4 + 4 * (r.write.getD []).length ≤ a → memGet ramByte t.dram.bytes a = memGet ramByte s.dram.bytes a) ∧
    (∀ (ws : List Word) (k : Nat), up s = true → Mem.wf ramByte s.dram.bytes = true → r.write = some ws → k < ws.length →
      r.tgt = .dram → r.done = false → r.accepted = false → unitEpoch s .dram = r.tgtEpoch →
      memWord ramByte t.dram.bytes (r.addr % 2 ^ 32 / 4 * 4 + 4 * k) = ws.getD k 0))

/-! Frames: what each family of commands leaves as it was. -/

/-- The commands of the start, the field die, the node's anatomy and its integrity leave every part of the state outside their
footprint as it was. -/
def Obligations.FrameOfNodeCommands : Prop :=
  ∀ (c : Instr) (s t : State),
    (family c = .start ∨ family c = .field ∨ family c = .anatomy ∨ family c = .integrity) →
    exec c s = .next t → sameBut (footprint c) s t

/-- The commands of points, alarms, inputs, vibration and outputs leave every part outside their footprint as it was, and those
of one input or one output leave every other. -/
def Obligations.FrameOfProcessCommands : Prop :=
  (∀ (c : Instr) (s t : State),
    (family c = .points ∨ family c = .alarms ∨ family c = .inputs ∨ family c = .vibration ∨ family c = .outputs ∨
      family c = .discrete) → exec c s = .next t → sameBut (footprint c) s t) ∧
  (∀ (c : Instr) (s t : State) (ch k : Fin 16), oneInput c = some ch → exec c s = .next t → k ≠ ch → uaiAt t k = uaiAt s k) ∧
  (∀ (c : Instr) (s t : State) (n k : Fin 4), oneLoop c = some n → exec c s = .next t → k ≠ n → aoAt t k = aoAt s k)

/-- The commands of Canvas, of calling, of the ring, of the CAN buses and of register access leave every part outside their
footprint as it was. -/
def Obligations.FrameOfShipCommands : Prop :=
  ∀ (c : Instr) (s t : State),
    (family c = .canvas ∨ family c = .calling ∨ family c = .ring ∨ family c = .can ∨ family c = .access) →
    exec c s = .next t → sameBut (footprint c) s t

/-- The commands of the configuration image, the history, the clock and the counters leave every part outside their footprint
as it was, and those of one cursor or one sampling counter leave every other. -/
def Obligations.FrameOfStoreCommands : Prop :=
  (∀ (c : Instr) (s t : State),
    (family c = .config ∨ family c = .history ∨ family c = .time ∨ family c = .counters) →
    exec c s = .next t → sameBut (footprint c) s t) ∧
  (∀ (c : Instr) (s t : State) (n k : Fin 8), oneCursor c = some n → exec c s = .next t → k ≠ n → cursorAt t k = cursorAt s k) ∧
  (∀ (c : Instr) (s t : State) (n k : Fin 16), oneSampler c = some n → exec c s = .next t → k ≠ n →
    samplerAt t k = samplerAt s k)
end

