-- ==== Sys2Proof/Laws/Tables.lean ====
section
/-! SUPPORT. Sparse tables and vectors: what a read after a write gives. -/

namespace Sys2Proof.Machine
open Sys2Proof

/-- The entry set reads back. -/
@[simp] theorem tget_tset {α : Type} : ∀ (t : Tab α) (i : Nat) (a : α), tget (tset t i a) i = some a
  | [], i, a => by simp [tset, tget]
  | (k, b) :: t, i, a => by
    by_cases h : k = i
    · simp [tset, tget, h]
    · by_cases h2 : i < k <;> simp [tset, tget, h, h2, tget_tset t i a]

/-- Every other entry reads as before. -/
theorem tget_tset_ne {α : Type} : ∀ (t : Tab α) {i j : Nat} (a : α), j ≠ i → tget (tset t i a) j = tget t j
  | [], i, j, a, h => by simp [tset, tget, Ne.symm h]
  | (k, b) :: t, i, j, a, h => by
    by_cases h1 : k = i
    · simp [tset, tget, h1, Ne.symm h]
    · by_cases h2 : i < k
      · simp [tset, tget, h1, h2, Ne.symm h]
      · simp only [tset, h1, h2, if_false, tget]; rw [tget_tset_ne t a h]

/-- The entry set reads back where a default stands beside it. -/
@[simp] theorem tgetD_tset {α : Type} (t : Tab α) (i : Nat) (a d : α) : tgetD (tset t i a) i d = a := by simp [tgetD]

/-- Every other entry reads as before where a default stands beside it. -/
theorem tgetD_tset_ne {α : Type} (t : Tab α) {i j : Nat} (a d : α) (h : j ≠ i) : tgetD (tset t i a) j d = tgetD t j d := by
  simp [tgetD, tget_tset_ne t a h]

/-- An entry passed through a function. -/
theorem tget_tmod {α : Type} (f : α → α) (i : Nat) : ∀ t : Tab α, tget (tmod t i f) i = (tget t i).map f
  | [] => rfl
  | (k, a) :: t => by
    have ih := tget_tmod f i t
    simp only [tmod] at ih
    by_cases h : k = i <;> simp [tmod, tget, h, ih]

/-- Another entry than the one passed through a function. -/
theorem tget_tmod_ne {α : Type} (f : α → α) {i j : Nat} (h : j ≠ i) : ∀ t : Tab α, tget (tmod t i f) j = tget t j
  | [] => rfl
  | (k, a) :: t => by
    have ih := tget_tmod_ne f h t
    simp only [tmod] at ih
    by_cases h1 : k = i
    · simp [tmod, tget, h1, Ne.symm h, ih]
    · simp [tmod, tget, h1, ih]

/-- Every entry passed through a function. -/
theorem tget_tmap {α : Type} (f : Nat → α → α) (i : Nat) : ∀ t : Tab α, tget (tmap t f) i = (tget t i).map (f i)
  | [] => rfl
  | (k, a) :: t => by
    have ih := tget_tmap f i t
    simp only [tmap] at ih
    by_cases h : k = i
    · subst h; simp [tmap, tget]
    · simp [tmap, tget, h, ih]

/-- An entry taken out is gone. -/
@[simp] theorem tget_terase {α : Type} (i : Nat) : ∀ t : Tab α, tget (terase t i) i = none
  | [] => rfl
  | (k, a) :: t => by by_cases h : k = i <;> simp [terase, tget, h, tget_terase i t]

/-- The entry of a vector passed through a function. -/
@[simp] theorem vat_vmod {α : Type} {n : Nat} (v : Vector α n) (i : Fin n) (f : α → α) : vat (vmod v i f) i = f (vat v i) := by
  simp [vat, vmod]

/-- Every other entry of a vector stands. -/
theorem vat_vmod_ne {α : Type} {n : Nat} (v : Vector α n) {i j : Fin n} (f : α → α) (h : j ≠ i) :
    vat (vmod v i f) j = vat v j := by
  have : i.val ≠ j.val := fun e => h (Fin.ext e.symm)
  simp [vat, vmod, this]

/-- The entry of a vector passed through a function entry by entry. -/
@[simp] theorem vat_map {α β : Type} {n : Nat} (v : Vector α n) (i : Fin n) (f : α → β) : vat (v.map f) i = f (vat v i) := by
  simp [vat]

end Sys2Proof.Machine
end

