-- ==== Sys2Proof/Laws/Access.lean ====
section
/-! SUPPORT. What an accessor gives after an update of its own entry, and of another. -/

namespace Sys2Proof.Machine
open Sys2Proof

@[simp] theorem quadAt_modQuad (s : State) (q : Fin 4) (f : Quad → Quad) : quadAt (s.modQuad q f) q = f (quadAt s q) := by
  simp [quadAt, State.modQuad]
theorem quadAt_modQuad_ne (s : State) (q : Fin 4) (f : Quad → Quad) (j : Fin 4) (h : j ≠ q) : quadAt (s.modQuad q f) j = quadAt s j := by
  simp [quadAt, State.modQuad, vat_vmod_ne _ _ h]
@[simp] theorem engineAt_modEngine (s : State) (e : Fin 16) (f : Engine → Engine) : engineAt (s.modEngine e f) e = f (engineAt s e) := by
  simp [engineAt, State.modEngine]
theorem engineAt_modEngine_ne (s : State) (e : Fin 16) (f : Engine → Engine) (j : Fin 16) (h : j ≠ e) : engineAt (s.modEngine e f) j = engineAt s j := by
  simp [engineAt, State.modEngine, vat_vmod_ne _ _ h]
@[simp] theorem uaiAt_modUai (s : State) (n : Fin 16) (f : Uai → Uai) : uaiAt (s.modUai n f) n = f (uaiAt s n) := by
  simp [uaiAt, State.modUai]
theorem uaiAt_modUai_ne (s : State) (n : Fin 16) (f : Uai → Uai) (j : Fin 16) (h : j ≠ n) : uaiAt (s.modUai n f) j = uaiAt s j := by
  simp [uaiAt, State.modUai, vat_vmod_ne _ _ h]
@[simp] theorem hartAt_modHart (s : State) (c : Fin 20) (f : HartDev → HartDev) : hartAt (s.modHart c f) c = f (hartAt s c) := by
  simp [hartAt, State.modHart]
theorem hartAt_modHart_ne (s : State) (c : Fin 20) (f : HartDev → HartDev) (j : Fin 20) (h : j ≠ c) : hartAt (s.modHart c f) j = hartAt s j := by
  simp [hartAt, State.modHart, vat_vmod_ne _ _ h]
@[simp] theorem portAt_modPort (s : State) (p : Fin 20) (f : Port → Port) : portAt (s.modPort p f) p = f (portAt s p) := by
  simp [portAt, State.modPort]
theorem portAt_modPort_ne (s : State) (p : Fin 20) (f : Port → Port) (j : Fin 20) (h : j ≠ p) : portAt (s.modPort p f) j = portAt s j := by
  simp [portAt, State.modPort, vat_vmod_ne _ _ h]
@[simp] theorem aoAt_modAo (s : State) (n : Fin 4) (f : Ao → Ao) : aoAt (s.modAo n f) n = f (aoAt s n) := by
  simp [aoAt, State.modAo]
theorem aoAt_modAo_ne (s : State) (n : Fin 4) (f : Ao → Ao) (j : Fin 4) (h : j ≠ n) : aoAt (s.modAo n f) j = aoAt s j := by
  simp [aoAt, State.modAo, vat_vmod_ne _ _ h]
@[simp] theorem diAt_modDi (s : State) (n : Fin 16) (f : Di → Di) : diAt (s.modDi n f) n = f (diAt s n) := by
  simp [diAt, State.modDi]
theorem diAt_modDi_ne (s : State) (n : Fin 16) (f : Di → Di) (j : Fin 16) (h : j ≠ n) : diAt (s.modDi n f) j = diAt s j := by
  simp [diAt, State.modDi, vat_vmod_ne _ _ h]
@[simp] theorem doAt_modDo (s : State) (n : Fin 8) (f : Do → Do) : doAt (s.modDo n f) n = f (doAt s n) := by
  simp [doAt, State.modDo]
theorem doAt_modDo_ne (s : State) (n : Fin 8) (f : Do → Do) (j : Fin 8) (h : j ≠ n) : doAt (s.modDo n f) j = doAt s j := by
  simp [doAt, State.modDo, vat_vmod_ne _ _ h]
@[simp] theorem vibAt_modVib (s : State) (n : Fin 16) (f : VibCh → VibCh) : vibAt (s.modVib n f) n = f (vibAt s n) := by
  simp [vibAt, State.modVib]
theorem vibAt_modVib_ne (s : State) (n : Fin 16) (f : VibCh → VibCh) (j : Fin 16) (h : j ≠ n) : vibAt (s.modVib n f) j = vibAt s j := by
  simp [vibAt, State.modVib, vat_vmod_ne _ _ h]

end Sys2Proof.Machine
end

