-- ==== Sys2Proof/Laws/State.lean ====
section
/-! SUPPORT. One lemma per field per update of State, true by unfolding, so that no later proof unfolds a record update. -/

namespace Sys2Proof.Machine
open Sys2Proof

/-! modQuad. -/

@[simp] theorem modQuad_pending (s : State) (q : Fin 4) (f : Quad → Quad) : (s.modQuad q f).pending = s.pending := rfl
@[simp] theorem modQuad_clk (s : State) (q : Fin 4) (f : Quad → Quad) : (s.modQuad q f).clk = s.clk := rfl
@[simp] theorem modQuad_sys (s : State) (q : Fin 4) (f : Quad → Quad) : (s.modQuad q f).sys = s.sys := rfl
@[simp] theorem modQuad_pins (s : State) (q : Fin 4) (f : Quad → Quad) : (s.modQuad q f).pins = s.pins := rfl
@[simp] theorem modQuad_cfg (s : State) (q : Fin 4) (f : Quad → Quad) : (s.modQuad q f).cfg = s.cfg := rfl
@[simp] theorem modQuad_nor (s : State) (q : Fin 4) (f : Quad → Quad) : (s.modQuad q f).nor = s.nor := rfl
@[simp] theorem modQuad_engines (s : State) (q : Fin 4) (f : Quad → Quad) : (s.modQuad q f).engines = s.engines := rfl
@[simp] theorem modQuad_fabric (s : State) (q : Fin 4) (f : Quad → Quad) : (s.modQuad q f).fabric = s.fabric := rfl
@[simp] theorem modQuad_gauze (s : State) (q : Fin 4) (f : Quad → Quad) : (s.modQuad q f).gauze = s.gauze := rfl
@[simp] theorem modQuad_power (s : State) (q : Fin 4) (f : Quad → Quad) : (s.modQuad q f).power = s.power := rfl
@[simp] theorem modQuad_dram (s : State) (q : Fin 4) (f : Quad → Quad) : (s.modQuad q f).dram = s.dram := rfl
@[simp] theorem modQuad_field (s : State) (q : Fin 4) (f : Quad → Quad) : (s.modQuad q f).field = s.field := rfl
@[simp] theorem modQuad_uai (s : State) (q : Fin 4) (f : Quad → Quad) : (s.modQuad q f).uai = s.uai := rfl
@[simp] theorem modQuad_hart (s : State) (q : Fin 4) (f : Quad → Quad) : (s.modQuad q f).hart = s.hart := rfl
@[simp] theorem modQuad_modems (s : State) (q : Fin 4) (f : Quad → Quad) : (s.modQuad q f).modems = s.modems := rfl
@[simp] theorem modQuad_spare (s : State) (q : Fin 4) (f : Quad → Quad) : (s.modQuad q f).spare = s.spare := rfl
@[simp] theorem modQuad_vib (s : State) (q : Fin 4) (f : Quad → Quad) : (s.modQuad q f).vib = s.vib := rfl
@[simp] theorem modQuad_ao (s : State) (q : Fin 4) (f : Quad → Quad) : (s.modQuad q f).ao = s.ao := rfl
@[simp] theorem modQuad_disc (s : State) (q : Fin 4) (f : Quad → Quad) : (s.modQuad q f).disc = s.disc := rfl
@[simp] theorem modQuad_points (s : State) (q : Fin 4) (f : Quad → Quad) : (s.modQuad q f).points = s.points := rfl
@[simp] theorem modQuad_alarms (s : State) (q : Fin 4) (f : Quad → Quad) : (s.modQuad q f).alarms = s.alarms := rfl
@[simp] theorem modQuad_call (s : State) (q : Fin 4) (f : Quad → Quad) : (s.modQuad q f).call = s.call := rfl
@[simp] theorem modQuad_panels (s : State) (q : Fin 4) (f : Quad → Quad) : (s.modQuad q f).panels = s.panels := rfl
@[simp] theorem modQuad_canvas (s : State) (q : Fin 4) (f : Quad → Quad) : (s.modQuad q f).canvas = s.canvas := rfl
@[simp] theorem modQuad_ring (s : State) (q : Fin 4) (f : Quad → Quad) : (s.modQuad q f).ring = s.ring := rfl
@[simp] theorem modQuad_can (s : State) (q : Fin 4) (f : Quad → Quad) : (s.modQuad q f).can = s.can := rfl
@[simp] theorem modQuad_nand (s : State) (q : Fin 4) (f : Quad → Quad) : (s.modQuad q f).nand = s.nand := rfl
@[simp] theorem modQuad_linen (s : State) (q : Fin 4) (f : Quad → Quad) : (s.modQuad q f).linen = s.linen := rfl
@[simp] theorem modQuad_bkup (s : State) (q : Fin 4) (f : Quad → Quad) : (s.modQuad q f).bkup = s.bkup := rfl
@[simp] theorem modQuad_perf (s : State) (q : Fin 4) (f : Quad → Quad) : (s.modQuad q f).perf = s.perf := rfl

/-! modEngine. -/

@[simp] theorem modEngine_pending (s : State) (e : Fin 16) (f : Engine → Engine) : (s.modEngine e f).pending = s.pending := rfl
@[simp] theorem modEngine_clk (s : State) (e : Fin 16) (f : Engine → Engine) : (s.modEngine e f).clk = s.clk := rfl
@[simp] theorem modEngine_sys (s : State) (e : Fin 16) (f : Engine → Engine) : (s.modEngine e f).sys = s.sys := rfl
@[simp] theorem modEngine_pins (s : State) (e : Fin 16) (f : Engine → Engine) : (s.modEngine e f).pins = s.pins := rfl
@[simp] theorem modEngine_cfg (s : State) (e : Fin 16) (f : Engine → Engine) : (s.modEngine e f).cfg = s.cfg := rfl
@[simp] theorem modEngine_nor (s : State) (e : Fin 16) (f : Engine → Engine) : (s.modEngine e f).nor = s.nor := rfl
@[simp] theorem modEngine_quads (s : State) (e : Fin 16) (f : Engine → Engine) : (s.modEngine e f).quads = s.quads := rfl
@[simp] theorem modEngine_fabric (s : State) (e : Fin 16) (f : Engine → Engine) : (s.modEngine e f).fabric = s.fabric := rfl
@[simp] theorem modEngine_gauze (s : State) (e : Fin 16) (f : Engine → Engine) : (s.modEngine e f).gauze = s.gauze := rfl
@[simp] theorem modEngine_power (s : State) (e : Fin 16) (f : Engine → Engine) : (s.modEngine e f).power = s.power := rfl
@[simp] theorem modEngine_dram (s : State) (e : Fin 16) (f : Engine → Engine) : (s.modEngine e f).dram = s.dram := rfl
@[simp] theorem modEngine_field (s : State) (e : Fin 16) (f : Engine → Engine) : (s.modEngine e f).field = s.field := rfl
@[simp] theorem modEngine_uai (s : State) (e : Fin 16) (f : Engine → Engine) : (s.modEngine e f).uai = s.uai := rfl
@[simp] theorem modEngine_hart (s : State) (e : Fin 16) (f : Engine → Engine) : (s.modEngine e f).hart = s.hart := rfl
@[simp] theorem modEngine_modems (s : State) (e : Fin 16) (f : Engine → Engine) : (s.modEngine e f).modems = s.modems := rfl
@[simp] theorem modEngine_spare (s : State) (e : Fin 16) (f : Engine → Engine) : (s.modEngine e f).spare = s.spare := rfl
@[simp] theorem modEngine_vib (s : State) (e : Fin 16) (f : Engine → Engine) : (s.modEngine e f).vib = s.vib := rfl
@[simp] theorem modEngine_ao (s : State) (e : Fin 16) (f : Engine → Engine) : (s.modEngine e f).ao = s.ao := rfl
@[simp] theorem modEngine_disc (s : State) (e : Fin 16) (f : Engine → Engine) : (s.modEngine e f).disc = s.disc := rfl
@[simp] theorem modEngine_points (s : State) (e : Fin 16) (f : Engine → Engine) : (s.modEngine e f).points = s.points := rfl
@[simp] theorem modEngine_alarms (s : State) (e : Fin 16) (f : Engine → Engine) : (s.modEngine e f).alarms = s.alarms := rfl
@[simp] theorem modEngine_call (s : State) (e : Fin 16) (f : Engine → Engine) : (s.modEngine e f).call = s.call := rfl
@[simp] theorem modEngine_panels (s : State) (e : Fin 16) (f : Engine → Engine) : (s.modEngine e f).panels = s.panels := rfl
@[simp] theorem modEngine_canvas (s : State) (e : Fin 16) (f : Engine → Engine) : (s.modEngine e f).canvas = s.canvas := rfl
@[simp] theorem modEngine_ring (s : State) (e : Fin 16) (f : Engine → Engine) : (s.modEngine e f).ring = s.ring := rfl
@[simp] theorem modEngine_can (s : State) (e : Fin 16) (f : Engine → Engine) : (s.modEngine e f).can = s.can := rfl
@[simp] theorem modEngine_nand (s : State) (e : Fin 16) (f : Engine → Engine) : (s.modEngine e f).nand = s.nand := rfl
@[simp] theorem modEngine_linen (s : State) (e : Fin 16) (f : Engine → Engine) : (s.modEngine e f).linen = s.linen := rfl
@[simp] theorem modEngine_bkup (s : State) (e : Fin 16) (f : Engine → Engine) : (s.modEngine e f).bkup = s.bkup := rfl
@[simp] theorem modEngine_perf (s : State) (e : Fin 16) (f : Engine → Engine) : (s.modEngine e f).perf = s.perf := rfl

/-! modUai. -/

@[simp] theorem modUai_pending (s : State) (n : Fin 16) (f : Uai → Uai) : (s.modUai n f).pending = s.pending := rfl
@[simp] theorem modUai_clk (s : State) (n : Fin 16) (f : Uai → Uai) : (s.modUai n f).clk = s.clk := rfl
@[simp] theorem modUai_sys (s : State) (n : Fin 16) (f : Uai → Uai) : (s.modUai n f).sys = s.sys := rfl
@[simp] theorem modUai_pins (s : State) (n : Fin 16) (f : Uai → Uai) : (s.modUai n f).pins = s.pins := rfl
@[simp] theorem modUai_cfg (s : State) (n : Fin 16) (f : Uai → Uai) : (s.modUai n f).cfg = s.cfg := rfl
@[simp] theorem modUai_nor (s : State) (n : Fin 16) (f : Uai → Uai) : (s.modUai n f).nor = s.nor := rfl
@[simp] theorem modUai_quads (s : State) (n : Fin 16) (f : Uai → Uai) : (s.modUai n f).quads = s.quads := rfl
@[simp] theorem modUai_engines (s : State) (n : Fin 16) (f : Uai → Uai) : (s.modUai n f).engines = s.engines := rfl
@[simp] theorem modUai_fabric (s : State) (n : Fin 16) (f : Uai → Uai) : (s.modUai n f).fabric = s.fabric := rfl
@[simp] theorem modUai_gauze (s : State) (n : Fin 16) (f : Uai → Uai) : (s.modUai n f).gauze = s.gauze := rfl
@[simp] theorem modUai_power (s : State) (n : Fin 16) (f : Uai → Uai) : (s.modUai n f).power = s.power := rfl
@[simp] theorem modUai_dram (s : State) (n : Fin 16) (f : Uai → Uai) : (s.modUai n f).dram = s.dram := rfl
@[simp] theorem modUai_field (s : State) (n : Fin 16) (f : Uai → Uai) : (s.modUai n f).field = s.field := rfl
@[simp] theorem modUai_hart (s : State) (n : Fin 16) (f : Uai → Uai) : (s.modUai n f).hart = s.hart := rfl
@[simp] theorem modUai_modems (s : State) (n : Fin 16) (f : Uai → Uai) : (s.modUai n f).modems = s.modems := rfl
@[simp] theorem modUai_spare (s : State) (n : Fin 16) (f : Uai → Uai) : (s.modUai n f).spare = s.spare := rfl
@[simp] theorem modUai_vib (s : State) (n : Fin 16) (f : Uai → Uai) : (s.modUai n f).vib = s.vib := rfl
@[simp] theorem modUai_ao (s : State) (n : Fin 16) (f : Uai → Uai) : (s.modUai n f).ao = s.ao := rfl
@[simp] theorem modUai_disc (s : State) (n : Fin 16) (f : Uai → Uai) : (s.modUai n f).disc = s.disc := rfl
@[simp] theorem modUai_points (s : State) (n : Fin 16) (f : Uai → Uai) : (s.modUai n f).points = s.points := rfl
@[simp] theorem modUai_alarms (s : State) (n : Fin 16) (f : Uai → Uai) : (s.modUai n f).alarms = s.alarms := rfl
@[simp] theorem modUai_call (s : State) (n : Fin 16) (f : Uai → Uai) : (s.modUai n f).call = s.call := rfl
@[simp] theorem modUai_panels (s : State) (n : Fin 16) (f : Uai → Uai) : (s.modUai n f).panels = s.panels := rfl
@[simp] theorem modUai_canvas (s : State) (n : Fin 16) (f : Uai → Uai) : (s.modUai n f).canvas = s.canvas := rfl
@[simp] theorem modUai_ring (s : State) (n : Fin 16) (f : Uai → Uai) : (s.modUai n f).ring = s.ring := rfl
@[simp] theorem modUai_can (s : State) (n : Fin 16) (f : Uai → Uai) : (s.modUai n f).can = s.can := rfl
@[simp] theorem modUai_nand (s : State) (n : Fin 16) (f : Uai → Uai) : (s.modUai n f).nand = s.nand := rfl
@[simp] theorem modUai_linen (s : State) (n : Fin 16) (f : Uai → Uai) : (s.modUai n f).linen = s.linen := rfl
@[simp] theorem modUai_bkup (s : State) (n : Fin 16) (f : Uai → Uai) : (s.modUai n f).bkup = s.bkup := rfl
@[simp] theorem modUai_perf (s : State) (n : Fin 16) (f : Uai → Uai) : (s.modUai n f).perf = s.perf := rfl

/-! modHart. -/

@[simp] theorem modHart_pending (s : State) (c : Fin 20) (f : HartDev → HartDev) : (s.modHart c f).pending = s.pending := rfl
@[simp] theorem modHart_clk (s : State) (c : Fin 20) (f : HartDev → HartDev) : (s.modHart c f).clk = s.clk := rfl
@[simp] theorem modHart_sys (s : State) (c : Fin 20) (f : HartDev → HartDev) : (s.modHart c f).sys = s.sys := rfl
@[simp] theorem modHart_pins (s : State) (c : Fin 20) (f : HartDev → HartDev) : (s.modHart c f).pins = s.pins := rfl
@[simp] theorem modHart_cfg (s : State) (c : Fin 20) (f : HartDev → HartDev) : (s.modHart c f).cfg = s.cfg := rfl
@[simp] theorem modHart_nor (s : State) (c : Fin 20) (f : HartDev → HartDev) : (s.modHart c f).nor = s.nor := rfl
@[simp] theorem modHart_quads (s : State) (c : Fin 20) (f : HartDev → HartDev) : (s.modHart c f).quads = s.quads := rfl
@[simp] theorem modHart_engines (s : State) (c : Fin 20) (f : HartDev → HartDev) : (s.modHart c f).engines = s.engines := rfl
@[simp] theorem modHart_fabric (s : State) (c : Fin 20) (f : HartDev → HartDev) : (s.modHart c f).fabric = s.fabric := rfl
@[simp] theorem modHart_gauze (s : State) (c : Fin 20) (f : HartDev → HartDev) : (s.modHart c f).gauze = s.gauze := rfl
@[simp] theorem modHart_power (s : State) (c : Fin 20) (f : HartDev → HartDev) : (s.modHart c f).power = s.power := rfl
@[simp] theorem modHart_dram (s : State) (c : Fin 20) (f : HartDev → HartDev) : (s.modHart c f).dram = s.dram := rfl
@[simp] theorem modHart_field (s : State) (c : Fin 20) (f : HartDev → HartDev) : (s.modHart c f).field = s.field := rfl
@[simp] theorem modHart_uai (s : State) (c : Fin 20) (f : HartDev → HartDev) : (s.modHart c f).uai = s.uai := rfl
@[simp] theorem modHart_modems (s : State) (c : Fin 20) (f : HartDev → HartDev) : (s.modHart c f).modems = s.modems := rfl
@[simp] theorem modHart_spare (s : State) (c : Fin 20) (f : HartDev → HartDev) : (s.modHart c f).spare = s.spare := rfl
@[simp] theorem modHart_vib (s : State) (c : Fin 20) (f : HartDev → HartDev) : (s.modHart c f).vib = s.vib := rfl
@[simp] theorem modHart_ao (s : State) (c : Fin 20) (f : HartDev → HartDev) : (s.modHart c f).ao = s.ao := rfl
@[simp] theorem modHart_disc (s : State) (c : Fin 20) (f : HartDev → HartDev) : (s.modHart c f).disc = s.disc := rfl
@[simp] theorem modHart_points (s : State) (c : Fin 20) (f : HartDev → HartDev) : (s.modHart c f).points = s.points := rfl
@[simp] theorem modHart_alarms (s : State) (c : Fin 20) (f : HartDev → HartDev) : (s.modHart c f).alarms = s.alarms := rfl
@[simp] theorem modHart_call (s : State) (c : Fin 20) (f : HartDev → HartDev) : (s.modHart c f).call = s.call := rfl
@[simp] theorem modHart_panels (s : State) (c : Fin 20) (f : HartDev → HartDev) : (s.modHart c f).panels = s.panels := rfl
@[simp] theorem modHart_canvas (s : State) (c : Fin 20) (f : HartDev → HartDev) : (s.modHart c f).canvas = s.canvas := rfl
@[simp] theorem modHart_ring (s : State) (c : Fin 20) (f : HartDev → HartDev) : (s.modHart c f).ring = s.ring := rfl
@[simp] theorem modHart_can (s : State) (c : Fin 20) (f : HartDev → HartDev) : (s.modHart c f).can = s.can := rfl
@[simp] theorem modHart_nand (s : State) (c : Fin 20) (f : HartDev → HartDev) : (s.modHart c f).nand = s.nand := rfl
@[simp] theorem modHart_linen (s : State) (c : Fin 20) (f : HartDev → HartDev) : (s.modHart c f).linen = s.linen := rfl
@[simp] theorem modHart_bkup (s : State) (c : Fin 20) (f : HartDev → HartDev) : (s.modHart c f).bkup = s.bkup := rfl
@[simp] theorem modHart_perf (s : State) (c : Fin 20) (f : HartDev → HartDev) : (s.modHart c f).perf = s.perf := rfl

/-! modPort. -/

@[simp] theorem modPort_pending (s : State) (p : Fin 20) (f : Port → Port) : (s.modPort p f).pending = s.pending := rfl
@[simp] theorem modPort_clk (s : State) (p : Fin 20) (f : Port → Port) : (s.modPort p f).clk = s.clk := rfl
@[simp] theorem modPort_sys (s : State) (p : Fin 20) (f : Port → Port) : (s.modPort p f).sys = s.sys := rfl
@[simp] theorem modPort_pins (s : State) (p : Fin 20) (f : Port → Port) : (s.modPort p f).pins = s.pins := rfl
@[simp] theorem modPort_cfg (s : State) (p : Fin 20) (f : Port → Port) : (s.modPort p f).cfg = s.cfg := rfl
@[simp] theorem modPort_nor (s : State) (p : Fin 20) (f : Port → Port) : (s.modPort p f).nor = s.nor := rfl
@[simp] theorem modPort_quads (s : State) (p : Fin 20) (f : Port → Port) : (s.modPort p f).quads = s.quads := rfl
@[simp] theorem modPort_engines (s : State) (p : Fin 20) (f : Port → Port) : (s.modPort p f).engines = s.engines := rfl
@[simp] theorem modPort_fabric (s : State) (p : Fin 20) (f : Port → Port) : (s.modPort p f).fabric = s.fabric := rfl
@[simp] theorem modPort_gauze (s : State) (p : Fin 20) (f : Port → Port) : (s.modPort p f).gauze = s.gauze := rfl
@[simp] theorem modPort_power (s : State) (p : Fin 20) (f : Port → Port) : (s.modPort p f).power = s.power := rfl
@[simp] theorem modPort_dram (s : State) (p : Fin 20) (f : Port → Port) : (s.modPort p f).dram = s.dram := rfl
@[simp] theorem modPort_uai (s : State) (p : Fin 20) (f : Port → Port) : (s.modPort p f).uai = s.uai := rfl
@[simp] theorem modPort_hart (s : State) (p : Fin 20) (f : Port → Port) : (s.modPort p f).hart = s.hart := rfl
@[simp] theorem modPort_modems (s : State) (p : Fin 20) (f : Port → Port) : (s.modPort p f).modems = s.modems := rfl
@[simp] theorem modPort_spare (s : State) (p : Fin 20) (f : Port → Port) : (s.modPort p f).spare = s.spare := rfl
@[simp] theorem modPort_vib (s : State) (p : Fin 20) (f : Port → Port) : (s.modPort p f).vib = s.vib := rfl
@[simp] theorem modPort_ao (s : State) (p : Fin 20) (f : Port → Port) : (s.modPort p f).ao = s.ao := rfl
@[simp] theorem modPort_disc (s : State) (p : Fin 20) (f : Port → Port) : (s.modPort p f).disc = s.disc := rfl
@[simp] theorem modPort_points (s : State) (p : Fin 20) (f : Port → Port) : (s.modPort p f).points = s.points := rfl
@[simp] theorem modPort_alarms (s : State) (p : Fin 20) (f : Port → Port) : (s.modPort p f).alarms = s.alarms := rfl
@[simp] theorem modPort_call (s : State) (p : Fin 20) (f : Port → Port) : (s.modPort p f).call = s.call := rfl
@[simp] theorem modPort_panels (s : State) (p : Fin 20) (f : Port → Port) : (s.modPort p f).panels = s.panels := rfl
@[simp] theorem modPort_canvas (s : State) (p : Fin 20) (f : Port → Port) : (s.modPort p f).canvas = s.canvas := rfl
@[simp] theorem modPort_ring (s : State) (p : Fin 20) (f : Port → Port) : (s.modPort p f).ring = s.ring := rfl
@[simp] theorem modPort_can (s : State) (p : Fin 20) (f : Port → Port) : (s.modPort p f).can = s.can := rfl
@[simp] theorem modPort_nand (s : State) (p : Fin 20) (f : Port → Port) : (s.modPort p f).nand = s.nand := rfl
@[simp] theorem modPort_linen (s : State) (p : Fin 20) (f : Port → Port) : (s.modPort p f).linen = s.linen := rfl
@[simp] theorem modPort_bkup (s : State) (p : Fin 20) (f : Port → Port) : (s.modPort p f).bkup = s.bkup := rfl
@[simp] theorem modPort_perf (s : State) (p : Fin 20) (f : Port → Port) : (s.modPort p f).perf = s.perf := rfl

/-! modFelt. -/

@[simp] theorem modFelt_pending (s : State) (o : Fin 12) (f : FeltCmd → FeltCmd) : (s.modFelt o f).pending = s.pending := rfl
@[simp] theorem modFelt_clk (s : State) (o : Fin 12) (f : FeltCmd → FeltCmd) : (s.modFelt o f).clk = s.clk := rfl
@[simp] theorem modFelt_sys (s : State) (o : Fin 12) (f : FeltCmd → FeltCmd) : (s.modFelt o f).sys = s.sys := rfl
@[simp] theorem modFelt_pins (s : State) (o : Fin 12) (f : FeltCmd → FeltCmd) : (s.modFelt o f).pins = s.pins := rfl
@[simp] theorem modFelt_cfg (s : State) (o : Fin 12) (f : FeltCmd → FeltCmd) : (s.modFelt o f).cfg = s.cfg := rfl
@[simp] theorem modFelt_nor (s : State) (o : Fin 12) (f : FeltCmd → FeltCmd) : (s.modFelt o f).nor = s.nor := rfl
@[simp] theorem modFelt_quads (s : State) (o : Fin 12) (f : FeltCmd → FeltCmd) : (s.modFelt o f).quads = s.quads := rfl
@[simp] theorem modFelt_engines (s : State) (o : Fin 12) (f : FeltCmd → FeltCmd) : (s.modFelt o f).engines = s.engines := rfl
@[simp] theorem modFelt_fabric (s : State) (o : Fin 12) (f : FeltCmd → FeltCmd) : (s.modFelt o f).fabric = s.fabric := rfl
@[simp] theorem modFelt_gauze (s : State) (o : Fin 12) (f : FeltCmd → FeltCmd) : (s.modFelt o f).gauze = s.gauze := rfl
@[simp] theorem modFelt_power (s : State) (o : Fin 12) (f : FeltCmd → FeltCmd) : (s.modFelt o f).power = s.power := rfl
@[simp] theorem modFelt_dram (s : State) (o : Fin 12) (f : FeltCmd → FeltCmd) : (s.modFelt o f).dram = s.dram := rfl
@[simp] theorem modFelt_uai (s : State) (o : Fin 12) (f : FeltCmd → FeltCmd) : (s.modFelt o f).uai = s.uai := rfl
@[simp] theorem modFelt_hart (s : State) (o : Fin 12) (f : FeltCmd → FeltCmd) : (s.modFelt o f).hart = s.hart := rfl
@[simp] theorem modFelt_modems (s : State) (o : Fin 12) (f : FeltCmd → FeltCmd) : (s.modFelt o f).modems = s.modems := rfl
@[simp] theorem modFelt_spare (s : State) (o : Fin 12) (f : FeltCmd → FeltCmd) : (s.modFelt o f).spare = s.spare := rfl
@[simp] theorem modFelt_vib (s : State) (o : Fin 12) (f : FeltCmd → FeltCmd) : (s.modFelt o f).vib = s.vib := rfl
@[simp] theorem modFelt_ao (s : State) (o : Fin 12) (f : FeltCmd → FeltCmd) : (s.modFelt o f).ao = s.ao := rfl
@[simp] theorem modFelt_disc (s : State) (o : Fin 12) (f : FeltCmd → FeltCmd) : (s.modFelt o f).disc = s.disc := rfl
@[simp] theorem modFelt_points (s : State) (o : Fin 12) (f : FeltCmd → FeltCmd) : (s.modFelt o f).points = s.points := rfl
@[simp] theorem modFelt_alarms (s : State) (o : Fin 12) (f : FeltCmd → FeltCmd) : (s.modFelt o f).alarms = s.alarms := rfl
@[simp] theorem modFelt_call (s : State) (o : Fin 12) (f : FeltCmd → FeltCmd) : (s.modFelt o f).call = s.call := rfl
@[simp] theorem modFelt_panels (s : State) (o : Fin 12) (f : FeltCmd → FeltCmd) : (s.modFelt o f).panels = s.panels := rfl
@[simp] theorem modFelt_canvas (s : State) (o : Fin 12) (f : FeltCmd → FeltCmd) : (s.modFelt o f).canvas = s.canvas := rfl
@[simp] theorem modFelt_ring (s : State) (o : Fin 12) (f : FeltCmd → FeltCmd) : (s.modFelt o f).ring = s.ring := rfl
@[simp] theorem modFelt_can (s : State) (o : Fin 12) (f : FeltCmd → FeltCmd) : (s.modFelt o f).can = s.can := rfl
@[simp] theorem modFelt_nand (s : State) (o : Fin 12) (f : FeltCmd → FeltCmd) : (s.modFelt o f).nand = s.nand := rfl
@[simp] theorem modFelt_linen (s : State) (o : Fin 12) (f : FeltCmd → FeltCmd) : (s.modFelt o f).linen = s.linen := rfl
@[simp] theorem modFelt_bkup (s : State) (o : Fin 12) (f : FeltCmd → FeltCmd) : (s.modFelt o f).bkup = s.bkup := rfl
@[simp] theorem modFelt_perf (s : State) (o : Fin 12) (f : FeltCmd → FeltCmd) : (s.modFelt o f).perf = s.perf := rfl

/-! modAo. -/

@[simp] theorem modAo_pending (s : State) (n : Fin 4) (f : Ao → Ao) : (s.modAo n f).pending = s.pending := rfl
@[simp] theorem modAo_clk (s : State) (n : Fin 4) (f : Ao → Ao) : (s.modAo n f).clk = s.clk := rfl
@[simp] theorem modAo_sys (s : State) (n : Fin 4) (f : Ao → Ao) : (s.modAo n f).sys = s.sys := rfl
@[simp] theorem modAo_pins (s : State) (n : Fin 4) (f : Ao → Ao) : (s.modAo n f).pins = s.pins := rfl
@[simp] theorem modAo_cfg (s : State) (n : Fin 4) (f : Ao → Ao) : (s.modAo n f).cfg = s.cfg := rfl
@[simp] theorem modAo_nor (s : State) (n : Fin 4) (f : Ao → Ao) : (s.modAo n f).nor = s.nor := rfl
@[simp] theorem modAo_quads (s : State) (n : Fin 4) (f : Ao → Ao) : (s.modAo n f).quads = s.quads := rfl
@[simp] theorem modAo_engines (s : State) (n : Fin 4) (f : Ao → Ao) : (s.modAo n f).engines = s.engines := rfl
@[simp] theorem modAo_fabric (s : State) (n : Fin 4) (f : Ao → Ao) : (s.modAo n f).fabric = s.fabric := rfl
@[simp] theorem modAo_gauze (s : State) (n : Fin 4) (f : Ao → Ao) : (s.modAo n f).gauze = s.gauze := rfl
@[simp] theorem modAo_power (s : State) (n : Fin 4) (f : Ao → Ao) : (s.modAo n f).power = s.power := rfl
@[simp] theorem modAo_dram (s : State) (n : Fin 4) (f : Ao → Ao) : (s.modAo n f).dram = s.dram := rfl
@[simp] theorem modAo_field (s : State) (n : Fin 4) (f : Ao → Ao) : (s.modAo n f).field = s.field := rfl
@[simp] theorem modAo_uai (s : State) (n : Fin 4) (f : Ao → Ao) : (s.modAo n f).uai = s.uai := rfl
@[simp] theorem modAo_hart (s : State) (n : Fin 4) (f : Ao → Ao) : (s.modAo n f).hart = s.hart := rfl
@[simp] theorem modAo_modems (s : State) (n : Fin 4) (f : Ao → Ao) : (s.modAo n f).modems = s.modems := rfl
@[simp] theorem modAo_spare (s : State) (n : Fin 4) (f : Ao → Ao) : (s.modAo n f).spare = s.spare := rfl
@[simp] theorem modAo_vib (s : State) (n : Fin 4) (f : Ao → Ao) : (s.modAo n f).vib = s.vib := rfl
@[simp] theorem modAo_disc (s : State) (n : Fin 4) (f : Ao → Ao) : (s.modAo n f).disc = s.disc := rfl
@[simp] theorem modAo_points (s : State) (n : Fin 4) (f : Ao → Ao) : (s.modAo n f).points = s.points := rfl
@[simp] theorem modAo_alarms (s : State) (n : Fin 4) (f : Ao → Ao) : (s.modAo n f).alarms = s.alarms := rfl
@[simp] theorem modAo_call (s : State) (n : Fin 4) (f : Ao → Ao) : (s.modAo n f).call = s.call := rfl
@[simp] theorem modAo_panels (s : State) (n : Fin 4) (f : Ao → Ao) : (s.modAo n f).panels = s.panels := rfl
@[simp] theorem modAo_canvas (s : State) (n : Fin 4) (f : Ao → Ao) : (s.modAo n f).canvas = s.canvas := rfl
@[simp] theorem modAo_ring (s : State) (n : Fin 4) (f : Ao → Ao) : (s.modAo n f).ring = s.ring := rfl
@[simp] theorem modAo_can (s : State) (n : Fin 4) (f : Ao → Ao) : (s.modAo n f).can = s.can := rfl
@[simp] theorem modAo_nand (s : State) (n : Fin 4) (f : Ao → Ao) : (s.modAo n f).nand = s.nand := rfl
@[simp] theorem modAo_linen (s : State) (n : Fin 4) (f : Ao → Ao) : (s.modAo n f).linen = s.linen := rfl
@[simp] theorem modAo_bkup (s : State) (n : Fin 4) (f : Ao → Ao) : (s.modAo n f).bkup = s.bkup := rfl
@[simp] theorem modAo_perf (s : State) (n : Fin 4) (f : Ao → Ao) : (s.modAo n f).perf = s.perf := rfl

/-! modDi. -/

@[simp] theorem modDi_pending (s : State) (n : Fin 16) (f : Di → Di) : (s.modDi n f).pending = s.pending := rfl
@[simp] theorem modDi_clk (s : State) (n : Fin 16) (f : Di → Di) : (s.modDi n f).clk = s.clk := rfl
@[simp] theorem modDi_sys (s : State) (n : Fin 16) (f : Di → Di) : (s.modDi n f).sys = s.sys := rfl
@[simp] theorem modDi_pins (s : State) (n : Fin 16) (f : Di → Di) : (s.modDi n f).pins = s.pins := rfl
@[simp] theorem modDi_cfg (s : State) (n : Fin 16) (f : Di → Di) : (s.modDi n f).cfg = s.cfg := rfl
@[simp] theorem modDi_nor (s : State) (n : Fin 16) (f : Di → Di) : (s.modDi n f).nor = s.nor := rfl
@[simp] theorem modDi_quads (s : State) (n : Fin 16) (f : Di → Di) : (s.modDi n f).quads = s.quads := rfl
@[simp] theorem modDi_engines (s : State) (n : Fin 16) (f : Di → Di) : (s.modDi n f).engines = s.engines := rfl
@[simp] theorem modDi_fabric (s : State) (n : Fin 16) (f : Di → Di) : (s.modDi n f).fabric = s.fabric := rfl
@[simp] theorem modDi_gauze (s : State) (n : Fin 16) (f : Di → Di) : (s.modDi n f).gauze = s.gauze := rfl
@[simp] theorem modDi_power (s : State) (n : Fin 16) (f : Di → Di) : (s.modDi n f).power = s.power := rfl
@[simp] theorem modDi_dram (s : State) (n : Fin 16) (f : Di → Di) : (s.modDi n f).dram = s.dram := rfl
@[simp] theorem modDi_field (s : State) (n : Fin 16) (f : Di → Di) : (s.modDi n f).field = s.field := rfl
@[simp] theorem modDi_uai (s : State) (n : Fin 16) (f : Di → Di) : (s.modDi n f).uai = s.uai := rfl
@[simp] theorem modDi_hart (s : State) (n : Fin 16) (f : Di → Di) : (s.modDi n f).hart = s.hart := rfl
@[simp] theorem modDi_modems (s : State) (n : Fin 16) (f : Di → Di) : (s.modDi n f).modems = s.modems := rfl
@[simp] theorem modDi_spare (s : State) (n : Fin 16) (f : Di → Di) : (s.modDi n f).spare = s.spare := rfl
@[simp] theorem modDi_vib (s : State) (n : Fin 16) (f : Di → Di) : (s.modDi n f).vib = s.vib := rfl
@[simp] theorem modDi_ao (s : State) (n : Fin 16) (f : Di → Di) : (s.modDi n f).ao = s.ao := rfl
@[simp] theorem modDi_points (s : State) (n : Fin 16) (f : Di → Di) : (s.modDi n f).points = s.points := rfl
@[simp] theorem modDi_alarms (s : State) (n : Fin 16) (f : Di → Di) : (s.modDi n f).alarms = s.alarms := rfl
@[simp] theorem modDi_call (s : State) (n : Fin 16) (f : Di → Di) : (s.modDi n f).call = s.call := rfl
@[simp] theorem modDi_panels (s : State) (n : Fin 16) (f : Di → Di) : (s.modDi n f).panels = s.panels := rfl
@[simp] theorem modDi_canvas (s : State) (n : Fin 16) (f : Di → Di) : (s.modDi n f).canvas = s.canvas := rfl
@[simp] theorem modDi_ring (s : State) (n : Fin 16) (f : Di → Di) : (s.modDi n f).ring = s.ring := rfl
@[simp] theorem modDi_can (s : State) (n : Fin 16) (f : Di → Di) : (s.modDi n f).can = s.can := rfl
@[simp] theorem modDi_nand (s : State) (n : Fin 16) (f : Di → Di) : (s.modDi n f).nand = s.nand := rfl
@[simp] theorem modDi_linen (s : State) (n : Fin 16) (f : Di → Di) : (s.modDi n f).linen = s.linen := rfl
@[simp] theorem modDi_bkup (s : State) (n : Fin 16) (f : Di → Di) : (s.modDi n f).bkup = s.bkup := rfl
@[simp] theorem modDi_perf (s : State) (n : Fin 16) (f : Di → Di) : (s.modDi n f).perf = s.perf := rfl

/-! modDo. -/

@[simp] theorem modDo_pending (s : State) (n : Fin 8) (f : Do → Do) : (s.modDo n f).pending = s.pending := rfl
@[simp] theorem modDo_clk (s : State) (n : Fin 8) (f : Do → Do) : (s.modDo n f).clk = s.clk := rfl
@[simp] theorem modDo_sys (s : State) (n : Fin 8) (f : Do → Do) : (s.modDo n f).sys = s.sys := rfl
@[simp] theorem modDo_pins (s : State) (n : Fin 8) (f : Do → Do) : (s.modDo n f).pins = s.pins := rfl
@[simp] theorem modDo_cfg (s : State) (n : Fin 8) (f : Do → Do) : (s.modDo n f).cfg = s.cfg := rfl
@[simp] theorem modDo_nor (s : State) (n : Fin 8) (f : Do → Do) : (s.modDo n f).nor = s.nor := rfl
@[simp] theorem modDo_quads (s : State) (n : Fin 8) (f : Do → Do) : (s.modDo n f).quads = s.quads := rfl
@[simp] theorem modDo_engines (s : State) (n : Fin 8) (f : Do → Do) : (s.modDo n f).engines = s.engines := rfl
@[simp] theorem modDo_fabric (s : State) (n : Fin 8) (f : Do → Do) : (s.modDo n f).fabric = s.fabric := rfl
@[simp] theorem modDo_gauze (s : State) (n : Fin 8) (f : Do → Do) : (s.modDo n f).gauze = s.gauze := rfl
@[simp] theorem modDo_power (s : State) (n : Fin 8) (f : Do → Do) : (s.modDo n f).power = s.power := rfl
@[simp] theorem modDo_dram (s : State) (n : Fin 8) (f : Do → Do) : (s.modDo n f).dram = s.dram := rfl
@[simp] theorem modDo_field (s : State) (n : Fin 8) (f : Do → Do) : (s.modDo n f).field = s.field := rfl
@[simp] theorem modDo_uai (s : State) (n : Fin 8) (f : Do → Do) : (s.modDo n f).uai = s.uai := rfl
@[simp] theorem modDo_hart (s : State) (n : Fin 8) (f : Do → Do) : (s.modDo n f).hart = s.hart := rfl
@[simp] theorem modDo_modems (s : State) (n : Fin 8) (f : Do → Do) : (s.modDo n f).modems = s.modems := rfl
@[simp] theorem modDo_spare (s : State) (n : Fin 8) (f : Do → Do) : (s.modDo n f).spare = s.spare := rfl
@[simp] theorem modDo_vib (s : State) (n : Fin 8) (f : Do → Do) : (s.modDo n f).vib = s.vib := rfl
@[simp] theorem modDo_ao (s : State) (n : Fin 8) (f : Do → Do) : (s.modDo n f).ao = s.ao := rfl
@[simp] theorem modDo_points (s : State) (n : Fin 8) (f : Do → Do) : (s.modDo n f).points = s.points := rfl
@[simp] theorem modDo_alarms (s : State) (n : Fin 8) (f : Do → Do) : (s.modDo n f).alarms = s.alarms := rfl
@[simp] theorem modDo_call (s : State) (n : Fin 8) (f : Do → Do) : (s.modDo n f).call = s.call := rfl
@[simp] theorem modDo_panels (s : State) (n : Fin 8) (f : Do → Do) : (s.modDo n f).panels = s.panels := rfl
@[simp] theorem modDo_canvas (s : State) (n : Fin 8) (f : Do → Do) : (s.modDo n f).canvas = s.canvas := rfl
@[simp] theorem modDo_ring (s : State) (n : Fin 8) (f : Do → Do) : (s.modDo n f).ring = s.ring := rfl
@[simp] theorem modDo_can (s : State) (n : Fin 8) (f : Do → Do) : (s.modDo n f).can = s.can := rfl
@[simp] theorem modDo_nand (s : State) (n : Fin 8) (f : Do → Do) : (s.modDo n f).nand = s.nand := rfl
@[simp] theorem modDo_linen (s : State) (n : Fin 8) (f : Do → Do) : (s.modDo n f).linen = s.linen := rfl
@[simp] theorem modDo_bkup (s : State) (n : Fin 8) (f : Do → Do) : (s.modDo n f).bkup = s.bkup := rfl
@[simp] theorem modDo_perf (s : State) (n : Fin 8) (f : Do → Do) : (s.modDo n f).perf = s.perf := rfl

/-! modVib. -/

@[simp] theorem modVib_pending (s : State) (n : Fin 16) (f : VibCh → VibCh) : (s.modVib n f).pending = s.pending := rfl
@[simp] theorem modVib_clk (s : State) (n : Fin 16) (f : VibCh → VibCh) : (s.modVib n f).clk = s.clk := rfl
@[simp] theorem modVib_sys (s : State) (n : Fin 16) (f : VibCh → VibCh) : (s.modVib n f).sys = s.sys := rfl
@[simp] theorem modVib_pins (s : State) (n : Fin 16) (f : VibCh → VibCh) : (s.modVib n f).pins = s.pins := rfl
@[simp] theorem modVib_cfg (s : State) (n : Fin 16) (f : VibCh → VibCh) : (s.modVib n f).cfg = s.cfg := rfl
@[simp] theorem modVib_nor (s : State) (n : Fin 16) (f : VibCh → VibCh) : (s.modVib n f).nor = s.nor := rfl
@[simp] theorem modVib_quads (s : State) (n : Fin 16) (f : VibCh → VibCh) : (s.modVib n f).quads = s.quads := rfl
@[simp] theorem modVib_engines (s : State) (n : Fin 16) (f : VibCh → VibCh) : (s.modVib n f).engines = s.engines := rfl
@[simp] theorem modVib_fabric (s : State) (n : Fin 16) (f : VibCh → VibCh) : (s.modVib n f).fabric = s.fabric := rfl
@[simp] theorem modVib_gauze (s : State) (n : Fin 16) (f : VibCh → VibCh) : (s.modVib n f).gauze = s.gauze := rfl
@[simp] theorem modVib_power (s : State) (n : Fin 16) (f : VibCh → VibCh) : (s.modVib n f).power = s.power := rfl
@[simp] theorem modVib_dram (s : State) (n : Fin 16) (f : VibCh → VibCh) : (s.modVib n f).dram = s.dram := rfl
@[simp] theorem modVib_field (s : State) (n : Fin 16) (f : VibCh → VibCh) : (s.modVib n f).field = s.field := rfl
@[simp] theorem modVib_uai (s : State) (n : Fin 16) (f : VibCh → VibCh) : (s.modVib n f).uai = s.uai := rfl
@[simp] theorem modVib_hart (s : State) (n : Fin 16) (f : VibCh → VibCh) : (s.modVib n f).hart = s.hart := rfl
@[simp] theorem modVib_modems (s : State) (n : Fin 16) (f : VibCh → VibCh) : (s.modVib n f).modems = s.modems := rfl
@[simp] theorem modVib_spare (s : State) (n : Fin 16) (f : VibCh → VibCh) : (s.modVib n f).spare = s.spare := rfl
@[simp] theorem modVib_ao (s : State) (n : Fin 16) (f : VibCh → VibCh) : (s.modVib n f).ao = s.ao := rfl
@[simp] theorem modVib_disc (s : State) (n : Fin 16) (f : VibCh → VibCh) : (s.modVib n f).disc = s.disc := rfl
@[simp] theorem modVib_points (s : State) (n : Fin 16) (f : VibCh → VibCh) : (s.modVib n f).points = s.points := rfl
@[simp] theorem modVib_alarms (s : State) (n : Fin 16) (f : VibCh → VibCh) : (s.modVib n f).alarms = s.alarms := rfl
@[simp] theorem modVib_call (s : State) (n : Fin 16) (f : VibCh → VibCh) : (s.modVib n f).call = s.call := rfl
@[simp] theorem modVib_panels (s : State) (n : Fin 16) (f : VibCh → VibCh) : (s.modVib n f).panels = s.panels := rfl
@[simp] theorem modVib_canvas (s : State) (n : Fin 16) (f : VibCh → VibCh) : (s.modVib n f).canvas = s.canvas := rfl
@[simp] theorem modVib_ring (s : State) (n : Fin 16) (f : VibCh → VibCh) : (s.modVib n f).ring = s.ring := rfl
@[simp] theorem modVib_can (s : State) (n : Fin 16) (f : VibCh → VibCh) : (s.modVib n f).can = s.can := rfl
@[simp] theorem modVib_nand (s : State) (n : Fin 16) (f : VibCh → VibCh) : (s.modVib n f).nand = s.nand := rfl
@[simp] theorem modVib_linen (s : State) (n : Fin 16) (f : VibCh → VibCh) : (s.modVib n f).linen = s.linen := rfl
@[simp] theorem modVib_bkup (s : State) (n : Fin 16) (f : VibCh → VibCh) : (s.modVib n f).bkup = s.bkup := rfl
@[simp] theorem modVib_perf (s : State) (n : Fin 16) (f : VibCh → VibCh) : (s.modVib n f).perf = s.perf := rfl

/-! modPoint. -/

@[simp] theorem modPoint_pending (s : State) (p : Nat) (f : LocalPt → LocalPt) : (s.modPoint p f).pending = s.pending := rfl
@[simp] theorem modPoint_clk (s : State) (p : Nat) (f : LocalPt → LocalPt) : (s.modPoint p f).clk = s.clk := rfl
@[simp] theorem modPoint_sys (s : State) (p : Nat) (f : LocalPt → LocalPt) : (s.modPoint p f).sys = s.sys := rfl
@[simp] theorem modPoint_pins (s : State) (p : Nat) (f : LocalPt → LocalPt) : (s.modPoint p f).pins = s.pins := rfl
@[simp] theorem modPoint_cfg (s : State) (p : Nat) (f : LocalPt → LocalPt) : (s.modPoint p f).cfg = s.cfg := rfl
@[simp] theorem modPoint_nor (s : State) (p : Nat) (f : LocalPt → LocalPt) : (s.modPoint p f).nor = s.nor := rfl
@[simp] theorem modPoint_quads (s : State) (p : Nat) (f : LocalPt → LocalPt) : (s.modPoint p f).quads = s.quads := rfl
@[simp] theorem modPoint_engines (s : State) (p : Nat) (f : LocalPt → LocalPt) : (s.modPoint p f).engines = s.engines := rfl
@[simp] theorem modPoint_fabric (s : State) (p : Nat) (f : LocalPt → LocalPt) : (s.modPoint p f).fabric = s.fabric := rfl
@[simp] theorem modPoint_gauze (s : State) (p : Nat) (f : LocalPt → LocalPt) : (s.modPoint p f).gauze = s.gauze := rfl
@[simp] theorem modPoint_power (s : State) (p : Nat) (f : LocalPt → LocalPt) : (s.modPoint p f).power = s.power := rfl
@[simp] theorem modPoint_dram (s : State) (p : Nat) (f : LocalPt → LocalPt) : (s.modPoint p f).dram = s.dram := rfl
@[simp] theorem modPoint_field (s : State) (p : Nat) (f : LocalPt → LocalPt) : (s.modPoint p f).field = s.field := rfl
@[simp] theorem modPoint_uai (s : State) (p : Nat) (f : LocalPt → LocalPt) : (s.modPoint p f).uai = s.uai := rfl
@[simp] theorem modPoint_hart (s : State) (p : Nat) (f : LocalPt → LocalPt) : (s.modPoint p f).hart = s.hart := rfl
@[simp] theorem modPoint_modems (s : State) (p : Nat) (f : LocalPt → LocalPt) : (s.modPoint p f).modems = s.modems := rfl
@[simp] theorem modPoint_spare (s : State) (p : Nat) (f : LocalPt → LocalPt) : (s.modPoint p f).spare = s.spare := rfl
@[simp] theorem modPoint_vib (s : State) (p : Nat) (f : LocalPt → LocalPt) : (s.modPoint p f).vib = s.vib := rfl
@[simp] theorem modPoint_ao (s : State) (p : Nat) (f : LocalPt → LocalPt) : (s.modPoint p f).ao = s.ao := rfl
@[simp] theorem modPoint_disc (s : State) (p : Nat) (f : LocalPt → LocalPt) : (s.modPoint p f).disc = s.disc := rfl
@[simp] theorem modPoint_alarms (s : State) (p : Nat) (f : LocalPt → LocalPt) : (s.modPoint p f).alarms = s.alarms := rfl
@[simp] theorem modPoint_call (s : State) (p : Nat) (f : LocalPt → LocalPt) : (s.modPoint p f).call = s.call := rfl
@[simp] theorem modPoint_panels (s : State) (p : Nat) (f : LocalPt → LocalPt) : (s.modPoint p f).panels = s.panels := rfl
@[simp] theorem modPoint_canvas (s : State) (p : Nat) (f : LocalPt → LocalPt) : (s.modPoint p f).canvas = s.canvas := rfl
@[simp] theorem modPoint_ring (s : State) (p : Nat) (f : LocalPt → LocalPt) : (s.modPoint p f).ring = s.ring := rfl
@[simp] theorem modPoint_can (s : State) (p : Nat) (f : LocalPt → LocalPt) : (s.modPoint p f).can = s.can := rfl
@[simp] theorem modPoint_nand (s : State) (p : Nat) (f : LocalPt → LocalPt) : (s.modPoint p f).nand = s.nand := rfl
@[simp] theorem modPoint_linen (s : State) (p : Nat) (f : LocalPt → LocalPt) : (s.modPoint p f).linen = s.linen := rfl
@[simp] theorem modPoint_bkup (s : State) (p : Nat) (f : LocalPt → LocalPt) : (s.modPoint p f).bkup = s.bkup := rfl
@[simp] theorem modPoint_perf (s : State) (p : Nat) (f : LocalPt → LocalPt) : (s.modPoint p f).perf = s.perf := rfl

/-! modRingPort. -/

@[simp] theorem modRingPort_pending (s : State) (p : Fin 3) (f : RingPort → RingPort) : (s.modRingPort p f).pending = s.pending := rfl
@[simp] theorem modRingPort_clk (s : State) (p : Fin 3) (f : RingPort → RingPort) : (s.modRingPort p f).clk = s.clk := rfl
@[simp] theorem modRingPort_sys (s : State) (p : Fin 3) (f : RingPort → RingPort) : (s.modRingPort p f).sys = s.sys := rfl
@[simp] theorem modRingPort_pins (s : State) (p : Fin 3) (f : RingPort → RingPort) : (s.modRingPort p f).pins = s.pins := rfl
@[simp] theorem modRingPort_cfg (s : State) (p : Fin 3) (f : RingPort → RingPort) : (s.modRingPort p f).cfg = s.cfg := rfl
@[simp] theorem modRingPort_nor (s : State) (p : Fin 3) (f : RingPort → RingPort) : (s.modRingPort p f).nor = s.nor := rfl
@[simp] theorem modRingPort_quads (s : State) (p : Fin 3) (f : RingPort → RingPort) : (s.modRingPort p f).quads = s.quads := rfl
@[simp] theorem modRingPort_engines (s : State) (p : Fin 3) (f : RingPort → RingPort) : (s.modRingPort p f).engines = s.engines := rfl
@[simp] theorem modRingPort_fabric (s : State) (p : Fin 3) (f : RingPort → RingPort) : (s.modRingPort p f).fabric = s.fabric := rfl
@[simp] theorem modRingPort_gauze (s : State) (p : Fin 3) (f : RingPort → RingPort) : (s.modRingPort p f).gauze = s.gauze := rfl
@[simp] theorem modRingPort_power (s : State) (p : Fin 3) (f : RingPort → RingPort) : (s.modRingPort p f).power = s.power := rfl
@[simp] theorem modRingPort_dram (s : State) (p : Fin 3) (f : RingPort → RingPort) : (s.modRingPort p f).dram = s.dram := rfl
@[simp] theorem modRingPort_field (s : State) (p : Fin 3) (f : RingPort → RingPort) : (s.modRingPort p f).field = s.field := rfl
@[simp] theorem modRingPort_uai (s : State) (p : Fin 3) (f : RingPort → RingPort) : (s.modRingPort p f).uai = s.uai := rfl
@[simp] theorem modRingPort_hart (s : State) (p : Fin 3) (f : RingPort → RingPort) : (s.modRingPort p f).hart = s.hart := rfl
@[simp] theorem modRingPort_modems (s : State) (p : Fin 3) (f : RingPort → RingPort) : (s.modRingPort p f).modems = s.modems := rfl
@[simp] theorem modRingPort_spare (s : State) (p : Fin 3) (f : RingPort → RingPort) : (s.modRingPort p f).spare = s.spare := rfl
@[simp] theorem modRingPort_vib (s : State) (p : Fin 3) (f : RingPort → RingPort) : (s.modRingPort p f).vib = s.vib := rfl
@[simp] theorem modRingPort_ao (s : State) (p : Fin 3) (f : RingPort → RingPort) : (s.modRingPort p f).ao = s.ao := rfl
@[simp] theorem modRingPort_disc (s : State) (p : Fin 3) (f : RingPort → RingPort) : (s.modRingPort p f).disc = s.disc := rfl
@[simp] theorem modRingPort_points (s : State) (p : Fin 3) (f : RingPort → RingPort) : (s.modRingPort p f).points = s.points := rfl
@[simp] theorem modRingPort_alarms (s : State) (p : Fin 3) (f : RingPort → RingPort) : (s.modRingPort p f).alarms = s.alarms := rfl
@[simp] theorem modRingPort_call (s : State) (p : Fin 3) (f : RingPort → RingPort) : (s.modRingPort p f).call = s.call := rfl
@[simp] theorem modRingPort_panels (s : State) (p : Fin 3) (f : RingPort → RingPort) : (s.modRingPort p f).panels = s.panels := rfl
@[simp] theorem modRingPort_canvas (s : State) (p : Fin 3) (f : RingPort → RingPort) : (s.modRingPort p f).canvas = s.canvas := rfl
@[simp] theorem modRingPort_can (s : State) (p : Fin 3) (f : RingPort → RingPort) : (s.modRingPort p f).can = s.can := rfl
@[simp] theorem modRingPort_nand (s : State) (p : Fin 3) (f : RingPort → RingPort) : (s.modRingPort p f).nand = s.nand := rfl
@[simp] theorem modRingPort_linen (s : State) (p : Fin 3) (f : RingPort → RingPort) : (s.modRingPort p f).linen = s.linen := rfl
@[simp] theorem modRingPort_bkup (s : State) (p : Fin 3) (f : RingPort → RingPort) : (s.modRingPort p f).bkup = s.bkup := rfl
@[simp] theorem modRingPort_perf (s : State) (p : Fin 3) (f : RingPort → RingPort) : (s.modRingPort p f).perf = s.perf := rfl

/-! modClass. -/

@[simp] theorem modClass_pending (s : State) (c : Fin 4) (f : ClassSt → ClassSt) : (s.modClass c f).pending = s.pending := rfl
@[simp] theorem modClass_clk (s : State) (c : Fin 4) (f : ClassSt → ClassSt) : (s.modClass c f).clk = s.clk := rfl
@[simp] theorem modClass_sys (s : State) (c : Fin 4) (f : ClassSt → ClassSt) : (s.modClass c f).sys = s.sys := rfl
@[simp] theorem modClass_pins (s : State) (c : Fin 4) (f : ClassSt → ClassSt) : (s.modClass c f).pins = s.pins := rfl
@[simp] theorem modClass_cfg (s : State) (c : Fin 4) (f : ClassSt → ClassSt) : (s.modClass c f).cfg = s.cfg := rfl
@[simp] theorem modClass_nor (s : State) (c : Fin 4) (f : ClassSt → ClassSt) : (s.modClass c f).nor = s.nor := rfl
@[simp] theorem modClass_quads (s : State) (c : Fin 4) (f : ClassSt → ClassSt) : (s.modClass c f).quads = s.quads := rfl
@[simp] theorem modClass_engines (s : State) (c : Fin 4) (f : ClassSt → ClassSt) : (s.modClass c f).engines = s.engines := rfl
@[simp] theorem modClass_fabric (s : State) (c : Fin 4) (f : ClassSt → ClassSt) : (s.modClass c f).fabric = s.fabric := rfl
@[simp] theorem modClass_gauze (s : State) (c : Fin 4) (f : ClassSt → ClassSt) : (s.modClass c f).gauze = s.gauze := rfl
@[simp] theorem modClass_power (s : State) (c : Fin 4) (f : ClassSt → ClassSt) : (s.modClass c f).power = s.power := rfl
@[simp] theorem modClass_dram (s : State) (c : Fin 4) (f : ClassSt → ClassSt) : (s.modClass c f).dram = s.dram := rfl
@[simp] theorem modClass_field (s : State) (c : Fin 4) (f : ClassSt → ClassSt) : (s.modClass c f).field = s.field := rfl
@[simp] theorem modClass_uai (s : State) (c : Fin 4) (f : ClassSt → ClassSt) : (s.modClass c f).uai = s.uai := rfl
@[simp] theorem modClass_hart (s : State) (c : Fin 4) (f : ClassSt → ClassSt) : (s.modClass c f).hart = s.hart := rfl
@[simp] theorem modClass_modems (s : State) (c : Fin 4) (f : ClassSt → ClassSt) : (s.modClass c f).modems = s.modems := rfl
@[simp] theorem modClass_spare (s : State) (c : Fin 4) (f : ClassSt → ClassSt) : (s.modClass c f).spare = s.spare := rfl
@[simp] theorem modClass_vib (s : State) (c : Fin 4) (f : ClassSt → ClassSt) : (s.modClass c f).vib = s.vib := rfl
@[simp] theorem modClass_ao (s : State) (c : Fin 4) (f : ClassSt → ClassSt) : (s.modClass c f).ao = s.ao := rfl
@[simp] theorem modClass_disc (s : State) (c : Fin 4) (f : ClassSt → ClassSt) : (s.modClass c f).disc = s.disc := rfl
@[simp] theorem modClass_points (s : State) (c : Fin 4) (f : ClassSt → ClassSt) : (s.modClass c f).points = s.points := rfl
@[simp] theorem modClass_alarms (s : State) (c : Fin 4) (f : ClassSt → ClassSt) : (s.modClass c f).alarms = s.alarms := rfl
@[simp] theorem modClass_call (s : State) (c : Fin 4) (f : ClassSt → ClassSt) : (s.modClass c f).call = s.call := rfl
@[simp] theorem modClass_panels (s : State) (c : Fin 4) (f : ClassSt → ClassSt) : (s.modClass c f).panels = s.panels := rfl
@[simp] theorem modClass_canvas (s : State) (c : Fin 4) (f : ClassSt → ClassSt) : (s.modClass c f).canvas = s.canvas := rfl
@[simp] theorem modClass_can (s : State) (c : Fin 4) (f : ClassSt → ClassSt) : (s.modClass c f).can = s.can := rfl
@[simp] theorem modClass_nand (s : State) (c : Fin 4) (f : ClassSt → ClassSt) : (s.modClass c f).nand = s.nand := rfl
@[simp] theorem modClass_linen (s : State) (c : Fin 4) (f : ClassSt → ClassSt) : (s.modClass c f).linen = s.linen := rfl
@[simp] theorem modClass_bkup (s : State) (c : Fin 4) (f : ClassSt → ClassSt) : (s.modClass c f).bkup = s.bkup := rfl
@[simp] theorem modClass_perf (s : State) (c : Fin 4) (f : ClassSt → ClassSt) : (s.modClass c f).perf = s.perf := rfl

/-! modCan. -/

@[simp] theorem modCan_pending (s : State) (c : Fin 2) (f : CanCtl → CanCtl) : (s.modCan c f).pending = s.pending := rfl
@[simp] theorem modCan_clk (s : State) (c : Fin 2) (f : CanCtl → CanCtl) : (s.modCan c f).clk = s.clk := rfl
@[simp] theorem modCan_sys (s : State) (c : Fin 2) (f : CanCtl → CanCtl) : (s.modCan c f).sys = s.sys := rfl
@[simp] theorem modCan_pins (s : State) (c : Fin 2) (f : CanCtl → CanCtl) : (s.modCan c f).pins = s.pins := rfl
@[simp] theorem modCan_cfg (s : State) (c : Fin 2) (f : CanCtl → CanCtl) : (s.modCan c f).cfg = s.cfg := rfl
@[simp] theorem modCan_nor (s : State) (c : Fin 2) (f : CanCtl → CanCtl) : (s.modCan c f).nor = s.nor := rfl
@[simp] theorem modCan_quads (s : State) (c : Fin 2) (f : CanCtl → CanCtl) : (s.modCan c f).quads = s.quads := rfl
@[simp] theorem modCan_engines (s : State) (c : Fin 2) (f : CanCtl → CanCtl) : (s.modCan c f).engines = s.engines := rfl
@[simp] theorem modCan_fabric (s : State) (c : Fin 2) (f : CanCtl → CanCtl) : (s.modCan c f).fabric = s.fabric := rfl
@[simp] theorem modCan_gauze (s : State) (c : Fin 2) (f : CanCtl → CanCtl) : (s.modCan c f).gauze = s.gauze := rfl
@[simp] theorem modCan_power (s : State) (c : Fin 2) (f : CanCtl → CanCtl) : (s.modCan c f).power = s.power := rfl
@[simp] theorem modCan_dram (s : State) (c : Fin 2) (f : CanCtl → CanCtl) : (s.modCan c f).dram = s.dram := rfl
@[simp] theorem modCan_field (s : State) (c : Fin 2) (f : CanCtl → CanCtl) : (s.modCan c f).field = s.field := rfl
@[simp] theorem modCan_uai (s : State) (c : Fin 2) (f : CanCtl → CanCtl) : (s.modCan c f).uai = s.uai := rfl
@[simp] theorem modCan_hart (s : State) (c : Fin 2) (f : CanCtl → CanCtl) : (s.modCan c f).hart = s.hart := rfl
@[simp] theorem modCan_modems (s : State) (c : Fin 2) (f : CanCtl → CanCtl) : (s.modCan c f).modems = s.modems := rfl
@[simp] theorem modCan_spare (s : State) (c : Fin 2) (f : CanCtl → CanCtl) : (s.modCan c f).spare = s.spare := rfl
@[simp] theorem modCan_vib (s : State) (c : Fin 2) (f : CanCtl → CanCtl) : (s.modCan c f).vib = s.vib := rfl
@[simp] theorem modCan_ao (s : State) (c : Fin 2) (f : CanCtl → CanCtl) : (s.modCan c f).ao = s.ao := rfl
@[simp] theorem modCan_disc (s : State) (c : Fin 2) (f : CanCtl → CanCtl) : (s.modCan c f).disc = s.disc := rfl
@[simp] theorem modCan_points (s : State) (c : Fin 2) (f : CanCtl → CanCtl) : (s.modCan c f).points = s.points := rfl
@[simp] theorem modCan_alarms (s : State) (c : Fin 2) (f : CanCtl → CanCtl) : (s.modCan c f).alarms = s.alarms := rfl
@[simp] theorem modCan_call (s : State) (c : Fin 2) (f : CanCtl → CanCtl) : (s.modCan c f).call = s.call := rfl
@[simp] theorem modCan_panels (s : State) (c : Fin 2) (f : CanCtl → CanCtl) : (s.modCan c f).panels = s.panels := rfl
@[simp] theorem modCan_canvas (s : State) (c : Fin 2) (f : CanCtl → CanCtl) : (s.modCan c f).canvas = s.canvas := rfl
@[simp] theorem modCan_ring (s : State) (c : Fin 2) (f : CanCtl → CanCtl) : (s.modCan c f).ring = s.ring := rfl
@[simp] theorem modCan_nand (s : State) (c : Fin 2) (f : CanCtl → CanCtl) : (s.modCan c f).nand = s.nand := rfl
@[simp] theorem modCan_linen (s : State) (c : Fin 2) (f : CanCtl → CanCtl) : (s.modCan c f).linen = s.linen := rfl
@[simp] theorem modCan_bkup (s : State) (c : Fin 2) (f : CanCtl → CanCtl) : (s.modCan c f).bkup = s.bkup := rfl
@[simp] theorem modCan_perf (s : State) (c : Fin 2) (f : CanCtl → CanCtl) : (s.modCan c f).perf = s.perf := rfl

/-! modCursor. -/

@[simp] theorem modCursor_pending (s : State) (c : Fin 8) (f : Cursor → Cursor) : (s.modCursor c f).pending = s.pending := rfl
@[simp] theorem modCursor_clk (s : State) (c : Fin 8) (f : Cursor → Cursor) : (s.modCursor c f).clk = s.clk := rfl
@[simp] theorem modCursor_sys (s : State) (c : Fin 8) (f : Cursor → Cursor) : (s.modCursor c f).sys = s.sys := rfl
@[simp] theorem modCursor_pins (s : State) (c : Fin 8) (f : Cursor → Cursor) : (s.modCursor c f).pins = s.pins := rfl
@[simp] theorem modCursor_cfg (s : State) (c : Fin 8) (f : Cursor → Cursor) : (s.modCursor c f).cfg = s.cfg := rfl
@[simp] theorem modCursor_nor (s : State) (c : Fin 8) (f : Cursor → Cursor) : (s.modCursor c f).nor = s.nor := rfl
@[simp] theorem modCursor_quads (s : State) (c : Fin 8) (f : Cursor → Cursor) : (s.modCursor c f).quads = s.quads := rfl
@[simp] theorem modCursor_engines (s : State) (c : Fin 8) (f : Cursor → Cursor) : (s.modCursor c f).engines = s.engines := rfl
@[simp] theorem modCursor_fabric (s : State) (c : Fin 8) (f : Cursor → Cursor) : (s.modCursor c f).fabric = s.fabric := rfl
@[simp] theorem modCursor_gauze (s : State) (c : Fin 8) (f : Cursor → Cursor) : (s.modCursor c f).gauze = s.gauze := rfl
@[simp] theorem modCursor_power (s : State) (c : Fin 8) (f : Cursor → Cursor) : (s.modCursor c f).power = s.power := rfl
@[simp] theorem modCursor_dram (s : State) (c : Fin 8) (f : Cursor → Cursor) : (s.modCursor c f).dram = s.dram := rfl
@[simp] theorem modCursor_field (s : State) (c : Fin 8) (f : Cursor → Cursor) : (s.modCursor c f).field = s.field := rfl
@[simp] theorem modCursor_uai (s : State) (c : Fin 8) (f : Cursor → Cursor) : (s.modCursor c f).uai = s.uai := rfl
@[simp] theorem modCursor_hart (s : State) (c : Fin 8) (f : Cursor → Cursor) : (s.modCursor c f).hart = s.hart := rfl
@[simp] theorem modCursor_modems (s : State) (c : Fin 8) (f : Cursor → Cursor) : (s.modCursor c f).modems = s.modems := rfl
@[simp] theorem modCursor_spare (s : State) (c : Fin 8) (f : Cursor → Cursor) : (s.modCursor c f).spare = s.spare := rfl
@[simp] theorem modCursor_vib (s : State) (c : Fin 8) (f : Cursor → Cursor) : (s.modCursor c f).vib = s.vib := rfl
@[simp] theorem modCursor_ao (s : State) (c : Fin 8) (f : Cursor → Cursor) : (s.modCursor c f).ao = s.ao := rfl
@[simp] theorem modCursor_disc (s : State) (c : Fin 8) (f : Cursor → Cursor) : (s.modCursor c f).disc = s.disc := rfl
@[simp] theorem modCursor_points (s : State) (c : Fin 8) (f : Cursor → Cursor) : (s.modCursor c f).points = s.points := rfl
@[simp] theorem modCursor_alarms (s : State) (c : Fin 8) (f : Cursor → Cursor) : (s.modCursor c f).alarms = s.alarms := rfl
@[simp] theorem modCursor_call (s : State) (c : Fin 8) (f : Cursor → Cursor) : (s.modCursor c f).call = s.call := rfl
@[simp] theorem modCursor_panels (s : State) (c : Fin 8) (f : Cursor → Cursor) : (s.modCursor c f).panels = s.panels := rfl
@[simp] theorem modCursor_canvas (s : State) (c : Fin 8) (f : Cursor → Cursor) : (s.modCursor c f).canvas = s.canvas := rfl
@[simp] theorem modCursor_ring (s : State) (c : Fin 8) (f : Cursor → Cursor) : (s.modCursor c f).ring = s.ring := rfl
@[simp] theorem modCursor_can (s : State) (c : Fin 8) (f : Cursor → Cursor) : (s.modCursor c f).can = s.can := rfl
@[simp] theorem modCursor_nand (s : State) (c : Fin 8) (f : Cursor → Cursor) : (s.modCursor c f).nand = s.nand := rfl
@[simp] theorem modCursor_bkup (s : State) (c : Fin 8) (f : Cursor → Cursor) : (s.modCursor c f).bkup = s.bkup := rfl
@[simp] theorem modCursor_perf (s : State) (c : Fin 8) (f : Cursor → Cursor) : (s.modCursor c f).perf = s.perf := rfl

/-! modSys. -/

@[simp] theorem modSys_pending (s : State) (k : Fin 64) (f : SysCond → SysCond) : (s.modSys k f).pending = s.pending := rfl
@[simp] theorem modSys_clk (s : State) (k : Fin 64) (f : SysCond → SysCond) : (s.modSys k f).clk = s.clk := rfl
@[simp] theorem modSys_sys (s : State) (k : Fin 64) (f : SysCond → SysCond) : (s.modSys k f).sys = s.sys := rfl
@[simp] theorem modSys_pins (s : State) (k : Fin 64) (f : SysCond → SysCond) : (s.modSys k f).pins = s.pins := rfl
@[simp] theorem modSys_cfg (s : State) (k : Fin 64) (f : SysCond → SysCond) : (s.modSys k f).cfg = s.cfg := rfl
@[simp] theorem modSys_nor (s : State) (k : Fin 64) (f : SysCond → SysCond) : (s.modSys k f).nor = s.nor := rfl
@[simp] theorem modSys_quads (s : State) (k : Fin 64) (f : SysCond → SysCond) : (s.modSys k f).quads = s.quads := rfl
@[simp] theorem modSys_engines (s : State) (k : Fin 64) (f : SysCond → SysCond) : (s.modSys k f).engines = s.engines := rfl
@[simp] theorem modSys_fabric (s : State) (k : Fin 64) (f : SysCond → SysCond) : (s.modSys k f).fabric = s.fabric := rfl
@[simp] theorem modSys_gauze (s : State) (k : Fin 64) (f : SysCond → SysCond) : (s.modSys k f).gauze = s.gauze := rfl
@[simp] theorem modSys_power (s : State) (k : Fin 64) (f : SysCond → SysCond) : (s.modSys k f).power = s.power := rfl
@[simp] theorem modSys_dram (s : State) (k : Fin 64) (f : SysCond → SysCond) : (s.modSys k f).dram = s.dram := rfl
@[simp] theorem modSys_field (s : State) (k : Fin 64) (f : SysCond → SysCond) : (s.modSys k f).field = s.field := rfl
@[simp] theorem modSys_uai (s : State) (k : Fin 64) (f : SysCond → SysCond) : (s.modSys k f).uai = s.uai := rfl
@[simp] theorem modSys_hart (s : State) (k : Fin 64) (f : SysCond → SysCond) : (s.modSys k f).hart = s.hart := rfl
@[simp] theorem modSys_modems (s : State) (k : Fin 64) (f : SysCond → SysCond) : (s.modSys k f).modems = s.modems := rfl
@[simp] theorem modSys_spare (s : State) (k : Fin 64) (f : SysCond → SysCond) : (s.modSys k f).spare = s.spare := rfl
@[simp] theorem modSys_vib (s : State) (k : Fin 64) (f : SysCond → SysCond) : (s.modSys k f).vib = s.vib := rfl
@[simp] theorem modSys_ao (s : State) (k : Fin 64) (f : SysCond → SysCond) : (s.modSys k f).ao = s.ao := rfl
@[simp] theorem modSys_disc (s : State) (k : Fin 64) (f : SysCond → SysCond) : (s.modSys k f).disc = s.disc := rfl
@[simp] theorem modSys_points (s : State) (k : Fin 64) (f : SysCond → SysCond) : (s.modSys k f).points = s.points := rfl
@[simp] theorem modSys_call (s : State) (k : Fin 64) (f : SysCond → SysCond) : (s.modSys k f).call = s.call := rfl
@[simp] theorem modSys_panels (s : State) (k : Fin 64) (f : SysCond → SysCond) : (s.modSys k f).panels = s.panels := rfl
@[simp] theorem modSys_canvas (s : State) (k : Fin 64) (f : SysCond → SysCond) : (s.modSys k f).canvas = s.canvas := rfl
@[simp] theorem modSys_ring (s : State) (k : Fin 64) (f : SysCond → SysCond) : (s.modSys k f).ring = s.ring := rfl
@[simp] theorem modSys_can (s : State) (k : Fin 64) (f : SysCond → SysCond) : (s.modSys k f).can = s.can := rfl
@[simp] theorem modSys_nand (s : State) (k : Fin 64) (f : SysCond → SysCond) : (s.modSys k f).nand = s.nand := rfl
@[simp] theorem modSys_linen (s : State) (k : Fin 64) (f : SysCond → SysCond) : (s.modSys k f).linen = s.linen := rfl
@[simp] theorem modSys_bkup (s : State) (k : Fin 64) (f : SysCond → SysCond) : (s.modSys k f).bkup = s.bkup := rfl
@[simp] theorem modSys_perf (s : State) (k : Fin 64) (f : SysCond → SysCond) : (s.modSys k f).perf = s.perf := rfl

end Sys2Proof.Machine
end

