-- ==== Sys2Proof/Laws/Shared.lean ====
section
/-! SUPPORT. What the shared operations leave as it was: counting, staging, queueing a message, raising and clearing a condition,
announcing. -/

namespace Sys2Proof.Machine
open Sys2Proof

/-- What every step of a fold keeps, the fold keeps. -/
theorem foldl_keeps {α β : Type} (p : State → β) (g : State → α → State) (h : ∀ s a, p (g s a) = p s) :
    ∀ (l : List α) (s : State), p (l.foldl g s) = p s
  | [], _ => rfl
  | a :: l, s => by rw [List.foldl_cons, foldl_keeps p g h l (g s a), h]

@[simp] theorem foldl_pending {α : Type} (g : State → α → State) (l : List α) (s : State)
    (h : ∀ s a, (g s a).pending = s.pending) : (l.foldl g s).pending = s.pending := foldl_keeps (·.pending) g h l s

@[simp] theorem foldl_clk {α : Type} (g : State → α → State) (l : List α) (s : State)
    (h : ∀ s a, (g s a).clk = s.clk) : (l.foldl g s).clk = s.clk := foldl_keeps (·.clk) g h l s

@[simp] theorem foldl_sys {α : Type} (g : State → α → State) (l : List α) (s : State)
    (h : ∀ s a, (g s a).sys = s.sys) : (l.foldl g s).sys = s.sys := foldl_keeps (·.sys) g h l s

@[simp] theorem foldl_pins {α : Type} (g : State → α → State) (l : List α) (s : State)
    (h : ∀ s a, (g s a).pins = s.pins) : (l.foldl g s).pins = s.pins := foldl_keeps (·.pins) g h l s

@[simp] theorem foldl_cfg {α : Type} (g : State → α → State) (l : List α) (s : State)
    (h : ∀ s a, (g s a).cfg = s.cfg) : (l.foldl g s).cfg = s.cfg := foldl_keeps (·.cfg) g h l s

@[simp] theorem foldl_nor {α : Type} (g : State → α → State) (l : List α) (s : State)
    (h : ∀ s a, (g s a).nor = s.nor) : (l.foldl g s).nor = s.nor := foldl_keeps (·.nor) g h l s

@[simp] theorem foldl_quads {α : Type} (g : State → α → State) (l : List α) (s : State)
    (h : ∀ s a, (g s a).quads = s.quads) : (l.foldl g s).quads = s.quads := foldl_keeps (·.quads) g h l s

@[simp] theorem foldl_engines {α : Type} (g : State → α → State) (l : List α) (s : State)
    (h : ∀ s a, (g s a).engines = s.engines) : (l.foldl g s).engines = s.engines := foldl_keeps (·.engines) g h l s

@[simp] theorem foldl_fabric {α : Type} (g : State → α → State) (l : List α) (s : State)
    (h : ∀ s a, (g s a).fabric = s.fabric) : (l.foldl g s).fabric = s.fabric := foldl_keeps (·.fabric) g h l s

@[simp] theorem foldl_gauze {α : Type} (g : State → α → State) (l : List α) (s : State)
    (h : ∀ s a, (g s a).gauze = s.gauze) : (l.foldl g s).gauze = s.gauze := foldl_keeps (·.gauze) g h l s

@[simp] theorem foldl_power {α : Type} (g : State → α → State) (l : List α) (s : State)
    (h : ∀ s a, (g s a).power = s.power) : (l.foldl g s).power = s.power := foldl_keeps (·.power) g h l s

@[simp] theorem foldl_dram {α : Type} (g : State → α → State) (l : List α) (s : State)
    (h : ∀ s a, (g s a).dram = s.dram) : (l.foldl g s).dram = s.dram := foldl_keeps (·.dram) g h l s

@[simp] theorem foldl_field {α : Type} (g : State → α → State) (l : List α) (s : State)
    (h : ∀ s a, (g s a).field = s.field) : (l.foldl g s).field = s.field := foldl_keeps (·.field) g h l s

@[simp] theorem foldl_uai {α : Type} (g : State → α → State) (l : List α) (s : State)
    (h : ∀ s a, (g s a).uai = s.uai) : (l.foldl g s).uai = s.uai := foldl_keeps (·.uai) g h l s

@[simp] theorem foldl_hart {α : Type} (g : State → α → State) (l : List α) (s : State)
    (h : ∀ s a, (g s a).hart = s.hart) : (l.foldl g s).hart = s.hart := foldl_keeps (·.hart) g h l s

@[simp] theorem foldl_modems {α : Type} (g : State → α → State) (l : List α) (s : State)
    (h : ∀ s a, (g s a).modems = s.modems) : (l.foldl g s).modems = s.modems := foldl_keeps (·.modems) g h l s

@[simp] theorem foldl_spare {α : Type} (g : State → α → State) (l : List α) (s : State)
    (h : ∀ s a, (g s a).spare = s.spare) : (l.foldl g s).spare = s.spare := foldl_keeps (·.spare) g h l s

@[simp] theorem foldl_vib {α : Type} (g : State → α → State) (l : List α) (s : State)
    (h : ∀ s a, (g s a).vib = s.vib) : (l.foldl g s).vib = s.vib := foldl_keeps (·.vib) g h l s

@[simp] theorem foldl_ao {α : Type} (g : State → α → State) (l : List α) (s : State)
    (h : ∀ s a, (g s a).ao = s.ao) : (l.foldl g s).ao = s.ao := foldl_keeps (·.ao) g h l s

@[simp] theorem foldl_disc {α : Type} (g : State → α → State) (l : List α) (s : State)
    (h : ∀ s a, (g s a).disc = s.disc) : (l.foldl g s).disc = s.disc := foldl_keeps (·.disc) g h l s

@[simp] theorem foldl_points {α : Type} (g : State → α → State) (l : List α) (s : State)
    (h : ∀ s a, (g s a).points = s.points) : (l.foldl g s).points = s.points := foldl_keeps (·.points) g h l s

@[simp] theorem foldl_alarms {α : Type} (g : State → α → State) (l : List α) (s : State)
    (h : ∀ s a, (g s a).alarms = s.alarms) : (l.foldl g s).alarms = s.alarms := foldl_keeps (·.alarms) g h l s

@[simp] theorem foldl_call {α : Type} (g : State → α → State) (l : List α) (s : State)
    (h : ∀ s a, (g s a).call = s.call) : (l.foldl g s).call = s.call := foldl_keeps (·.call) g h l s

@[simp] theorem foldl_panels {α : Type} (g : State → α → State) (l : List α) (s : State)
    (h : ∀ s a, (g s a).panels = s.panels) : (l.foldl g s).panels = s.panels := foldl_keeps (·.panels) g h l s

@[simp] theorem foldl_canvas {α : Type} (g : State → α → State) (l : List α) (s : State)
    (h : ∀ s a, (g s a).canvas = s.canvas) : (l.foldl g s).canvas = s.canvas := foldl_keeps (·.canvas) g h l s

@[simp] theorem foldl_ring {α : Type} (g : State → α → State) (l : List α) (s : State)
    (h : ∀ s a, (g s a).ring = s.ring) : (l.foldl g s).ring = s.ring := foldl_keeps (·.ring) g h l s

@[simp] theorem foldl_can {α : Type} (g : State → α → State) (l : List α) (s : State)
    (h : ∀ s a, (g s a).can = s.can) : (l.foldl g s).can = s.can := foldl_keeps (·.can) g h l s

@[simp] theorem foldl_nand {α : Type} (g : State → α → State) (l : List α) (s : State)
    (h : ∀ s a, (g s a).nand = s.nand) : (l.foldl g s).nand = s.nand := foldl_keeps (·.nand) g h l s

@[simp] theorem foldl_linen {α : Type} (g : State → α → State) (l : List α) (s : State)
    (h : ∀ s a, (g s a).linen = s.linen) : (l.foldl g s).linen = s.linen := foldl_keeps (·.linen) g h l s

@[simp] theorem foldl_bkup {α : Type} (g : State → α → State) (l : List α) (s : State)
    (h : ∀ s a, (g s a).bkup = s.bkup) : (l.foldl g s).bkup = s.bkup := foldl_keeps (·.bkup) g h l s

@[simp] theorem foldl_perf {α : Type} (g : State → α → State) (l : List α) (s : State)
    (h : ∀ s a, (g s a).perf = s.perf) : (l.foldl g s).perf = s.perf := foldl_keeps (·.perf) g h l s

@[simp] theorem ite_pending (c : Prop) [Decidable c] (a b : State) : (if c then a else b).pending = if c then a.pending else b.pending := by
  split <;> rfl

@[simp] theorem ite_clk (c : Prop) [Decidable c] (a b : State) : (if c then a else b).clk = if c then a.clk else b.clk := by
  split <;> rfl

@[simp] theorem ite_sys (c : Prop) [Decidable c] (a b : State) : (if c then a else b).sys = if c then a.sys else b.sys := by
  split <;> rfl

@[simp] theorem ite_pins (c : Prop) [Decidable c] (a b : State) : (if c then a else b).pins = if c then a.pins else b.pins := by
  split <;> rfl

@[simp] theorem ite_cfg (c : Prop) [Decidable c] (a b : State) : (if c then a else b).cfg = if c then a.cfg else b.cfg := by
  split <;> rfl

@[simp] theorem ite_nor (c : Prop) [Decidable c] (a b : State) : (if c then a else b).nor = if c then a.nor else b.nor := by
  split <;> rfl

@[simp] theorem ite_quads (c : Prop) [Decidable c] (a b : State) : (if c then a else b).quads = if c then a.quads else b.quads := by
  split <;> rfl

@[simp] theorem ite_engines (c : Prop) [Decidable c] (a b : State) : (if c then a else b).engines = if c then a.engines else b.engines := by
  split <;> rfl

@[simp] theorem ite_fabric (c : Prop) [Decidable c] (a b : State) : (if c then a else b).fabric = if c then a.fabric else b.fabric := by
  split <;> rfl

@[simp] theorem ite_gauze (c : Prop) [Decidable c] (a b : State) : (if c then a else b).gauze = if c then a.gauze else b.gauze := by
  split <;> rfl

@[simp] theorem ite_power (c : Prop) [Decidable c] (a b : State) : (if c then a else b).power = if c then a.power else b.power := by
  split <;> rfl

@[simp] theorem ite_dram (c : Prop) [Decidable c] (a b : State) : (if c then a else b).dram = if c then a.dram else b.dram := by
  split <;> rfl

@[simp] theorem ite_field (c : Prop) [Decidable c] (a b : State) : (if c then a else b).field = if c then a.field else b.field := by
  split <;> rfl

@[simp] theorem ite_uai (c : Prop) [Decidable c] (a b : State) : (if c then a else b).uai = if c then a.uai else b.uai := by
  split <;> rfl

@[simp] theorem ite_hart (c : Prop) [Decidable c] (a b : State) : (if c then a else b).hart = if c then a.hart else b.hart := by
  split <;> rfl

@[simp] theorem ite_modems (c : Prop) [Decidable c] (a b : State) : (if c then a else b).modems = if c then a.modems else b.modems := by
  split <;> rfl

@[simp] theorem ite_spare (c : Prop) [Decidable c] (a b : State) : (if c then a else b).spare = if c then a.spare else b.spare := by
  split <;> rfl

@[simp] theorem ite_vib (c : Prop) [Decidable c] (a b : State) : (if c then a else b).vib = if c then a.vib else b.vib := by
  split <;> rfl

@[simp] theorem ite_ao (c : Prop) [Decidable c] (a b : State) : (if c then a else b).ao = if c then a.ao else b.ao := by
  split <;> rfl

@[simp] theorem ite_disc (c : Prop) [Decidable c] (a b : State) : (if c then a else b).disc = if c then a.disc else b.disc := by
  split <;> rfl

@[simp] theorem ite_points (c : Prop) [Decidable c] (a b : State) : (if c then a else b).points = if c then a.points else b.points := by
  split <;> rfl

@[simp] theorem ite_alarms (c : Prop) [Decidable c] (a b : State) : (if c then a else b).alarms = if c then a.alarms else b.alarms := by
  split <;> rfl

@[simp] theorem ite_call (c : Prop) [Decidable c] (a b : State) : (if c then a else b).call = if c then a.call else b.call := by
  split <;> rfl

@[simp] theorem ite_panels (c : Prop) [Decidable c] (a b : State) : (if c then a else b).panels = if c then a.panels else b.panels := by
  split <;> rfl

@[simp] theorem ite_canvas (c : Prop) [Decidable c] (a b : State) : (if c then a else b).canvas = if c then a.canvas else b.canvas := by
  split <;> rfl

@[simp] theorem ite_ring (c : Prop) [Decidable c] (a b : State) : (if c then a else b).ring = if c then a.ring else b.ring := by
  split <;> rfl

@[simp] theorem ite_can (c : Prop) [Decidable c] (a b : State) : (if c then a else b).can = if c then a.can else b.can := by
  split <;> rfl

@[simp] theorem ite_nand (c : Prop) [Decidable c] (a b : State) : (if c then a else b).nand = if c then a.nand else b.nand := by
  split <;> rfl

@[simp] theorem ite_linen (c : Prop) [Decidable c] (a b : State) : (if c then a else b).linen = if c then a.linen else b.linen := by
  split <;> rfl

@[simp] theorem ite_bkup (c : Prop) [Decidable c] (a b : State) : (if c then a else b).bkup = if c then a.bkup else b.bkup := by
  split <;> rfl

@[simp] theorem ite_perf (c : Prop) [Decidable c] (a b : State) : (if c then a else b).perf = if c then a.perf else b.perf := by
  split <;> rfl

@[simp] theorem modGroup_frame (s : State) (g : Nat) (f : GroupSt → GroupSt) :
    (State.modGroup s g f).pending = s.pending ∧ (State.modGroup s g f).clk = s.clk ∧ (State.modGroup s g f).sys =
    s.sys ∧ (State.modGroup s g f).pins = s.pins ∧ (State.modGroup s g f).cfg = s.cfg ∧ (State.modGroup s g f).nor =
    s.nor ∧ (State.modGroup s g f).quads = s.quads ∧ (State.modGroup s g f).engines = s.engines ∧ (State.modGroup s g
    f).fabric = s.fabric ∧ (State.modGroup s g f).gauze = s.gauze ∧ (State.modGroup s g f).power = s.power ∧
    (State.modGroup s g f).dram = s.dram ∧ (State.modGroup s g f).field = s.field ∧ (State.modGroup s g f).uai = s.uai
    ∧ (State.modGroup s g f).hart = s.hart ∧ (State.modGroup s g f).modems = s.modems ∧ (State.modGroup s g f).spare =
    s.spare ∧ (State.modGroup s g f).vib = s.vib ∧ (State.modGroup s g f).ao = s.ao ∧ (State.modGroup s g f).disc =
    s.disc ∧ (State.modGroup s g f).points = s.points ∧ (State.modGroup s g f).call = s.call ∧ (State.modGroup s g
    f).panels = s.panels ∧ (State.modGroup s g f).canvas = s.canvas ∧ (State.modGroup s g f).ring = s.ring ∧
    (State.modGroup s g f).can = s.can ∧ (State.modGroup s g f).nand = s.nand ∧ (State.modGroup s g f).linen = s.linen
    ∧ (State.modGroup s g f).bkup = s.bkup ∧ (State.modGroup s g f).perf = s.perf := by
  refine ⟨?_, ?_, ?_, ?_, ?_, ?_, ?_, ?_, ?_, ?_, ?_, ?_, ?_, ?_, ?_, ?_, ?_, ?_, ?_, ?_, ?_, ?_, ?_, ?_, ?_, ?_, ?_, ?_, ?_, ?_⟩ <;>
    simp [State.modGroup]

@[simp] theorem noteFirstOut_frame (s : State) (ws : List Word) :
    (noteFirstOut s ws).pending = s.pending ∧ (noteFirstOut s ws).clk = s.clk ∧ (noteFirstOut s ws).sys = s.sys ∧
    (noteFirstOut s ws).pins = s.pins ∧ (noteFirstOut s ws).cfg = s.cfg ∧ (noteFirstOut s ws).nor = s.nor ∧
    (noteFirstOut s ws).quads = s.quads ∧ (noteFirstOut s ws).engines = s.engines ∧ (noteFirstOut s ws).fabric =
    s.fabric ∧ (noteFirstOut s ws).gauze = s.gauze ∧ (noteFirstOut s ws).power = s.power ∧ (noteFirstOut s ws).dram =
    s.dram ∧ (noteFirstOut s ws).field = s.field ∧ (noteFirstOut s ws).uai = s.uai ∧ (noteFirstOut s ws).hart = s.hart
    ∧ (noteFirstOut s ws).modems = s.modems ∧ (noteFirstOut s ws).spare = s.spare ∧ (noteFirstOut s ws).vib = s.vib ∧
    (noteFirstOut s ws).ao = s.ao ∧ (noteFirstOut s ws).disc = s.disc ∧ (noteFirstOut s ws).points = s.points ∧
    (noteFirstOut s ws).call = s.call ∧ (noteFirstOut s ws).panels = s.panels ∧ (noteFirstOut s ws).canvas = s.canvas
    ∧ (noteFirstOut s ws).ring = s.ring ∧ (noteFirstOut s ws).can = s.can ∧ (noteFirstOut s ws).nand = s.nand ∧
    (noteFirstOut s ws).linen = s.linen ∧ (noteFirstOut s ws).bkup = s.bkup ∧ (noteFirstOut s ws).perf = s.perf := by
  refine ⟨?_, ?_, ?_, ?_, ?_, ?_, ?_, ?_, ?_, ?_, ?_, ?_, ?_, ?_, ?_, ?_, ?_, ?_, ?_, ?_, ?_, ?_, ?_, ?_, ?_, ?_, ?_, ?_, ?_, ?_⟩ <;>
    simp [noteFirstOut]

@[simp] theorem noteJoin_frame (s : State) (ws : List Word) :
    (noteJoin s ws).pending = s.pending ∧ (noteJoin s ws).clk = s.clk ∧ (noteJoin s ws).sys = s.sys ∧ (noteJoin s
    ws).pins = s.pins ∧ (noteJoin s ws).cfg = s.cfg ∧ (noteJoin s ws).nor = s.nor ∧ (noteJoin s ws).quads = s.quads ∧
    (noteJoin s ws).engines = s.engines ∧ (noteJoin s ws).fabric = s.fabric ∧ (noteJoin s ws).gauze = s.gauze ∧
    (noteJoin s ws).power = s.power ∧ (noteJoin s ws).dram = s.dram ∧ (noteJoin s ws).field = s.field ∧ (noteJoin s
    ws).uai = s.uai ∧ (noteJoin s ws).hart = s.hart ∧ (noteJoin s ws).modems = s.modems ∧ (noteJoin s ws).spare =
    s.spare ∧ (noteJoin s ws).vib = s.vib ∧ (noteJoin s ws).ao = s.ao ∧ (noteJoin s ws).disc = s.disc ∧ (noteJoin s
    ws).points = s.points ∧ (noteJoin s ws).alarms = s.alarms ∧ (noteJoin s ws).panels = s.panels ∧ (noteJoin s
    ws).canvas = s.canvas ∧ (noteJoin s ws).ring = s.ring ∧ (noteJoin s ws).can = s.can ∧ (noteJoin s ws).nand =
    s.nand ∧ (noteJoin s ws).linen = s.linen ∧ (noteJoin s ws).bkup = s.bkup ∧ (noteJoin s ws).perf = s.perf := by
  refine ⟨?_, ?_, ?_, ?_, ?_, ?_, ?_, ?_, ?_, ?_, ?_, ?_, ?_, ?_, ?_, ?_, ?_, ?_, ?_, ?_, ?_, ?_, ?_, ?_, ?_, ?_, ?_, ?_, ?_, ?_⟩ <;>
    simp [noteJoin]

@[simp] theorem modPanel_frame (s : State) (k : Nat) (f : Panel → Panel) :
    (State.modPanel s k f).pending = s.pending ∧ (State.modPanel s k f).clk = s.clk ∧ (State.modPanel s k f).sys =
    s.sys ∧ (State.modPanel s k f).pins = s.pins ∧ (State.modPanel s k f).cfg = s.cfg ∧ (State.modPanel s k f).nor =
    s.nor ∧ (State.modPanel s k f).quads = s.quads ∧ (State.modPanel s k f).engines = s.engines ∧ (State.modPanel s k
    f).fabric = s.fabric ∧ (State.modPanel s k f).gauze = s.gauze ∧ (State.modPanel s k f).power = s.power ∧
    (State.modPanel s k f).dram = s.dram ∧ (State.modPanel s k f).field = s.field ∧ (State.modPanel s k f).uai = s.uai
    ∧ (State.modPanel s k f).hart = s.hart ∧ (State.modPanel s k f).modems = s.modems ∧ (State.modPanel s k f).spare =
    s.spare ∧ (State.modPanel s k f).vib = s.vib ∧ (State.modPanel s k f).ao = s.ao ∧ (State.modPanel s k f).disc =
    s.disc ∧ (State.modPanel s k f).points = s.points ∧ (State.modPanel s k f).alarms = s.alarms ∧ (State.modPanel s k
    f).call = s.call ∧ (State.modPanel s k f).canvas = s.canvas ∧ (State.modPanel s k f).ring = s.ring ∧
    (State.modPanel s k f).can = s.can ∧ (State.modPanel s k f).nand = s.nand ∧ (State.modPanel s k f).linen = s.linen
    ∧ (State.modPanel s k f).bkup = s.bkup ∧ (State.modPanel s k f).perf = s.perf := by
  refine ⟨?_, ?_, ?_, ?_, ?_, ?_, ?_, ?_, ?_, ?_, ?_, ?_, ?_, ?_, ?_, ?_, ?_, ?_, ?_, ?_, ?_, ?_, ?_, ?_, ?_, ?_, ?_, ?_, ?_, ?_⟩ <;>
    simp [State.modPanel]

@[simp] theorem queueFrame_frame (s : State) (c : Nat) (f : PanelFrame) :
    (queueFrame s c f).pending = s.pending ∧ (queueFrame s c f).clk = s.clk ∧ (queueFrame s c f).sys = s.sys ∧
    (queueFrame s c f).pins = s.pins ∧ (queueFrame s c f).cfg = s.cfg ∧ (queueFrame s c f).nor = s.nor ∧ (queueFrame s
    c f).quads = s.quads ∧ (queueFrame s c f).engines = s.engines ∧ (queueFrame s c f).fabric = s.fabric ∧ (queueFrame
    s c f).gauze = s.gauze ∧ (queueFrame s c f).power = s.power ∧ (queueFrame s c f).dram = s.dram ∧ (queueFrame s c
    f).field = s.field ∧ (queueFrame s c f).uai = s.uai ∧ (queueFrame s c f).hart = s.hart ∧ (queueFrame s c f).modems
    = s.modems ∧ (queueFrame s c f).spare = s.spare ∧ (queueFrame s c f).vib = s.vib ∧ (queueFrame s c f).ao = s.ao ∧
    (queueFrame s c f).disc = s.disc ∧ (queueFrame s c f).points = s.points ∧ (queueFrame s c f).alarms = s.alarms ∧
    (queueFrame s c f).call = s.call ∧ (queueFrame s c f).canvas = s.canvas ∧ (queueFrame s c f).ring = s.ring ∧
    (queueFrame s c f).can = s.can ∧ (queueFrame s c f).nand = s.nand ∧ (queueFrame s c f).linen = s.linen ∧
    (queueFrame s c f).bkup = s.bkup ∧ (queueFrame s c f).perf = s.perf := by
  refine ⟨?_, ?_, ?_, ?_, ?_, ?_, ?_, ?_, ?_, ?_, ?_, ?_, ?_, ?_, ?_, ?_, ?_, ?_, ?_, ?_, ?_, ?_, ?_, ?_, ?_, ?_, ?_, ?_, ?_, ?_⟩ <;>
    simp [queueFrame]

@[simp] theorem panelAlarmAt_frame (ws : List Word) (s : State) (k : Nat) :
    (panelAlarmAt ws s k).pending = s.pending ∧ (panelAlarmAt ws s k).clk = s.clk ∧ (panelAlarmAt ws s k).sys = s.sys
    ∧ (panelAlarmAt ws s k).pins = s.pins ∧ (panelAlarmAt ws s k).cfg = s.cfg ∧ (panelAlarmAt ws s k).nor = s.nor ∧
    (panelAlarmAt ws s k).quads = s.quads ∧ (panelAlarmAt ws s k).engines = s.engines ∧ (panelAlarmAt ws s k).fabric =
    s.fabric ∧ (panelAlarmAt ws s k).gauze = s.gauze ∧ (panelAlarmAt ws s k).power = s.power ∧ (panelAlarmAt ws s
    k).dram = s.dram ∧ (panelAlarmAt ws s k).field = s.field ∧ (panelAlarmAt ws s k).uai = s.uai ∧ (panelAlarmAt ws s
    k).hart = s.hart ∧ (panelAlarmAt ws s k).modems = s.modems ∧ (panelAlarmAt ws s k).spare = s.spare ∧ (panelAlarmAt
    ws s k).vib = s.vib ∧ (panelAlarmAt ws s k).ao = s.ao ∧ (panelAlarmAt ws s k).disc = s.disc ∧ (panelAlarmAt ws s
    k).points = s.points ∧ (panelAlarmAt ws s k).alarms = s.alarms ∧ (panelAlarmAt ws s k).call = s.call ∧
    (panelAlarmAt ws s k).canvas = s.canvas ∧ (panelAlarmAt ws s k).ring = s.ring ∧ (panelAlarmAt ws s k).can = s.can
    ∧ (panelAlarmAt ws s k).nand = s.nand ∧ (panelAlarmAt ws s k).linen = s.linen ∧ (panelAlarmAt ws s k).bkup =
    s.bkup ∧ (panelAlarmAt ws s k).perf = s.perf := by
  refine ⟨?_, ?_, ?_, ?_, ?_, ?_, ?_, ?_, ?_, ?_, ?_, ?_, ?_, ?_, ?_, ?_, ?_, ?_, ?_, ?_, ?_, ?_, ?_, ?_, ?_, ?_, ?_, ?_, ?_, ?_⟩ <;>
    simp [panelAlarmAt]

@[simp] theorem panelStep_frame (force : Bool) (s : State) (k : Nat) :
    (panelStep force s k).pending = s.pending ∧ (panelStep force s k).clk = s.clk ∧ (panelStep force s k).sys = s.sys
    ∧ (panelStep force s k).pins = s.pins ∧ (panelStep force s k).cfg = s.cfg ∧ (panelStep force s k).nor = s.nor ∧
    (panelStep force s k).quads = s.quads ∧ (panelStep force s k).engines = s.engines ∧ (panelStep force s k).fabric =
    s.fabric ∧ (panelStep force s k).gauze = s.gauze ∧ (panelStep force s k).power = s.power ∧ (panelStep force s
    k).dram = s.dram ∧ (panelStep force s k).field = s.field ∧ (panelStep force s k).uai = s.uai ∧ (panelStep force s
    k).hart = s.hart ∧ (panelStep force s k).modems = s.modems ∧ (panelStep force s k).spare = s.spare ∧ (panelStep
    force s k).vib = s.vib ∧ (panelStep force s k).ao = s.ao ∧ (panelStep force s k).disc = s.disc ∧ (panelStep force
    s k).points = s.points ∧ (panelStep force s k).alarms = s.alarms ∧ (panelStep force s k).call = s.call ∧
    (panelStep force s k).canvas = s.canvas ∧ (panelStep force s k).ring = s.ring ∧ (panelStep force s k).can = s.can
    ∧ (panelStep force s k).nand = s.nand ∧ (panelStep force s k).linen = s.linen ∧ (panelStep force s k).bkup =
    s.bkup ∧ (panelStep force s k).perf = s.perf := by
  refine ⟨?_, ?_, ?_, ?_, ?_, ?_, ?_, ?_, ?_, ?_, ?_, ?_, ?_, ?_, ?_, ?_, ?_, ?_, ?_, ?_, ?_, ?_, ?_, ?_, ?_, ?_, ?_, ?_, ?_, ?_⟩ <;>
    simp [panelStep]

@[simp] theorem panelsRefresh_frame (force : Bool) (s : State) :
    (panelsRefresh force s).pending = s.pending ∧ (panelsRefresh force s).clk = s.clk ∧ (panelsRefresh force s).sys =
    s.sys ∧ (panelsRefresh force s).pins = s.pins ∧ (panelsRefresh force s).cfg = s.cfg ∧ (panelsRefresh force s).nor
    = s.nor ∧ (panelsRefresh force s).quads = s.quads ∧ (panelsRefresh force s).engines = s.engines ∧ (panelsRefresh
    force s).fabric = s.fabric ∧ (panelsRefresh force s).gauze = s.gauze ∧ (panelsRefresh force s).power = s.power ∧
    (panelsRefresh force s).dram = s.dram ∧ (panelsRefresh force s).field = s.field ∧ (panelsRefresh force s).uai =
    s.uai ∧ (panelsRefresh force s).hart = s.hart ∧ (panelsRefresh force s).modems = s.modems ∧ (panelsRefresh force
    s).spare = s.spare ∧ (panelsRefresh force s).vib = s.vib ∧ (panelsRefresh force s).ao = s.ao ∧ (panelsRefresh
    force s).disc = s.disc ∧ (panelsRefresh force s).points = s.points ∧ (panelsRefresh force s).alarms = s.alarms ∧
    (panelsRefresh force s).call = s.call ∧ (panelsRefresh force s).canvas = s.canvas ∧ (panelsRefresh force s).ring =
    s.ring ∧ (panelsRefresh force s).can = s.can ∧ (panelsRefresh force s).nand = s.nand ∧ (panelsRefresh force
    s).linen = s.linen ∧ (panelsRefresh force s).bkup = s.bkup ∧ (panelsRefresh force s).perf = s.perf := by
  refine ⟨?_, ?_, ?_, ?_, ?_, ?_, ?_, ?_, ?_, ?_, ?_, ?_, ?_, ?_, ?_, ?_, ?_, ?_, ?_, ?_, ?_, ?_, ?_, ?_, ?_, ?_, ?_, ?_, ?_, ?_⟩ <;>
    simp [panelsRefresh]

@[simp] theorem panelsAlarm_frame (s : State) (ws : List Word) :
    (panelsAlarm s ws).pending = s.pending ∧ (panelsAlarm s ws).clk = s.clk ∧ (panelsAlarm s ws).sys = s.sys ∧
    (panelsAlarm s ws).pins = s.pins ∧ (panelsAlarm s ws).cfg = s.cfg ∧ (panelsAlarm s ws).nor = s.nor ∧ (panelsAlarm
    s ws).quads = s.quads ∧ (panelsAlarm s ws).engines = s.engines ∧ (panelsAlarm s ws).fabric = s.fabric ∧
    (panelsAlarm s ws).gauze = s.gauze ∧ (panelsAlarm s ws).power = s.power ∧ (panelsAlarm s ws).dram = s.dram ∧
    (panelsAlarm s ws).field = s.field ∧ (panelsAlarm s ws).uai = s.uai ∧ (panelsAlarm s ws).hart = s.hart ∧
    (panelsAlarm s ws).modems = s.modems ∧ (panelsAlarm s ws).spare = s.spare ∧ (panelsAlarm s ws).vib = s.vib ∧
    (panelsAlarm s ws).ao = s.ao ∧ (panelsAlarm s ws).disc = s.disc ∧ (panelsAlarm s ws).points = s.points ∧
    (panelsAlarm s ws).alarms = s.alarms ∧ (panelsAlarm s ws).call = s.call ∧ (panelsAlarm s ws).canvas = s.canvas ∧
    (panelsAlarm s ws).ring = s.ring ∧ (panelsAlarm s ws).can = s.can ∧ (panelsAlarm s ws).nand = s.nand ∧
    (panelsAlarm s ws).linen = s.linen ∧ (panelsAlarm s ws).bkup = s.bkup ∧ (panelsAlarm s ws).perf = s.perf := by
  refine ⟨?_, ?_, ?_, ?_, ?_, ?_, ?_, ?_, ?_, ?_, ?_, ?_, ?_, ?_, ?_, ?_, ?_, ?_, ?_, ?_, ?_, ?_, ?_, ?_, ?_, ?_, ?_, ?_, ?_, ?_⟩ <;>
    simp [panelsAlarm]

@[simp] theorem refreshGroup_frame (s : State) (g : Nat) :
    (refreshGroup s g).pending = s.pending ∧ (refreshGroup s g).clk = s.clk ∧ (refreshGroup s g).sys = s.sys ∧
    (refreshGroup s g).pins = s.pins ∧ (refreshGroup s g).cfg = s.cfg ∧ (refreshGroup s g).nor = s.nor ∧ (refreshGroup
    s g).quads = s.quads ∧ (refreshGroup s g).engines = s.engines ∧ (refreshGroup s g).fabric = s.fabric ∧
    (refreshGroup s g).gauze = s.gauze ∧ (refreshGroup s g).power = s.power ∧ (refreshGroup s g).dram = s.dram ∧
    (refreshGroup s g).field = s.field ∧ (refreshGroup s g).uai = s.uai ∧ (refreshGroup s g).hart = s.hart ∧
    (refreshGroup s g).modems = s.modems ∧ (refreshGroup s g).spare = s.spare ∧ (refreshGroup s g).vib = s.vib ∧
    (refreshGroup s g).ao = s.ao ∧ (refreshGroup s g).disc = s.disc ∧ (refreshGroup s g).points = s.points ∧
    (refreshGroup s g).call = s.call ∧ (refreshGroup s g).panels = s.panels ∧ (refreshGroup s g).canvas = s.canvas ∧
    (refreshGroup s g).ring = s.ring ∧ (refreshGroup s g).can = s.can ∧ (refreshGroup s g).nand = s.nand ∧
    (refreshGroup s g).linen = s.linen ∧ (refreshGroup s g).bkup = s.bkup ∧ (refreshGroup s g).perf = s.perf := by
  refine ⟨?_, ?_, ?_, ?_, ?_, ?_, ?_, ?_, ?_, ?_, ?_, ?_, ?_, ?_, ?_, ?_, ?_, ?_, ?_, ?_, ?_, ?_, ?_, ?_, ?_, ?_, ?_, ?_, ?_, ?_⟩ <;>
    simp [refreshGroup]

@[simp] theorem alarmEffects_frame (s : State) (ws : List Word) :
    (alarmEffects s ws).pending = s.pending ∧ (alarmEffects s ws).clk = s.clk ∧ (alarmEffects s ws).sys = s.sys ∧
    (alarmEffects s ws).pins = s.pins ∧ (alarmEffects s ws).cfg = s.cfg ∧ (alarmEffects s ws).nor = s.nor ∧
    (alarmEffects s ws).quads = s.quads ∧ (alarmEffects s ws).engines = s.engines ∧ (alarmEffects s ws).fabric =
    s.fabric ∧ (alarmEffects s ws).gauze = s.gauze ∧ (alarmEffects s ws).power = s.power ∧ (alarmEffects s ws).dram =
    s.dram ∧ (alarmEffects s ws).field = s.field ∧ (alarmEffects s ws).uai = s.uai ∧ (alarmEffects s ws).hart = s.hart
    ∧ (alarmEffects s ws).modems = s.modems ∧ (alarmEffects s ws).spare = s.spare ∧ (alarmEffects s ws).vib = s.vib ∧
    (alarmEffects s ws).ao = s.ao ∧ (alarmEffects s ws).disc = s.disc ∧ (alarmEffects s ws).points = s.points ∧
    (alarmEffects s ws).canvas = s.canvas ∧ (alarmEffects s ws).ring = s.ring ∧ (alarmEffects s ws).can = s.can ∧
    (alarmEffects s ws).nand = s.nand ∧ (alarmEffects s ws).linen = s.linen ∧ (alarmEffects s ws).bkup = s.bkup ∧
    (alarmEffects s ws).perf = s.perf := by
  refine ⟨?_, ?_, ?_, ?_, ?_, ?_, ?_, ?_, ?_, ?_, ?_, ?_, ?_, ?_, ?_, ?_, ?_, ?_, ?_, ?_, ?_, ?_, ?_, ?_, ?_, ?_, ?_, ?_⟩ <;>
    simp [alarmEffects]

@[simp] theorem pushMsg_frame (s : State) (m : Msg) :
    (pushMsg s m).pending = s.pending ∧ (pushMsg s m).clk = s.clk ∧ (pushMsg s m).sys = s.sys ∧ (pushMsg s m).pins =
    s.pins ∧ (pushMsg s m).cfg = s.cfg ∧ (pushMsg s m).nor = s.nor ∧ (pushMsg s m).quads = s.quads ∧ (pushMsg s
    m).engines = s.engines ∧ (pushMsg s m).fabric = s.fabric ∧ (pushMsg s m).gauze = s.gauze ∧ (pushMsg s m).power =
    s.power ∧ (pushMsg s m).dram = s.dram ∧ (pushMsg s m).field = s.field ∧ (pushMsg s m).uai = s.uai ∧ (pushMsg s
    m).hart = s.hart ∧ (pushMsg s m).modems = s.modems ∧ (pushMsg s m).spare = s.spare ∧ (pushMsg s m).vib = s.vib ∧
    (pushMsg s m).ao = s.ao ∧ (pushMsg s m).disc = s.disc ∧ (pushMsg s m).points = s.points ∧ (pushMsg s m).alarms =
    s.alarms ∧ (pushMsg s m).call = s.call ∧ (pushMsg s m).panels = s.panels ∧ (pushMsg s m).canvas = s.canvas ∧
    (pushMsg s m).can = s.can ∧ (pushMsg s m).nand = s.nand ∧ (pushMsg s m).linen = s.linen ∧ (pushMsg s m).bkup =
    s.bkup ∧ (pushMsg s m).perf = s.perf := by
  refine ⟨?_, ?_, ?_, ?_, ?_, ?_, ?_, ?_, ?_, ?_, ?_, ?_, ?_, ?_, ?_, ?_, ?_, ?_, ?_, ?_, ?_, ?_, ?_, ?_, ?_, ?_, ?_, ?_, ?_, ?_⟩ <;>
    simp [pushMsg]

@[simp] theorem enqueue_frame (s : State) (m : Msg) :
    (enqueue s m).pending = s.pending ∧ (enqueue s m).clk = s.clk ∧ (enqueue s m).sys = s.sys ∧ (enqueue s m).pins =
    s.pins ∧ (enqueue s m).cfg = s.cfg ∧ (enqueue s m).nor = s.nor ∧ (enqueue s m).quads = s.quads ∧ (enqueue s
    m).engines = s.engines ∧ (enqueue s m).fabric = s.fabric ∧ (enqueue s m).gauze = s.gauze ∧ (enqueue s m).power =
    s.power ∧ (enqueue s m).dram = s.dram ∧ (enqueue s m).field = s.field ∧ (enqueue s m).uai = s.uai ∧ (enqueue s
    m).hart = s.hart ∧ (enqueue s m).modems = s.modems ∧ (enqueue s m).spare = s.spare ∧ (enqueue s m).vib = s.vib ∧
    (enqueue s m).ao = s.ao ∧ (enqueue s m).disc = s.disc ∧ (enqueue s m).points = s.points ∧ (enqueue s m).alarms =
    s.alarms ∧ (enqueue s m).call = s.call ∧ (enqueue s m).panels = s.panels ∧ (enqueue s m).canvas = s.canvas ∧
    (enqueue s m).can = s.can ∧ (enqueue s m).nand = s.nand ∧ (enqueue s m).linen = s.linen ∧ (enqueue s m).bkup =
    s.bkup ∧ (enqueue s m).perf = s.perf := by
  refine ⟨?_, ?_, ?_, ?_, ?_, ?_, ?_, ?_, ?_, ?_, ?_, ?_, ?_, ?_, ?_, ?_, ?_, ?_, ?_, ?_, ?_, ?_, ?_, ?_, ?_, ?_, ?_, ?_, ?_, ?_⟩ <;>
    simp [enqueue]

@[simp] theorem bcast_frame (s : State) (cls : BitVec 2) (type : BitVec 6) (payload : List Word) :
    (bcast s cls type payload).pending = s.pending ∧ (bcast s cls type payload).clk = s.clk ∧ (bcast s cls type
    payload).sys = s.sys ∧ (bcast s cls type payload).pins = s.pins ∧ (bcast s cls type payload).cfg = s.cfg ∧ (bcast
    s cls type payload).nor = s.nor ∧ (bcast s cls type payload).quads = s.quads ∧ (bcast s cls type payload).engines
    = s.engines ∧ (bcast s cls type payload).fabric = s.fabric ∧ (bcast s cls type payload).gauze = s.gauze ∧ (bcast s
    cls type payload).power = s.power ∧ (bcast s cls type payload).dram = s.dram ∧ (bcast s cls type payload).field =
    s.field ∧ (bcast s cls type payload).uai = s.uai ∧ (bcast s cls type payload).hart = s.hart ∧ (bcast s cls type
    payload).modems = s.modems ∧ (bcast s cls type payload).spare = s.spare ∧ (bcast s cls type payload).vib = s.vib ∧
    (bcast s cls type payload).ao = s.ao ∧ (bcast s cls type payload).disc = s.disc ∧ (bcast s cls type
    payload).points = s.points ∧ (bcast s cls type payload).alarms = s.alarms ∧ (bcast s cls type payload).call =
    s.call ∧ (bcast s cls type payload).panels = s.panels ∧ (bcast s cls type payload).canvas = s.canvas ∧ (bcast s
    cls type payload).can = s.can ∧ (bcast s cls type payload).nand = s.nand ∧ (bcast s cls type payload).linen =
    s.linen ∧ (bcast s cls type payload).bkup = s.bkup ∧ (bcast s cls type payload).perf = s.perf := by
  refine ⟨?_, ?_, ?_, ?_, ?_, ?_, ?_, ?_, ?_, ?_, ?_, ?_, ?_, ?_, ?_, ?_, ?_, ?_, ?_, ?_, ?_, ?_, ?_, ?_, ?_, ?_, ?_, ?_, ?_, ?_⟩ <;>
    simp [bcast]

@[simp] theorem noteEvent_frame (s : State) (seq : Word) (r : Rec) :
    (noteEvent s seq r).pending = s.pending ∧ (noteEvent s seq r).clk = s.clk ∧ (noteEvent s seq r).sys = s.sys ∧
    (noteEvent s seq r).pins = s.pins ∧ (noteEvent s seq r).cfg = s.cfg ∧ (noteEvent s seq r).nor = s.nor ∧ (noteEvent
    s seq r).quads = s.quads ∧ (noteEvent s seq r).engines = s.engines ∧ (noteEvent s seq r).fabric = s.fabric ∧
    (noteEvent s seq r).gauze = s.gauze ∧ (noteEvent s seq r).power = s.power ∧ (noteEvent s seq r).dram = s.dram ∧
    (noteEvent s seq r).field = s.field ∧ (noteEvent s seq r).uai = s.uai ∧ (noteEvent s seq r).hart = s.hart ∧
    (noteEvent s seq r).modems = s.modems ∧ (noteEvent s seq r).spare = s.spare ∧ (noteEvent s seq r).vib = s.vib ∧
    (noteEvent s seq r).ao = s.ao ∧ (noteEvent s seq r).disc = s.disc ∧ (noteEvent s seq r).points = s.points ∧
    (noteEvent s seq r).alarms = s.alarms ∧ (noteEvent s seq r).call = s.call ∧ (noteEvent s seq r).panels = s.panels
    ∧ (noteEvent s seq r).canvas = s.canvas ∧ (noteEvent s seq r).ring = s.ring ∧ (noteEvent s seq r).can = s.can ∧
    (noteEvent s seq r).nand = s.nand ∧ (noteEvent s seq r).bkup = s.bkup ∧ (noteEvent s seq r).perf = s.perf := by
  refine ⟨?_, ?_, ?_, ?_, ?_, ?_, ?_, ?_, ?_, ?_, ?_, ?_, ?_, ?_, ?_, ?_, ?_, ?_, ?_, ?_, ?_, ?_, ?_, ?_, ?_, ?_, ?_, ?_, ?_, ?_⟩ <;>
    simp [noteEvent]

@[simp] theorem pushRec_frame (s : State) (r : Rec) :
    (pushRec s r).pending = s.pending ∧ (pushRec s r).clk = s.clk ∧ (pushRec s r).sys = s.sys ∧ (pushRec s r).pins =
    s.pins ∧ (pushRec s r).cfg = s.cfg ∧ (pushRec s r).nor = s.nor ∧ (pushRec s r).quads = s.quads ∧ (pushRec s
    r).engines = s.engines ∧ (pushRec s r).fabric = s.fabric ∧ (pushRec s r).gauze = s.gauze ∧ (pushRec s r).power =
    s.power ∧ (pushRec s r).dram = s.dram ∧ (pushRec s r).field = s.field ∧ (pushRec s r).uai = s.uai ∧ (pushRec s
    r).hart = s.hart ∧ (pushRec s r).modems = s.modems ∧ (pushRec s r).spare = s.spare ∧ (pushRec s r).vib = s.vib ∧
    (pushRec s r).ao = s.ao ∧ (pushRec s r).disc = s.disc ∧ (pushRec s r).points = s.points ∧ (pushRec s r).alarms =
    s.alarms ∧ (pushRec s r).call = s.call ∧ (pushRec s r).panels = s.panels ∧ (pushRec s r).canvas = s.canvas ∧
    (pushRec s r).ring = s.ring ∧ (pushRec s r).can = s.can ∧ (pushRec s r).nand = s.nand ∧ (pushRec s r).bkup =
    s.bkup ∧ (pushRec s r).perf = s.perf := by
  refine ⟨?_, ?_, ?_, ?_, ?_, ?_, ?_, ?_, ?_, ?_, ?_, ?_, ?_, ?_, ?_, ?_, ?_, ?_, ?_, ?_, ?_, ?_, ?_, ?_, ?_, ?_, ?_, ?_, ?_, ?_⟩ <;>
    simp [pushRec]

@[simp] theorem stage0_frame (s : State) (r : Rec) :
    (stage0 s r).pending = s.pending ∧ (stage0 s r).clk = s.clk ∧ (stage0 s r).sys = s.sys ∧ (stage0 s r).pins =
    s.pins ∧ (stage0 s r).cfg = s.cfg ∧ (stage0 s r).nor = s.nor ∧ (stage0 s r).quads = s.quads ∧ (stage0 s r).engines
    = s.engines ∧ (stage0 s r).fabric = s.fabric ∧ (stage0 s r).gauze = s.gauze ∧ (stage0 s r).power = s.power ∧
    (stage0 s r).dram = s.dram ∧ (stage0 s r).field = s.field ∧ (stage0 s r).uai = s.uai ∧ (stage0 s r).hart = s.hart
    ∧ (stage0 s r).modems = s.modems ∧ (stage0 s r).spare = s.spare ∧ (stage0 s r).vib = s.vib ∧ (stage0 s r).ao =
    s.ao ∧ (stage0 s r).disc = s.disc ∧ (stage0 s r).points = s.points ∧ (stage0 s r).alarms = s.alarms ∧ (stage0 s
    r).call = s.call ∧ (stage0 s r).panels = s.panels ∧ (stage0 s r).canvas = s.canvas ∧ (stage0 s r).ring = s.ring ∧
    (stage0 s r).can = s.can ∧ (stage0 s r).nand = s.nand ∧ (stage0 s r).bkup = s.bkup ∧ (stage0 s r).perf = s.perf := by
  refine ⟨?_, ?_, ?_, ?_, ?_, ?_, ?_, ?_, ?_, ?_, ?_, ?_, ?_, ?_, ?_, ?_, ?_, ?_, ?_, ?_, ?_, ?_, ?_, ?_, ?_, ?_, ?_, ?_, ?_, ?_⟩ <;>
    first | (simp [stage0]; done) | ((unfold stage0; (try dsimp only); repeat' split) <;> (simp; done))

@[simp] theorem alarmOut_frame (s : State) (ws : List Word) :
    (alarmOut s ws).pending = s.pending ∧ (alarmOut s ws).clk = s.clk ∧ (alarmOut s ws).sys = s.sys ∧ (alarmOut s
    ws).pins = s.pins ∧ (alarmOut s ws).cfg = s.cfg ∧ (alarmOut s ws).nor = s.nor ∧ (alarmOut s ws).quads = s.quads ∧
    (alarmOut s ws).engines = s.engines ∧ (alarmOut s ws).fabric = s.fabric ∧ (alarmOut s ws).gauze = s.gauze ∧
    (alarmOut s ws).power = s.power ∧ (alarmOut s ws).dram = s.dram ∧ (alarmOut s ws).field = s.field ∧ (alarmOut s
    ws).uai = s.uai ∧ (alarmOut s ws).hart = s.hart ∧ (alarmOut s ws).modems = s.modems ∧ (alarmOut s ws).spare =
    s.spare ∧ (alarmOut s ws).vib = s.vib ∧ (alarmOut s ws).ao = s.ao ∧ (alarmOut s ws).disc = s.disc ∧ (alarmOut s
    ws).points = s.points ∧ (alarmOut s ws).canvas = s.canvas ∧ (alarmOut s ws).can = s.can ∧ (alarmOut s ws).nand =
    s.nand ∧ (alarmOut s ws).bkup = s.bkup ∧ (alarmOut s ws).perf = s.perf := by
  refine ⟨?_, ?_, ?_, ?_, ?_, ?_, ?_, ?_, ?_, ?_, ?_, ?_, ?_, ?_, ?_, ?_, ?_, ?_, ?_, ?_, ?_, ?_, ?_, ?_, ?_, ?_⟩ <;>
    simp [alarmOut]

@[simp] theorem fltUpdate_frame (s : State) :
    (fltUpdate s).pending = s.pending ∧ (fltUpdate s).clk = s.clk ∧ (fltUpdate s).sys = s.sys ∧ (fltUpdate s).cfg =
    s.cfg ∧ (fltUpdate s).nor = s.nor ∧ (fltUpdate s).quads = s.quads ∧ (fltUpdate s).engines = s.engines ∧ (fltUpdate
    s).fabric = s.fabric ∧ (fltUpdate s).gauze = s.gauze ∧ (fltUpdate s).power = s.power ∧ (fltUpdate s).dram = s.dram
    ∧ (fltUpdate s).field = s.field ∧ (fltUpdate s).uai = s.uai ∧ (fltUpdate s).hart = s.hart ∧ (fltUpdate s).modems =
    s.modems ∧ (fltUpdate s).spare = s.spare ∧ (fltUpdate s).vib = s.vib ∧ (fltUpdate s).ao = s.ao ∧ (fltUpdate
    s).disc = s.disc ∧ (fltUpdate s).points = s.points ∧ (fltUpdate s).alarms = s.alarms ∧ (fltUpdate s).call = s.call
    ∧ (fltUpdate s).panels = s.panels ∧ (fltUpdate s).canvas = s.canvas ∧ (fltUpdate s).ring = s.ring ∧ (fltUpdate
    s).can = s.can ∧ (fltUpdate s).nand = s.nand ∧ (fltUpdate s).linen = s.linen ∧ (fltUpdate s).bkup = s.bkup ∧
    (fltUpdate s).perf = s.perf := by
  refine ⟨?_, ?_, ?_, ?_, ?_, ?_, ?_, ?_, ?_, ?_, ?_, ?_, ?_, ?_, ?_, ?_, ?_, ?_, ?_, ?_, ?_, ?_, ?_, ?_, ?_, ?_, ?_, ?_, ?_, ?_⟩ <;>
    simp [fltUpdate]

@[simp] theorem sysEvent_frame (s : State) (k : Fin 64) (st : SysSt) (ev : Nat) :
    (sysEvent s k st ev).pending = s.pending ∧ (sysEvent s k st ev).clk = s.clk ∧ (sysEvent s k st ev).sys = s.sys ∧
    (sysEvent s k st ev).cfg = s.cfg ∧ (sysEvent s k st ev).nor = s.nor ∧ (sysEvent s k st ev).quads = s.quads ∧
    (sysEvent s k st ev).engines = s.engines ∧ (sysEvent s k st ev).fabric = s.fabric ∧ (sysEvent s k st ev).gauze =
    s.gauze ∧ (sysEvent s k st ev).power = s.power ∧ (sysEvent s k st ev).dram = s.dram ∧ (sysEvent s k st ev).field =
    s.field ∧ (sysEvent s k st ev).uai = s.uai ∧ (sysEvent s k st ev).hart = s.hart ∧ (sysEvent s k st ev).modems =
    s.modems ∧ (sysEvent s k st ev).spare = s.spare ∧ (sysEvent s k st ev).vib = s.vib ∧ (sysEvent s k st ev).ao =
    s.ao ∧ (sysEvent s k st ev).disc = s.disc ∧ (sysEvent s k st ev).points = s.points ∧ (sysEvent s k st ev).canvas =
    s.canvas ∧ (sysEvent s k st ev).can = s.can ∧ (sysEvent s k st ev).nand = s.nand ∧ (sysEvent s k st ev).bkup =
    s.bkup ∧ (sysEvent s k st ev).perf = s.perf := by
  refine ⟨?_, ?_, ?_, ?_, ?_, ?_, ?_, ?_, ?_, ?_, ?_, ?_, ?_, ?_, ?_, ?_, ?_, ?_, ?_, ?_, ?_, ?_, ?_, ?_, ?_⟩ <;>
    simp [sysEvent]

@[simp] theorem sysRaise0_frame (s : State) (k : Fin 64) :
    (sysRaise0 s k).pending = s.pending ∧ (sysRaise0 s k).clk = s.clk ∧ (sysRaise0 s k).sys = s.sys ∧ (sysRaise0 s
    k).cfg = s.cfg ∧ (sysRaise0 s k).nor = s.nor ∧ (sysRaise0 s k).quads = s.quads ∧ (sysRaise0 s k).engines =
    s.engines ∧ (sysRaise0 s k).fabric = s.fabric ∧ (sysRaise0 s k).gauze = s.gauze ∧ (sysRaise0 s k).power = s.power
    ∧ (sysRaise0 s k).dram = s.dram ∧ (sysRaise0 s k).field = s.field ∧ (sysRaise0 s k).uai = s.uai ∧ (sysRaise0 s
    k).hart = s.hart ∧ (sysRaise0 s k).modems = s.modems ∧ (sysRaise0 s k).spare = s.spare ∧ (sysRaise0 s k).vib =
    s.vib ∧ (sysRaise0 s k).ao = s.ao ∧ (sysRaise0 s k).disc = s.disc ∧ (sysRaise0 s k).points = s.points ∧ (sysRaise0
    s k).canvas = s.canvas ∧ (sysRaise0 s k).can = s.can ∧ (sysRaise0 s k).nand = s.nand ∧ (sysRaise0 s k).bkup =
    s.bkup ∧ (sysRaise0 s k).perf = s.perf := by
  refine ⟨?_, ?_, ?_, ?_, ?_, ?_, ?_, ?_, ?_, ?_, ?_, ?_, ?_, ?_, ?_, ?_, ?_, ?_, ?_, ?_, ?_, ?_, ?_, ?_, ?_⟩ <;>
    first | (simp [sysRaise0]; done) | ((unfold sysRaise0; (try dsimp only); repeat' split) <;> (simp; done))

@[simp] theorem followUps_frame (s0 s : State) :
    (followUps s0 s).pending = s.pending ∧ (followUps s0 s).clk = s.clk ∧ (followUps s0 s).sys = s.sys ∧ (followUps s0
    s).cfg = s.cfg ∧ (followUps s0 s).nor = s.nor ∧ (followUps s0 s).quads = s.quads ∧ (followUps s0 s).engines =
    s.engines ∧ (followUps s0 s).fabric = s.fabric ∧ (followUps s0 s).gauze = s.gauze ∧ (followUps s0 s).power =
    s.power ∧ (followUps s0 s).dram = s.dram ∧ (followUps s0 s).field = s.field ∧ (followUps s0 s).uai = s.uai ∧
    (followUps s0 s).hart = s.hart ∧ (followUps s0 s).modems = s.modems ∧ (followUps s0 s).spare = s.spare ∧
    (followUps s0 s).vib = s.vib ∧ (followUps s0 s).ao = s.ao ∧ (followUps s0 s).disc = s.disc ∧ (followUps s0
    s).points = s.points ∧ (followUps s0 s).canvas = s.canvas ∧ (followUps s0 s).can = s.can ∧ (followUps s0 s).nand =
    s.nand ∧ (followUps s0 s).bkup = s.bkup ∧ (followUps s0 s).perf = s.perf := by
  refine ⟨?_, ?_, ?_, ?_, ?_, ?_, ?_, ?_, ?_, ?_, ?_, ?_, ?_, ?_, ?_, ?_, ?_, ?_, ?_, ?_, ?_, ?_, ?_, ?_, ?_⟩ <;>
    simp [followUps]

@[simp] theorem modSampler_frame (s : State) (k : Fin 16) (f : Sampler → Sampler) :
    (State.modSampler s k f).pending = s.pending ∧ (State.modSampler s k f).clk = s.clk ∧ (State.modSampler s k f).sys
    = s.sys ∧ (State.modSampler s k f).pins = s.pins ∧ (State.modSampler s k f).cfg = s.cfg ∧ (State.modSampler s k
    f).nor = s.nor ∧ (State.modSampler s k f).quads = s.quads ∧ (State.modSampler s k f).engines = s.engines ∧
    (State.modSampler s k f).fabric = s.fabric ∧ (State.modSampler s k f).gauze = s.gauze ∧ (State.modSampler s k
    f).power = s.power ∧ (State.modSampler s k f).dram = s.dram ∧ (State.modSampler s k f).field = s.field ∧
    (State.modSampler s k f).uai = s.uai ∧ (State.modSampler s k f).hart = s.hart ∧ (State.modSampler s k f).modems =
    s.modems ∧ (State.modSampler s k f).spare = s.spare ∧ (State.modSampler s k f).vib = s.vib ∧ (State.modSampler s k
    f).ao = s.ao ∧ (State.modSampler s k f).disc = s.disc ∧ (State.modSampler s k f).points = s.points ∧
    (State.modSampler s k f).alarms = s.alarms ∧ (State.modSampler s k f).call = s.call ∧ (State.modSampler s k
    f).panels = s.panels ∧ (State.modSampler s k f).canvas = s.canvas ∧ (State.modSampler s k f).ring = s.ring ∧
    (State.modSampler s k f).can = s.can ∧ (State.modSampler s k f).nand = s.nand ∧ (State.modSampler s k f).linen =
    s.linen ∧ (State.modSampler s k f).bkup = s.bkup := by
  refine ⟨?_, ?_, ?_, ?_, ?_, ?_, ?_, ?_, ?_, ?_, ?_, ?_, ?_, ?_, ?_, ?_, ?_, ?_, ?_, ?_, ?_, ?_, ?_, ?_, ?_, ?_, ?_, ?_, ?_, ?_⟩ <;>
    simp [State.modSampler]

@[simp] theorem takeSample_frame (s : State) (k : Fin 16) (ev m : Nat) (src : SampleSrc) :
    (takeSample s k ev m src).pending = s.pending ∧ (takeSample s k ev m src).clk = s.clk ∧ (takeSample s k ev m src).sys =
    s.sys ∧ (takeSample s k ev m src).pins = s.pins ∧ (takeSample s k ev m src).cfg = s.cfg ∧ (takeSample s k ev m src).nor
    = s.nor ∧ (takeSample s k ev m src).quads = s.quads ∧ (takeSample s k ev m src).engines = s.engines ∧ (takeSample s k
    ev m src).fabric = s.fabric ∧ (takeSample s k ev m src).gauze = s.gauze ∧ (takeSample s k ev m src).power = s.power ∧
    (takeSample s k ev m src).dram = s.dram ∧ (takeSample s k ev m src).field = s.field ∧ (takeSample s k ev m src).uai =
    s.uai ∧ (takeSample s k ev m src).hart = s.hart ∧ (takeSample s k ev m src).modems = s.modems ∧ (takeSample s k ev m
    src).spare = s.spare ∧ (takeSample s k ev m src).vib = s.vib ∧ (takeSample s k ev m src).ao = s.ao ∧ (takeSample s k
    ev m src).disc = s.disc ∧ (takeSample s k ev m src).points = s.points ∧ (takeSample s k ev m src).alarms = s.alarms ∧
    (takeSample s k ev m src).call = s.call ∧ (takeSample s k ev m src).panels = s.panels ∧ (takeSample s k ev m src).canvas
    = s.canvas ∧ (takeSample s k ev m src).ring = s.ring ∧ (takeSample s k ev m src).can = s.can ∧ (takeSample s k ev m
    src).nand = s.nand ∧ (takeSample s k ev m src).linen = s.linen ∧ (takeSample s k ev m src).bkup = s.bkup := by
  refine ⟨?_, ?_, ?_, ?_, ?_, ?_, ?_, ?_, ?_, ?_, ?_, ?_, ?_, ?_, ?_, ?_, ?_, ?_, ?_, ?_, ?_, ?_, ?_, ?_, ?_, ?_, ?_, ?_, ?_, ?_⟩ <;>
    simp [takeSample]

@[simp] theorem samplerWrapAt_frame (s : State) (k : Fin 16) (ev : Nat) (extra : Word) (src : SampleSrc) :
    (samplerWrapAt s k ev extra src).pending = s.pending ∧ (samplerWrapAt s k ev extra src).clk = s.clk ∧
    (samplerWrapAt s k ev extra src).sys = s.sys ∧ (samplerWrapAt s k ev extra src).pins = s.pins ∧ (samplerWrapAt s k
    ev extra src).cfg = s.cfg ∧ (samplerWrapAt s k ev extra src).nor = s.nor ∧ (samplerWrapAt s k ev extra src).quads
    = s.quads ∧ (samplerWrapAt s k ev extra src).engines = s.engines ∧ (samplerWrapAt s k ev extra src).fabric =
    s.fabric ∧ (samplerWrapAt s k ev extra src).gauze = s.gauze ∧ (samplerWrapAt s k ev extra src).power = s.power ∧
    (samplerWrapAt s k ev extra src).dram = s.dram ∧ (samplerWrapAt s k ev extra src).field = s.field ∧ (samplerWrapAt
    s k ev extra src).uai = s.uai ∧ (samplerWrapAt s k ev extra src).hart = s.hart ∧ (samplerWrapAt s k ev extra
    src).modems = s.modems ∧ (samplerWrapAt s k ev extra src).spare = s.spare ∧ (samplerWrapAt s k ev extra src).vib =
    s.vib ∧ (samplerWrapAt s k ev extra src).ao = s.ao ∧ (samplerWrapAt s k ev extra src).disc = s.disc ∧
    (samplerWrapAt s k ev extra src).points = s.points ∧ (samplerWrapAt s k ev extra src).alarms = s.alarms ∧
    (samplerWrapAt s k ev extra src).call = s.call ∧ (samplerWrapAt s k ev extra src).panels = s.panels ∧
    (samplerWrapAt s k ev extra src).canvas = s.canvas ∧ (samplerWrapAt s k ev extra src).ring = s.ring ∧
    (samplerWrapAt s k ev extra src).can = s.can ∧ (samplerWrapAt s k ev extra src).nand = s.nand ∧ (samplerWrapAt s k
    ev extra src).linen = s.linen ∧ (samplerWrapAt s k ev extra src).bkup = s.bkup := by
  refine ⟨?_, ?_, ?_, ?_, ?_, ?_, ?_, ?_, ?_, ?_, ?_, ?_, ?_, ?_, ?_, ?_, ?_, ?_, ?_, ?_, ?_, ?_, ?_, ?_, ?_, ?_, ?_, ?_, ?_, ?_⟩ <;>
    simp [samplerWrapAt]

@[simp] theorem samplerAdd_frame (s : State) (k : Fin 16) (ev n : Nat) :
    (samplerAdd s k ev n).pending = s.pending ∧ (samplerAdd s k ev n).clk = s.clk ∧ (samplerAdd s k ev n).sys = s.sys
    ∧ (samplerAdd s k ev n).pins = s.pins ∧ (samplerAdd s k ev n).cfg = s.cfg ∧ (samplerAdd s k ev n).nor = s.nor ∧
    (samplerAdd s k ev n).quads = s.quads ∧ (samplerAdd s k ev n).engines = s.engines ∧ (samplerAdd s k ev n).fabric =
    s.fabric ∧ (samplerAdd s k ev n).gauze = s.gauze ∧ (samplerAdd s k ev n).power = s.power ∧ (samplerAdd s k ev
    n).dram = s.dram ∧ (samplerAdd s k ev n).field = s.field ∧ (samplerAdd s k ev n).uai = s.uai ∧ (samplerAdd s k ev
    n).hart = s.hart ∧ (samplerAdd s k ev n).modems = s.modems ∧ (samplerAdd s k ev n).spare = s.spare ∧ (samplerAdd s
    k ev n).vib = s.vib ∧ (samplerAdd s k ev n).ao = s.ao ∧ (samplerAdd s k ev n).disc = s.disc ∧ (samplerAdd s k ev
    n).points = s.points ∧ (samplerAdd s k ev n).alarms = s.alarms ∧ (samplerAdd s k ev n).call = s.call ∧ (samplerAdd
    s k ev n).panels = s.panels ∧ (samplerAdd s k ev n).canvas = s.canvas ∧ (samplerAdd s k ev n).ring = s.ring ∧
    (samplerAdd s k ev n).can = s.can ∧ (samplerAdd s k ev n).nand = s.nand ∧ (samplerAdd s k ev n).linen = s.linen ∧
    (samplerAdd s k ev n).bkup = s.bkup := by
  refine ⟨?_, ?_, ?_, ?_, ?_, ?_, ?_, ?_, ?_, ?_, ?_, ?_, ?_, ?_, ?_, ?_, ?_, ?_, ?_, ?_, ?_, ?_, ?_, ?_, ?_, ?_, ?_, ?_, ?_, ?_⟩ <;>
    first | (simp [samplerAdd]; done) | ((unfold samplerAdd; (try dsimp only); repeat' split) <;> (simp; done))

@[simp] theorem perfAdd_frame (s : State) (e n : Nat) :
    (perfAdd s e n).pending = s.pending ∧ (perfAdd s e n).clk = s.clk ∧ (perfAdd s e n).sys = s.sys ∧ (perfAdd s e
    n).pins = s.pins ∧ (perfAdd s e n).cfg = s.cfg ∧ (perfAdd s e n).nor = s.nor ∧ (perfAdd s e n).quads = s.quads ∧
    (perfAdd s e n).engines = s.engines ∧ (perfAdd s e n).fabric = s.fabric ∧ (perfAdd s e n).gauze = s.gauze ∧
    (perfAdd s e n).power = s.power ∧ (perfAdd s e n).dram = s.dram ∧ (perfAdd s e n).field = s.field ∧ (perfAdd s e
    n).uai = s.uai ∧ (perfAdd s e n).hart = s.hart ∧ (perfAdd s e n).modems = s.modems ∧ (perfAdd s e n).spare =
    s.spare ∧ (perfAdd s e n).vib = s.vib ∧ (perfAdd s e n).ao = s.ao ∧ (perfAdd s e n).disc = s.disc ∧ (perfAdd s e
    n).points = s.points ∧ (perfAdd s e n).alarms = s.alarms ∧ (perfAdd s e n).call = s.call ∧ (perfAdd s e n).panels
    = s.panels ∧ (perfAdd s e n).canvas = s.canvas ∧ (perfAdd s e n).ring = s.ring ∧ (perfAdd s e n).can = s.can ∧
    (perfAdd s e n).nand = s.nand ∧ (perfAdd s e n).linen = s.linen ∧ (perfAdd s e n).bkup = s.bkup := by
  refine ⟨?_, ?_, ?_, ?_, ?_, ?_, ?_, ?_, ?_, ?_, ?_, ?_, ?_, ?_, ?_, ?_, ?_, ?_, ?_, ?_, ?_, ?_, ?_, ?_, ?_, ?_, ?_, ?_, ?_, ?_⟩ <;>
    simp [perfAdd]

@[simp] theorem sysRaise_frame (s : State) (k : Fin 64) :
    (sysRaise s k).pending = s.pending ∧ (sysRaise s k).clk = s.clk ∧ (sysRaise s k).sys = s.sys ∧ (sysRaise s k).cfg
    = s.cfg ∧ (sysRaise s k).nor = s.nor ∧ (sysRaise s k).quads = s.quads ∧ (sysRaise s k).engines = s.engines ∧
    (sysRaise s k).fabric = s.fabric ∧ (sysRaise s k).gauze = s.gauze ∧ (sysRaise s k).power = s.power ∧ (sysRaise s
    k).dram = s.dram ∧ (sysRaise s k).field = s.field ∧ (sysRaise s k).uai = s.uai ∧ (sysRaise s k).hart = s.hart ∧
    (sysRaise s k).modems = s.modems ∧ (sysRaise s k).spare = s.spare ∧ (sysRaise s k).vib = s.vib ∧ (sysRaise s k).ao
    = s.ao ∧ (sysRaise s k).disc = s.disc ∧ (sysRaise s k).points = s.points ∧ (sysRaise s k).canvas = s.canvas ∧
    (sysRaise s k).can = s.can ∧ (sysRaise s k).nand = s.nand ∧ (sysRaise s k).bkup = s.bkup ∧ (sysRaise s k).perf =
    s.perf := by
  refine ⟨?_, ?_, ?_, ?_, ?_, ?_, ?_, ?_, ?_, ?_, ?_, ?_, ?_, ?_, ?_, ?_, ?_, ?_, ?_, ?_, ?_, ?_, ?_, ?_, ?_⟩ <;>
    simp [sysRaise]

@[simp] theorem linenCheck_frame (s : State) (r : Rec) :
    (linenCheck s r).pending = s.pending ∧ (linenCheck s r).clk = s.clk ∧ (linenCheck s r).sys = s.sys ∧ (linenCheck s r).cfg = s.cfg ∧
    (linenCheck s r).nor = s.nor ∧ (linenCheck s r).quads = s.quads ∧ (linenCheck s r).engines = s.engines ∧ (linenCheck s r).fabric =
    s.fabric ∧ (linenCheck s r).gauze = s.gauze ∧ (linenCheck s r).power = s.power ∧ (linenCheck s r).dram = s.dram ∧ (linenCheck s
    r).field = s.field ∧ (linenCheck s r).uai = s.uai ∧ (linenCheck s r).hart = s.hart ∧ (linenCheck s r).modems = s.modems ∧ (linenCheck
    s r).spare = s.spare ∧ (linenCheck s r).vib = s.vib ∧ (linenCheck s r).ao = s.ao ∧ (linenCheck s r).disc = s.disc ∧ (linenCheck s
    r).points = s.points ∧ (linenCheck s r).canvas = s.canvas ∧ (linenCheck s r).can = s.can ∧ (linenCheck s r).nand = s.nand ∧
    (linenCheck s r).bkup = s.bkup := by
  refine ⟨?_, ?_, ?_, ?_, ?_, ?_, ?_, ?_, ?_, ?_, ?_, ?_, ?_, ?_, ?_, ?_, ?_, ?_, ?_, ?_, ?_, ?_, ?_, ?_⟩ <;>
    first | (simp [linenCheck]; done) | ((unfold linenCheck; (try dsimp only); repeat' split) <;> (simp; done))

@[simp] theorem stage_frame (s : State) (r : Rec) :
    (stage s r).pending = s.pending ∧ (stage s r).clk = s.clk ∧ (stage s r).sys = s.sys ∧ (stage s r).cfg = s.cfg ∧
    (stage s r).nor = s.nor ∧ (stage s r).quads = s.quads ∧ (stage s r).engines = s.engines ∧ (stage s r).fabric =
    s.fabric ∧ (stage s r).gauze = s.gauze ∧ (stage s r).power = s.power ∧ (stage s r).dram = s.dram ∧ (stage s
    r).field = s.field ∧ (stage s r).uai = s.uai ∧ (stage s r).hart = s.hart ∧ (stage s r).modems = s.modems ∧ (stage
    s r).spare = s.spare ∧ (stage s r).vib = s.vib ∧ (stage s r).ao = s.ao ∧ (stage s r).disc = s.disc ∧ (stage s
    r).points = s.points ∧ (stage s r).canvas = s.canvas ∧ (stage s r).can = s.can ∧ (stage s r).nand = s.nand ∧
    (stage s r).bkup = s.bkup := by
  refine ⟨?_, ?_, ?_, ?_, ?_, ?_, ?_, ?_, ?_, ?_, ?_, ?_, ?_, ?_, ?_, ?_, ?_, ?_, ?_, ?_, ?_, ?_, ?_, ?_⟩ <;>
    simp [stage]

@[simp] theorem sysClear_frame (s : State) (k : Fin 64) :
    (sysClear s k).pending = s.pending ∧ (sysClear s k).clk = s.clk ∧ (sysClear s k).sys = s.sys ∧ (sysClear s k).cfg
    = s.cfg ∧ (sysClear s k).nor = s.nor ∧ (sysClear s k).quads = s.quads ∧ (sysClear s k).engines = s.engines ∧
    (sysClear s k).fabric = s.fabric ∧ (sysClear s k).gauze = s.gauze ∧ (sysClear s k).power = s.power ∧ (sysClear s
    k).dram = s.dram ∧ (sysClear s k).field = s.field ∧ (sysClear s k).uai = s.uai ∧ (sysClear s k).hart = s.hart ∧
    (sysClear s k).modems = s.modems ∧ (sysClear s k).spare = s.spare ∧ (sysClear s k).vib = s.vib ∧ (sysClear s k).ao
    = s.ao ∧ (sysClear s k).disc = s.disc ∧ (sysClear s k).points = s.points ∧ (sysClear s k).canvas = s.canvas ∧
    (sysClear s k).can = s.can ∧ (sysClear s k).nand = s.nand ∧ (sysClear s k).bkup = s.bkup ∧ (sysClear s k).perf =
    s.perf := by
  refine ⟨?_, ?_, ?_, ?_, ?_, ?_, ?_, ?_, ?_, ?_, ?_, ?_, ?_, ?_, ?_, ?_, ?_, ?_, ?_, ?_, ?_, ?_, ?_, ?_, ?_⟩ <;>
    first | (simp [sysClear]; done) | ((unfold sysClear; (try dsimp only); repeat' split) <;> (simp; done))

@[simp] theorem sysSet_frame (s : State) (k : Fin 64) (on : Bool) :
    (sysSet s k on).pending = s.pending ∧ (sysSet s k on).clk = s.clk ∧ (sysSet s k on).sys = s.sys ∧ (sysSet s k
    on).cfg = s.cfg ∧ (sysSet s k on).nor = s.nor ∧ (sysSet s k on).quads = s.quads ∧ (sysSet s k on).engines =
    s.engines ∧ (sysSet s k on).fabric = s.fabric ∧ (sysSet s k on).gauze = s.gauze ∧ (sysSet s k on).power = s.power
    ∧ (sysSet s k on).dram = s.dram ∧ (sysSet s k on).field = s.field ∧ (sysSet s k on).uai = s.uai ∧ (sysSet s k
    on).hart = s.hart ∧ (sysSet s k on).modems = s.modems ∧ (sysSet s k on).spare = s.spare ∧ (sysSet s k on).vib =
    s.vib ∧ (sysSet s k on).ao = s.ao ∧ (sysSet s k on).disc = s.disc ∧ (sysSet s k on).points = s.points ∧ (sysSet s
    k on).canvas = s.canvas ∧ (sysSet s k on).can = s.can ∧ (sysSet s k on).nand = s.nand ∧ (sysSet s k on).bkup =
    s.bkup ∧ (sysSet s k on).perf = s.perf := by
  refine ⟨?_, ?_, ?_, ?_, ?_, ?_, ?_, ?_, ?_, ?_, ?_, ?_, ?_, ?_, ?_, ?_, ?_, ?_, ?_, ?_, ?_, ?_, ?_, ?_, ?_⟩ <;>
    simp [sysSet]

@[simp] theorem pairFail_frame (s : State) (c : Nat) (subject : Word) (ps : List Pair) :
    (pairFail s c subject ps).pending = s.pending ∧ (pairFail s c subject ps).clk = s.clk ∧ (pairFail s c subject
    ps).sys = s.sys ∧ (pairFail s c subject ps).cfg = s.cfg ∧ (pairFail s c subject ps).nor = s.nor ∧ (pairFail s c
    subject ps).quads = s.quads ∧ (pairFail s c subject ps).engines = s.engines ∧ (pairFail s c subject ps).fabric =
    s.fabric ∧ (pairFail s c subject ps).gauze = s.gauze ∧ (pairFail s c subject ps).power = s.power ∧ (pairFail s c
    subject ps).dram = s.dram ∧ (pairFail s c subject ps).field = s.field ∧ (pairFail s c subject ps).uai = s.uai ∧
    (pairFail s c subject ps).hart = s.hart ∧ (pairFail s c subject ps).modems = s.modems ∧ (pairFail s c subject
    ps).spare = s.spare ∧ (pairFail s c subject ps).vib = s.vib ∧ (pairFail s c subject ps).ao = s.ao ∧ (pairFail s c
    subject ps).disc = s.disc ∧ (pairFail s c subject ps).points = s.points ∧ (pairFail s c subject ps).canvas =
    s.canvas ∧ (pairFail s c subject ps).can = s.can ∧ (pairFail s c subject ps).nand = s.nand ∧ (pairFail s c subject
    ps).bkup = s.bkup := by
  refine ⟨?_, ?_, ?_, ?_, ?_, ?_, ?_, ?_, ?_, ?_, ?_, ?_, ?_, ?_, ?_, ?_, ?_, ?_, ?_, ?_, ?_, ?_, ?_, ?_⟩ <;>
    simp [pairFail]

@[simp] theorem sendTo_frame (s : State) (mac : BitVec 48) (dest : BitVec 8) (cls : BitVec 2) (type : BitVec 6) (payload : List Word) :
    (sendTo s mac dest cls type payload).pending = s.pending ∧ (sendTo s mac dest cls type payload).clk = s.clk ∧
    (sendTo s mac dest cls type payload).sys = s.sys ∧ (sendTo s mac dest cls type payload).pins = s.pins ∧ (sendTo s
    mac dest cls type payload).cfg = s.cfg ∧ (sendTo s mac dest cls type payload).nor = s.nor ∧ (sendTo s mac dest cls
    type payload).quads = s.quads ∧ (sendTo s mac dest cls type payload).engines = s.engines ∧ (sendTo s mac dest cls
    type payload).fabric = s.fabric ∧ (sendTo s mac dest cls type payload).gauze = s.gauze ∧ (sendTo s mac dest cls
    type payload).power = s.power ∧ (sendTo s mac dest cls type payload).dram = s.dram ∧ (sendTo s mac dest cls type
    payload).field = s.field ∧ (sendTo s mac dest cls type payload).uai = s.uai ∧ (sendTo s mac dest cls type
    payload).hart = s.hart ∧ (sendTo s mac dest cls type payload).modems = s.modems ∧ (sendTo s mac dest cls type
    payload).spare = s.spare ∧ (sendTo s mac dest cls type payload).vib = s.vib ∧ (sendTo s mac dest cls type
    payload).ao = s.ao ∧ (sendTo s mac dest cls type payload).disc = s.disc ∧ (sendTo s mac dest cls type
    payload).points = s.points ∧ (sendTo s mac dest cls type payload).alarms = s.alarms ∧ (sendTo s mac dest cls type
    payload).call = s.call ∧ (sendTo s mac dest cls type payload).panels = s.panels ∧ (sendTo s mac dest cls type
    payload).canvas = s.canvas ∧ (sendTo s mac dest cls type payload).can = s.can ∧ (sendTo s mac dest cls type
    payload).nand = s.nand ∧ (sendTo s mac dest cls type payload).linen = s.linen ∧ (sendTo s mac dest cls type
    payload).bkup = s.bkup ∧ (sendTo s mac dest cls type payload).perf = s.perf := by
  refine ⟨?_, ?_, ?_, ?_, ?_, ?_, ?_, ?_, ?_, ?_, ?_, ?_, ?_, ?_, ?_, ?_, ?_, ?_, ?_, ?_, ?_, ?_, ?_, ?_, ?_, ?_, ?_, ?_, ?_, ?_⟩ <;>
    simp [sendTo]

@[simp] theorem modFn_frame (s : State) (k : Nat) (f : FnState → FnState) :
    (State.modFn s k f).pending = s.pending ∧ (State.modFn s k f).clk = s.clk ∧ (State.modFn s k f).pins = s.pins ∧
    (State.modFn s k f).cfg = s.cfg ∧ (State.modFn s k f).nor = s.nor ∧ (State.modFn s k f).quads = s.quads ∧
    (State.modFn s k f).engines = s.engines ∧ (State.modFn s k f).fabric = s.fabric ∧ (State.modFn s k f).gauze =
    s.gauze ∧ (State.modFn s k f).power = s.power ∧ (State.modFn s k f).dram = s.dram ∧ (State.modFn s k f).field =
    s.field ∧ (State.modFn s k f).uai = s.uai ∧ (State.modFn s k f).hart = s.hart ∧ (State.modFn s k f).modems =
    s.modems ∧ (State.modFn s k f).spare = s.spare ∧ (State.modFn s k f).vib = s.vib ∧ (State.modFn s k f).ao = s.ao ∧
    (State.modFn s k f).disc = s.disc ∧ (State.modFn s k f).points = s.points ∧ (State.modFn s k f).alarms = s.alarms
    ∧ (State.modFn s k f).call = s.call ∧ (State.modFn s k f).panels = s.panels ∧ (State.modFn s k f).canvas =
    s.canvas ∧ (State.modFn s k f).ring = s.ring ∧ (State.modFn s k f).can = s.can ∧ (State.modFn s k f).nand = s.nand
    ∧ (State.modFn s k f).linen = s.linen ∧ (State.modFn s k f).bkup = s.bkup ∧ (State.modFn s k f).perf = s.perf := by
  refine ⟨?_, ?_, ?_, ?_, ?_, ?_, ?_, ?_, ?_, ?_, ?_, ?_, ?_, ?_, ?_, ?_, ?_, ?_, ?_, ?_, ?_, ?_, ?_, ?_, ?_, ?_, ?_, ?_, ?_, ?_⟩ <;>
    simp [State.modFn]

@[simp] theorem sendFn_frame (s : State) (k st : Nat) :
    (sendFn s k st).pending = s.pending ∧ (sendFn s k st).clk = s.clk ∧ (sendFn s k st).sys = s.sys ∧ (sendFn s k
    st).cfg = s.cfg ∧ (sendFn s k st).nor = s.nor ∧ (sendFn s k st).quads = s.quads ∧ (sendFn s k st).engines =
    s.engines ∧ (sendFn s k st).fabric = s.fabric ∧ (sendFn s k st).gauze = s.gauze ∧ (sendFn s k st).power = s.power
    ∧ (sendFn s k st).dram = s.dram ∧ (sendFn s k st).field = s.field ∧ (sendFn s k st).uai = s.uai ∧ (sendFn s k
    st).hart = s.hart ∧ (sendFn s k st).modems = s.modems ∧ (sendFn s k st).spare = s.spare ∧ (sendFn s k st).vib =
    s.vib ∧ (sendFn s k st).ao = s.ao ∧ (sendFn s k st).disc = s.disc ∧ (sendFn s k st).points = s.points ∧ (sendFn s
    k st).canvas = s.canvas ∧ (sendFn s k st).can = s.can ∧ (sendFn s k st).nand = s.nand ∧ (sendFn s k st).bkup =
    s.bkup := by
  refine ⟨?_, ?_, ?_, ?_, ?_, ?_, ?_, ?_, ?_, ?_, ?_, ?_, ?_, ?_, ?_, ?_, ?_, ?_, ?_, ?_, ?_, ?_, ?_, ?_⟩ <;>
    simp [sendFn]

@[simp] theorem announce_frame (s : State) (k : Nat) :
    (announce s k).pending = s.pending ∧ (announce s k).clk = s.clk ∧ (announce s k).cfg = s.cfg ∧ (announce s k).nor
    = s.nor ∧ (announce s k).quads = s.quads ∧ (announce s k).engines = s.engines ∧ (announce s k).fabric = s.fabric ∧
    (announce s k).gauze = s.gauze ∧ (announce s k).power = s.power ∧ (announce s k).dram = s.dram ∧ (announce s
    k).field = s.field ∧ (announce s k).uai = s.uai ∧ (announce s k).hart = s.hart ∧ (announce s k).modems = s.modems
    ∧ (announce s k).spare = s.spare ∧ (announce s k).vib = s.vib ∧ (announce s k).ao = s.ao ∧ (announce s k).disc =
    s.disc ∧ (announce s k).points = s.points ∧ (announce s k).canvas = s.canvas ∧ (announce s k).can = s.can ∧
    (announce s k).nand = s.nand ∧ (announce s k).bkup = s.bkup := by
  refine ⟨?_, ?_, ?_, ?_, ?_, ?_, ?_, ?_, ?_, ?_, ?_, ?_, ?_, ?_, ?_, ?_, ?_, ?_, ?_, ?_, ?_, ?_, ?_⟩ <;>
    simp [announce]

@[simp] theorem announceAll_frame (s : State) :
    (announceAll s).pending = s.pending ∧ (announceAll s).clk = s.clk ∧ (announceAll s).cfg = s.cfg ∧ (announceAll
    s).nor = s.nor ∧ (announceAll s).quads = s.quads ∧ (announceAll s).engines = s.engines ∧ (announceAll s).fabric =
    s.fabric ∧ (announceAll s).gauze = s.gauze ∧ (announceAll s).power = s.power ∧ (announceAll s).dram = s.dram ∧
    (announceAll s).field = s.field ∧ (announceAll s).uai = s.uai ∧ (announceAll s).hart = s.hart ∧ (announceAll
    s).modems = s.modems ∧ (announceAll s).spare = s.spare ∧ (announceAll s).vib = s.vib ∧ (announceAll s).ao = s.ao ∧
    (announceAll s).disc = s.disc ∧ (announceAll s).points = s.points ∧ (announceAll s).canvas = s.canvas ∧
    (announceAll s).can = s.can ∧ (announceAll s).nand = s.nand ∧ (announceAll s).bkup = s.bkup := by
  refine ⟨?_, ?_, ?_, ?_, ?_, ?_, ?_, ?_, ?_, ?_, ?_, ?_, ?_, ?_, ?_, ?_, ?_, ?_, ?_, ?_, ?_, ?_, ?_⟩ <;>
    simp [announceAll]

@[simp] theorem setReady_frame (s : State) (fn idx : Nat) :
    (setReady s fn idx).pending = s.pending ∧ (setReady s fn idx).clk = s.clk ∧ (setReady s fn idx).cfg = s.cfg ∧
    (setReady s fn idx).nor = s.nor ∧ (setReady s fn idx).quads = s.quads ∧ (setReady s fn idx).engines = s.engines ∧
    (setReady s fn idx).fabric = s.fabric ∧ (setReady s fn idx).gauze = s.gauze ∧ (setReady s fn idx).power = s.power
    ∧ (setReady s fn idx).dram = s.dram ∧ (setReady s fn idx).field = s.field ∧ (setReady s fn idx).uai = s.uai ∧
    (setReady s fn idx).hart = s.hart ∧ (setReady s fn idx).modems = s.modems ∧ (setReady s fn idx).spare = s.spare ∧
    (setReady s fn idx).vib = s.vib ∧ (setReady s fn idx).ao = s.ao ∧ (setReady s fn idx).disc = s.disc ∧ (setReady s
    fn idx).points = s.points ∧ (setReady s fn idx).canvas = s.canvas ∧ (setReady s fn idx).can = s.can ∧ (setReady s
    fn idx).nand = s.nand ∧ (setReady s fn idx).bkup = s.bkup := by
  refine ⟨?_, ?_, ?_, ?_, ?_, ?_, ?_, ?_, ?_, ?_, ?_, ?_, ?_, ?_, ?_, ?_, ?_, ?_, ?_, ?_, ?_, ?_, ?_⟩ <;>
    simp [setReady]

@[simp] theorem setLost_frame (s : State) (fn idx : Nat) :
    (setLost s fn idx).pending = s.pending ∧ (setLost s fn idx).clk = s.clk ∧ (setLost s fn idx).cfg = s.cfg ∧
    (setLost s fn idx).nor = s.nor ∧ (setLost s fn idx).quads = s.quads ∧ (setLost s fn idx).engines = s.engines ∧
    (setLost s fn idx).fabric = s.fabric ∧ (setLost s fn idx).gauze = s.gauze ∧ (setLost s fn idx).power = s.power ∧
    (setLost s fn idx).dram = s.dram ∧ (setLost s fn idx).field = s.field ∧ (setLost s fn idx).uai = s.uai ∧ (setLost
    s fn idx).hart = s.hart ∧ (setLost s fn idx).modems = s.modems ∧ (setLost s fn idx).spare = s.spare ∧ (setLost s
    fn idx).vib = s.vib ∧ (setLost s fn idx).ao = s.ao ∧ (setLost s fn idx).disc = s.disc ∧ (setLost s fn idx).points
    = s.points ∧ (setLost s fn idx).canvas = s.canvas ∧ (setLost s fn idx).can = s.can ∧ (setLost s fn idx).nand =
    s.nand ∧ (setLost s fn idx).bkup = s.bkup := by
  refine ⟨?_, ?_, ?_, ?_, ?_, ?_, ?_, ?_, ?_, ?_, ?_, ?_, ?_, ?_, ?_, ?_, ?_, ?_, ?_, ?_, ?_, ?_, ?_⟩ <;>
    simp [setLost]

@[simp] theorem sendAlarm_frame (s : State) (ws : List Word) :
    (sendAlarm s ws).pending = s.pending ∧ (sendAlarm s ws).clk = s.clk ∧ (sendAlarm s ws).sys = s.sys ∧ (sendAlarm s
    ws).cfg = s.cfg ∧ (sendAlarm s ws).nor = s.nor ∧ (sendAlarm s ws).quads = s.quads ∧ (sendAlarm s ws).engines =
    s.engines ∧ (sendAlarm s ws).fabric = s.fabric ∧ (sendAlarm s ws).gauze = s.gauze ∧ (sendAlarm s ws).power =
    s.power ∧ (sendAlarm s ws).dram = s.dram ∧ (sendAlarm s ws).field = s.field ∧ (sendAlarm s ws).uai = s.uai ∧
    (sendAlarm s ws).hart = s.hart ∧ (sendAlarm s ws).modems = s.modems ∧ (sendAlarm s ws).spare = s.spare ∧
    (sendAlarm s ws).vib = s.vib ∧ (sendAlarm s ws).ao = s.ao ∧ (sendAlarm s ws).disc = s.disc ∧ (sendAlarm s
    ws).points = s.points ∧ (sendAlarm s ws).canvas = s.canvas ∧ (sendAlarm s ws).can = s.can ∧ (sendAlarm s ws).nand
    = s.nand ∧ (sendAlarm s ws).bkup = s.bkup := by
  refine ⟨?_, ?_, ?_, ?_, ?_, ?_, ?_, ?_, ?_, ?_, ?_, ?_, ?_, ?_, ?_, ?_, ?_, ?_, ?_, ?_, ?_, ?_, ?_, ?_⟩ <;>
    simp [sendAlarm]

@[simp] theorem captureDump_frame (s : State) (cause : BitVec 8) :
    (captureDump s cause).pending = s.pending ∧ (captureDump s cause).clk = s.clk ∧ (captureDump s cause).sys = s.sys
    ∧ (captureDump s cause).pins = s.pins ∧ (captureDump s cause).cfg = s.cfg ∧ (captureDump s cause).nor = s.nor ∧
    (captureDump s cause).quads = s.quads ∧ (captureDump s cause).engines = s.engines ∧ (captureDump s cause).fabric =
    s.fabric ∧ (captureDump s cause).gauze = s.gauze ∧ (captureDump s cause).power = s.power ∧ (captureDump s
    cause).dram = s.dram ∧ (captureDump s cause).field = s.field ∧ (captureDump s cause).uai = s.uai ∧ (captureDump s
    cause).hart = s.hart ∧ (captureDump s cause).modems = s.modems ∧ (captureDump s cause).spare = s.spare ∧
    (captureDump s cause).vib = s.vib ∧ (captureDump s cause).ao = s.ao ∧ (captureDump s cause).disc = s.disc ∧
    (captureDump s cause).points = s.points ∧ (captureDump s cause).alarms = s.alarms ∧ (captureDump s cause).call =
    s.call ∧ (captureDump s cause).panels = s.panels ∧ (captureDump s cause).canvas = s.canvas ∧ (captureDump s
    cause).ring = s.ring ∧ (captureDump s cause).can = s.can ∧ (captureDump s cause).nand = s.nand ∧ (captureDump s
    cause).linen = s.linen ∧ (captureDump s cause).bkup = s.bkup := by
  refine ⟨?_, ?_, ?_, ?_, ?_, ?_, ?_, ?_, ?_, ?_, ?_, ?_, ?_, ?_, ?_, ?_, ?_, ?_, ?_, ?_, ?_, ?_, ?_, ?_, ?_, ?_, ?_, ?_, ?_, ?_⟩ <;>
    simp [captureDump]

end Sys2Proof.Machine
end

