-- ==== Sys2Proof/Laws/Conditions.lean ====
section
/-! SUPPORT. SYSTEM conditions: what raising, clearing and announcing one does to all of them. -/

namespace Sys2Proof.Machine
open Sys2Proof

@[simp] theorem modGroup_sysc (s : State) (g : Nat) (f : GroupSt → GroupSt) : (s.modGroup g f).alarms.sysc = s.alarms.sysc := rfl

/-- An ALARM sent changes no SYSTEM condition. -/
@[simp] theorem alarmOut_sysc (s : State) (ws : List Word) : (alarmOut s ws).alarms.sysc = s.alarms.sysc := by
  have h1 : ∀ (s : State) (g : Nat), (refreshGroup s g).alarms.sysc = s.alarms.sysc := fun s g => by
    unfold refreshGroup; split <;> rfl
  have h2 : ∀ (s : State) (ws : List Word), (noteFirstOut s ws).alarms.sysc = s.alarms.sysc := fun s ws => by
    unfold noteFirstOut; dsimp only; split <;> rfl
  simp [alarmOut, alarmEffects, h1, h2]

/-- FLTn's update changes no SYSTEM condition. -/
@[simp] theorem fltUpdate_sysc (s : State) : (fltUpdate s).alarms.sysc = s.alarms.sysc := rfl

/-- A condition's event sets its own state and no other's. -/
theorem sysEvent_sysc (s : State) (k : Fin 64) (st : SysSt) (ev : Nat) :
    (sysEvent s k st ev).alarms.sysc = vmod s.alarms.sysc k fun c => { c with st := st, seq := nextTseq c.seq } := by
  simp only [sysEvent, fltUpdate_sysc, alarmOut_sysc]; rfl

/-- A condition's event decides whether it is active. -/
theorem sysEvent_active (s : State) (k : Fin 64) (st : SysSt) (ev : Nat) : sysActive (sysEvent s k st ev) k = st.active := by
  simp [sysActive, sysEvent_sysc]

/-- A condition's event leaves the others. -/
theorem sysEvent_active_ne (s : State) {k j : Fin 64} (st : SysSt) (ev : Nat) (h : j ≠ k) :
    sysActive (sysEvent s k st ev) j = sysActive s j := by
  simp [sysActive, sysEvent_sysc, vat_vmod_ne _ _ h]

/-- The time of a condition's last cause is no part of its state. -/
theorem sysRaise0_eq (s : State) (k : Fin 64) : ∃ u : State, (∀ j, sysActive u j = sysActive s j) ∧
    ((sysActive s k = false ∧ sysRaise0 s k = sysEvent u k .actUnack 1) ∨ (sysActive s k = true ∧ sysRaise0 s k = u)) := by
  refine ⟨s.modSys k fun c => { c with lastEvent := now s }, fun j => ?_, ?_⟩
  · by_cases h : j = k
    · subst h; simp [sysActive, State.modSys]
    · simp [sysActive, State.modSys, vat_vmod_ne _ _ h]
  · unfold sysRaise0
    simp only [sysActive, State.modSys, vat_vmod]
    cases h : (vat s.alarms.sysc k).st <;> simp [SysSt.active]

/-- A condition raised is active. -/
theorem sysRaise0_active (s : State) (k : Fin 64) : sysActive (sysRaise0 s k) k = true := by
  obtain ⟨u, hu, ⟨h, e⟩ | ⟨h, e⟩⟩ := sysRaise0_eq s k
  · rw [e, sysEvent_active]; rfl
  · rw [e, hu, h]

/-- Raising a condition leaves the others. -/
theorem sysRaise0_active_ne (s : State) {k j : Fin 64} (h : j ≠ k) : sysActive (sysRaise0 s k) j = sysActive s j := by
  obtain ⟨u, hu, ⟨_, e⟩ | ⟨_, e⟩⟩ := sysRaise0_eq s k
  · rw [e, sysEvent_active_ne _ _ _ h, hu]
  · rw [e, hu]

/-- What sending ends with leaves every condition active that was, and changes only the two of the queues. -/
theorem followUps_active {s0 s : State} {j : Fin 64} (h : sysActive s j = true) : sysActive (followUps s0 s) j = true := by
  have r : ∀ (t : State) (k : Fin 64), sysActive t j = true → sysActive (sysRaise0 t k) j = true := fun t k ht => by
    by_cases e : j = k
    · subst e; exact sysRaise0_active t j
    · rw [sysRaise0_active_ne t e, ht]
  unfold followUps; dsimp only
  split <;> split <;> simp_all

/-- What sending ends with changes only the two conditions of the queues (R438, R500). -/
theorem followUps_active_ne {s0 s : State} {j : Fin 64} (h1 : j ≠ 0x32) (h2 : j ≠ 0x3A) :
    sysActive (followUps s0 s) j = sysActive s j := by
  unfold followUps; dsimp only
  split <;> split <;> simp [sysRaise0_active_ne _ h1, sysRaise0_active_ne _ h2]

/-- A condition raised is active. -/
@[simp] theorem sysRaise_active (s : State) (k : Fin 64) : sysActive (sysRaise s k) k = true :=
  followUps_active (sysRaise0_active s k)

/-- Raising a condition leaves the others, but for the two of the queues. -/
theorem sysRaise_active_ne (s : State) {k j : Fin 64} (h : j ≠ k) (h1 : j ≠ 0x32) (h2 : j ≠ 0x3A) :
    sysActive (sysRaise s k) j = sysActive s j := by
  rw [sysRaise, followUps_active_ne h1 h2, sysRaise0_active_ne s h]

/-- A condition cleared is not active, unless sending its ALARM raised it again. -/
theorem sysClear_active (s : State) {k : Fin 64} (h1 : k ≠ 0x32) (h2 : k ≠ 0x3A) : sysActive (sysClear s k) k = false := by
  unfold sysClear
  cases h : (vat s.alarms.sysc k).st <;> simp [followUps_active_ne h1 h2, sysEvent_active, SysSt.active]
  all_goals simp [sysActive, h, SysSt.active]

/-- A condition set follows its cause. -/
theorem sysSet_active (s : State) {k : Fin 64} (on : Bool) (h1 : k ≠ 0x32) (h2 : k ≠ 0x3A) :
    sysActive (sysSet s k on) k = on := by
  unfold sysSet
  cases on
  · exact sysClear_active s h1 h2
  · by_cases h : sysActive s k = true <;> simp [h]

end Sys2Proof.Machine
end

