-- ==== Sys2Proof/Laws/Memory.lean ====
section
/-! SUPPORT. The memories: reads after writes, and the canonical form, which every memory operation keeps. -/

namespace Sys2Proof.Machine
open Sys2Proof

/-- A memory in form from an address is in form from every lower one. -/
theorem memWfFrom_mono {d : BitVec 8} {lo hi : Nat} (h : lo ≤ hi) : ∀ {m : Mem}, memWfFrom d hi m = true → memWfFrom d lo m = true
  | [], _ => rfl
  | (k, b) :: t, w => by simp [memWfFrom] at w ⊢; exact ⟨⟨by omega, w.1.2⟩, w.2⟩

/-- Below its lowest address a memory lists nothing. -/
theorem memGet_below {d : BitVec 8} : ∀ {m : Mem} {lo a : Nat}, memWfFrom d lo m = true → a < lo → memGet d m a = d
  | [], _, _, _, _ => rfl
  | (k, b) :: t, lo, a, w, h => by
    simp [memWfFrom] at w
    have : k ≠ a := by omega
    simp [memGet, this]
    exact memGet_below w.2 (by omega)

/-- A write keeps the form from any address not above the one written. -/
theorem memSet_wfFrom {d b : BitVec 8} : ∀ {m : Mem} {lo a : Nat}, memWfFrom d lo m = true → lo ≤ a →
    memWfFrom d lo (memSet d m a b) = true
  | [], lo, a, _, h => by
    by_cases hb : b = d <;> simp [memSet, memWfFrom, hb, h]
  | (k, c) :: t, lo, a, w, h => by
    simp only [memWfFrom, Bool.and_eq_true, decide_eq_true_eq] at w
    obtain ⟨⟨w1, w2⟩, w3⟩ := w
    by_cases h1 : k = a
    · by_cases hb : b = d
      · simp only [memSet, h1, hb, if_true]; exact memWfFrom_mono (by omega) w3
      · simp [memSet, h1, hb, memWfFrom, h]; rw [← h1]; exact w3
    · by_cases h2 : a < k
      · by_cases hb : b = d
        · simp [memSet, h1, h2, hb, memWfFrom, w1, w2, w3]
        · simp [memSet, h1, h2, hb, memWfFrom, h, w2, w3] <;> omega
      · simp [memSet, h1, h2, memWfFrom, w1, w2]
        exact memSet_wfFrom w3 (by omega)

/-- A write keeps the canonical form. -/
theorem memSet_wf {d b : BitVec 8} {m : Mem} {a : Nat} (w : Mem.wf d m = true) : Mem.wf d (memSet d m a b) = true :=
  memSet_wfFrom w (Nat.zero_le a)

/-- A word written keeps the canonical form. -/
theorem memSetWord_wf {d : BitVec 8} {m : Mem} {a : Nat} {w : Word} (h : Mem.wf d m = true) :
    Mem.wf d (memSetWord d m a w) = true := memSet_wf (memSet_wf (memSet_wf (memSet_wf h)))

/-- Words written keep the canonical form. -/
theorem memSetWords_wf {d : BitVec 8} : ∀ {ws : List Word} {m : Mem} {a : Nat}, Mem.wf d m = true →
    Mem.wf d (memSetWords d m a ws) = true
  | [], _, _, h => h
  | w :: ws, m, a, h => memSetWords_wf (ws := ws) (m := memSetWord d m a w) (a := a + 4) (memSetWord_wf h)

/-- Entries taken out keep the form. -/
theorem memFilter_wfFrom {d : BitVec 8} {p : Nat × BitVec 8 → Bool} : ∀ {m : Mem} {lo : Nat}, memWfFrom d lo m = true →
    memWfFrom d lo (m.filter p) = true
  | [], _, _ => rfl
  | e :: t, lo, w => by
    simp only [memWfFrom, Bool.and_eq_true, decide_eq_true_eq] at w
    have h3 := memFilter_wfFrom (p := p) w.2
    cases hp : p e
    · rw [List.filter_cons_of_neg (by simp [hp])]; exact memWfFrom_mono (by omega) h3
    · rw [List.filter_cons_of_pos hp]; simp [memWfFrom, w.1.1, w.1.2, h3]

/-- An erasure keeps the canonical form. -/
theorem memErase_wf {d : BitVec 8} {m : Mem} {a n : Nat} (w : Mem.wf d m = true) : Mem.wf d (memErase m a n) = true :=
  memFilter_wfFrom w

/-- The byte written reads back. -/
theorem memGet_memSet_from {d b : BitVec 8} : ∀ {m : Mem} {lo a : Nat}, memWfFrom d lo m = true →
    memGet d (memSet d m a b) a = b
  | [], _, a, _ => by by_cases hb : b = d <;> simp [memSet, memGet, hb]
  | (k, c) :: t, lo, a, w => by
    simp only [memWfFrom, Bool.and_eq_true, decide_eq_true_eq] at w
    by_cases h1 : k = a
    · by_cases hb : b = d
      · simp only [memSet, h1, hb, if_true]; exact memGet_below w.2 (by omega)
      · simp [memSet, h1, hb, memGet]
    · by_cases h2 : a < k
      · by_cases hb : b = d
        · simp [memSet, h1, h2, hb, memGet]; exact memGet_below w.2 (by omega)
        · simp [memSet, h1, h2, hb, memGet]
      · simp [memSet, h1, h2, memGet]; exact memGet_memSet_from w.2

/-- The byte written reads back. -/
theorem memGet_memSet {d b : BitVec 8} {m : Mem} {a : Nat} (w : Mem.wf d m = true) : memGet d (memSet d m a b) a = b :=
  memGet_memSet_from w

/-- Every other byte reads as before, in any memory. -/
theorem memGet_memSet_ne {d b : BitVec 8} : ∀ {m : Mem} {a k : Nat}, k ≠ a → memGet d (memSet d m a b) k = memGet d m k
  | [], a, k, h => by by_cases hb : b = d <;> simp [memSet, memGet, hb, Ne.symm h]
  | (j, c) :: t, a, k, h => by
    by_cases h1 : j = a
    · by_cases hb : b = d <;> simp [memSet, h1, hb, memGet, Ne.symm h]
    · by_cases h2 : a < j
      · by_cases hb : b = d <;> simp [memSet, h1, h2, hb, memGet, Ne.symm h]
      · simp only [memSet, h1, h2, memGet, if_false]; rw [memGet_memSet_ne h]

/-- The memories of the state after reset are in canonical form. -/
theorem reset_memories_wf : Mem.wf norByte State.reset.nor.bytes = true ∧ Mem.wf ramByte State.reset.dram.bytes = true :=
  ⟨rfl, rfl⟩

end Sys2Proof.Machine
end

