-- ==== Sys2Proof/Laws/Stores.lean ====
section
/-! SUPPORT. What an observation of a Damask link does, and what the tier logs and the trend archives keep. -/

namespace Sys2Proof.Machine
open Sys2Proof

/-- A link of which no onset is owed an observation stays as it is (R336). -/
theorem RootLink.observe_none (t : Nat) (l : RootLink) (h : l.waits = []) : l.observe t = l := by
  unfold RootLink.observe; rw [h]

/-- An observation that is due is counted, its hit shifted in, and is owed no more (R336). -/
theorem RootLink.observe_due (t : Nat) (l : RootLink) (w : RootOnset) (r : List RootOnset) (h : l.waits = w :: r)
    (d : w.at_ + 5000 ≤ t) :
    l.observe t =
      { l with obs := min 64 (l.obs + 1), history := (l.history <<< 1) ||| (if w.hit then 1 else 0), waits := r } := by
  unfold RootLink.observe; rw [h]; exact if_pos d

/-- An observation whose 5 s have not passed leaves the link as it is (R336). -/
theorem RootLink.observe_early (t : Nat) (l : RootLink) (w : RootOnset) (r : List RootOnset) (h : l.waits = w :: r)
    (d : t < w.at_ + 5000) : l.observe t = l := by
  unfold RootLink.observe; rw [h]; exact if_neg (by omega)

/-- An observation leaves the root. -/
@[simp] theorem RootLink.observe_root (t : Nat) (l : RootLink) : (l.observe t).root = l.root := by
  unfold RootLink.observe; split
  · rfl
  · split <;> rfl

@[simp] theorem tierLog_putLog (s : State) (trend : Bool) (l : List TierBlock) : tierLog (putLog s trend l) trend = l := by
  cases trend <;> rfl

@[simp] theorem tierLog_putLog_other (s : State) (trend : Bool) (l : List TierBlock) :
    tierLog (putLog s trend l) (!trend) = tierLog s (!trend) := by
  cases trend <;> rfl

@[simp] theorem putLog_main (s : State) (trend : Bool) (l : List TierBlock) :
    (putLog s trend l).nand.main = s.nand.main ∧ (putLog s trend l).nand.trends = s.nand.trends ∧
    (putLog s trend l).nand.perm = s.nand.perm ∧ (putLog s trend l).nand.badTable = s.nand.badTable := by
  cases trend <;> exact ⟨rfl, rfl, rfl, rfl⟩

/-- Archives that fit lose nothing (R505). -/
theorem trimTrends_fit (f room : Nat) (t : Tab Trend) (h : trendTotal t ≤ room) : trimTrends f room t = t := by
  cases f with
  | zero => rfl
  | succ f => unfold trimTrends; rw [if_pos h]

/-- Trimming takes entries out of archives and leaves every cache and every point's place. -/
theorem trimTrends_caches (f room : Nat) (t : Tab Trend) :
    (trimTrends f room t).map (fun e => (e.1, e.2.cache)) = t.map fun e => (e.1, e.2.cache) := by
  induction f generalizing t with
  | zero => rfl
  | succ f ih =>
    unfold trimTrends
    split
    · rfl
    · split
      · rfl
      · rw [ih]; simp [List.map_map, Function.comp_def]

end Sys2Proof.Machine
end

