-- ==== Sys2Proof/WellFormed.lean ====
section
/-! DEFINITION. Which commands are well formed: operands that the spec's own fields can hold. -/

namespace Sys2Proof

/-- A number of words that one Bereb request carries (R444, R449). -/
def countOk (n : Nat) : Bool := decide (1 ≤ n) && decide (n ≤ 360)

/-- A function of the list of R83. -/
def functionOk (fn : BitVec 8) : Bool := decide (1 ≤ fn.toNat) && decide (fn.toNat ≤ 11)

/-- A number of 32-bit words that one beat of a fabric port carries (R18). -/
def beatOk (n : Nat) : Bool := decide (1 ≤ n) && decide (n ≤ 4)

/-- A panel number that a PANELS entity can have (R113). -/
def panelOk (p : Fin 64) : Bool := decide (p.val < 48)

/-- A feature number of a channel (R227). -/
def featureOk (k : Nat) : Bool := decide (1 ≤ k) && decide (k ≤ 64)

/-- A mapped-receive entry of a controller (R482). -/
def mappedOk (e : Nat) : Bool := decide (1 ≤ e) && decide (e ≤ 512)

/-- A CAN frame's data fit its buffer: 64 bytes as 16 words (R472). -/
def frameOk (f : CanFrame) : Bool := decide (f.data.length ≤ 16)

/-- The words of one frame of a panel (R371). -/
def panelWordsOk (ws : List Word) : Bool := decide (ws.length ≤ 16)

/-- The operands are values that the spec's fields admit. -/
def Instr.wf (i : Instr) : Bool := match i with
  | .functionReady fn _ => functionOk fn
  | .fabricRequest _ _ w n _ _ => beatOk n && (match w with
    | some ws => beatOk ws.length
    | none => true)
  | .featureUpdate _ k => featureOk k
  | .featureStaleTimeout _ k => featureOk k
  | .mappedTimeout _ e => mappedOk e
  | .canFrameReceive _ f => frameOk f
  | .txRequest _ _ f => frameOk f
  | .panelAckFrame _ p ws => panelOk p && panelWordsOk ws
  | .panelSilenceFrame _ p ws => panelOk p && panelWordsOk ws
  | .panelRequestFrame _ p _ ws => panelOk p && panelWordsOk ws
  | .panelHeartbeat _ p ws => panelOk p && panelWordsOk ws
  | .panelLostTimeout _ p => panelOk p
  | .shelve _ _ m _ => decide (1 ≤ m.toNat)
  | .fwWindowWrite _ _ ws => countOk ws.length
  | .imageWindowWrite _ _ ws => countOk ws.length
  | .countWrite _ _ ws => countOk ws.length
  | .berebRead _ _ n => countOk n.toNat
  | .berebWrite _ _ ws => countOk ws.length
  | .berebSubscribe _ _ n _ => countOk n.toNat
  | .registerWrite _ _ ws => countOk ws.length
  | _ => true

end Sys2Proof
end

