-- ==== Sys2Proof/Tests/Slice0.lean ====
section
/-! SUPPORT. The model's own tests: each about one step on a small state; and, for every statement with hypotheses, states and
operands that meet them. -/

set_option Elab.async false

namespace Sys2Proof.Tests
open Sys2Proof Sys2Proof.Machine

/-- A field of one word, held as a pair. -/
def fieldOf (w : Word) : FieldVal := { ws := [w], cs := [~~~w] }

/-- An entity with these fields. -/
def entOf (l : List (Nat × Word)) : Ent := { fields := l.map fun x => (x.1, fieldOf x.2) }

/-- A section with these entities. -/
def sectOf (top : List (Nat × Word)) (l : List (Nat × Ent)) : Sect := { top := entOf top, ents := l }

/-- A configuration with an analogue loop, a vibration channel, a frequency input, a thermocouple, outputs, a digital input, a
point, a panel and one host at Service level. -/
def config : Tab Sect := [
  (1, sectOf [(3, 100)] []),
  (2, { ents := [(0, { fields := [(1, { ws := [0, 1] }), (2, { ws := [3] })] })] }),
  (3, { top := { fields := [(1, { ws := [0, 2] }), (2, { ws := [0x100, 9] })] } }),
  (4, sectOf [(1, 0), (4, 0)] []),
  (5, sectOf [] [(0, entOf [(0x20, 7)]), (1, entOf [(0x20, 8)]), (5, entOf [(0x20, 5), (0x34, 0), (0x35, 1)]),
    (16, entOf [(0x40, 1)]), (20, entOf [(0x60, 1)]), (36, entOf [(0x80, 1), (0x87, 2)]), (37, entOf [(0x80, 1), (0x87, 1)])]),
  (7, sectOf [] [(7, entOf [(3, 3), (5, 1)])]),
  (8, sectOf [] [(7, entOf [(0x13, 1)])]),
  (9, sectOf [] [(1, entOf [(3, 1)])]),
  (11, sectOf [(8, 300)] [(0, {}), (1, {})]),
  (12, sectOf [] [(0, {}), (1, {})]),
  (13, sectOf [] [(3, entOf [(1, 0)]), (4, entOf [(1, 2), (3, 0)])]),
  (15, sectOf [] []),
  (16, sectOf [] []),
  (17, sectOf [] [(0, entOf [(8, 7), (9, 60)]), (1, entOf [(0x20, 5)]), (2, {}), (0x10000, entOf [(0xB, 1)])]),
  (18, sectOf [] [(0, {})])]

/-- A function that is READY. -/
def readyFn : FnState := { ready := true, announced := true, everReady := true, readyAt := 0 }

/-- A node in service: everything configured is READY, the field die runs, the quads run, a point has been evaluated. -/
def site : State :=
  let r := State.reset
  { r with
    clk := { r.clk with now := 2000000 }
    sys := { r.sys with held := false, phase := .complete, msSince := 40000
                        fns := [0x100, 0x200, 0x300, 0x400, 0x401, 0x405, 0x410, 0x414, 0x424, 0x425, 0x501, 0x600, 0x700, 0x800, 0x900,
                          0xA00, 0xB00].map fun k => (k, readyFn) }
    cfg := { r.cfg with absent := false, fwLoaded := true, phasesDone := 3, run := config, work := config }
    nor := { r.nor with mib := 64 }
    quads := r.quads.map fun q => { q with st := .run, pllLock := true }
    field := { r.field with running := true, suppliesOn := true, linkSynced := true, band := .normal }
    points := [(7, { evaluated := true })]
    canvas := { r.canvas with duty := { r.canvas.duty with seg := Vector.replicate 32 0, call := 0 }
                              segTaken := Vector.replicate 32 (some 0) }
    call := { r.call with holds := true, onRota := 3, duty := 0 }
    linen := { r.linen with st := .inService }
    nand := { r.nand with targets := 1, gib0 := 16 }
    bkup := { r.bkup with onVbat := false, valid := true, timeKnown := true, quality := .held, seconds := 100 }
    ring := { r.ring with ports := r.ring.ports.map fun p => { p with st := .up } } }

/-- The host of the configuration. -/
def host : Req := ⟨1, 7⟩

/-- A request of that host. -/
def hostRq : Rq := ⟨1, 7, 0, false⟩

/-- A change of the port state of port p. -/
def portAs (p : Fin 20) (f : Port → Port) : State := { site with field := { site.field with ports := vmod site.field.ports p f } }

/-- UAI 0's port conducts, and its HART channel is free to speak. -/
def hartFree : State := portAs 0 fun x => { x with st := .passive }

/-- UAI 5's zero button, DI 0, has been let go after 3 s, and the channel has no other button. -/
def pressed : State :=
  { site with cfg := { site.cfg with run := [(5, sectOf [] [(5, entOf [(0x20, 5), (0x34, 0)])])] } }.modDi 0 fun d =>
    { d with press := some (0, 30000000), pressDone := false }

/-- The node with the quads in a state. -/
def quadsIn (x : QuadState) : State := { site with quads := site.quads.map fun q => { q with st := x } }

/-- The node with the point's record changed. -/
def pointAs (f : LocalPt → LocalPt) : State := { site with points := [(7, f { evaluated := true })] }

/-- A point with a delay timer running. -/
def pointRunning : LocalPt :=
  { evaluated := true, alarm := { conds := Vector.replicate 7 { raw := true, running := true } } }

/-- A point whose suppression's release delay is over. -/
def pointReleased : LocalPt := { evaluated := true, alarm := { own := { relEnd := some 0 } } }

/-- A point suppressed by a source that is not usable for longer than 60 s. -/
def pointHeld : LocalPt := { evaluated := true, alarm := { own := { supp := true, heldAt := some 0 } } }

/-- A point whose shelving is over. -/
def pointShelved : LocalPt := { evaluated := true, alarm := { shelved := true } }

/-- A point with a candidate root whose oldest onset is owed an observation. -/
def rootOwed : LocalPt :=
  { evaluated := true, alarm := { roots := [{ root := 8, obs := 64, history := 5, waits := [{ hit := true }, { at_ := 9 }] }] } }

/-- The node with one trend block in use. -/
def trendsOf (block : Nat) : State := { site with nand := { site.nand with trendLog := [{ id := block, pages := 7 }] } }

/-- The node with a mapped-receive entry. -/
def withMap : State :=
  { site with cfg := { site.cfg with run := [(12, sectOf [] [(0, {}), (1, {})])] } }

/-- The node with the call state changed. -/
def callAs (f : Call → Call) : State := site.modCall f

/-- In MANNED, an alarm has stood unacknowledged since the beginning. -/
def standing : State :=
  let s := { pointAs (fun l => l) with alarms := { site.alarms with sysc := vmod site.alarms.sysc 0x06 fun c => { c with st := .actUnack } } }
  let v := (callables s).headD ⟨0, 0, 0, 0, 0, false⟩
  s.modCall fun c => { c with mannedSince := [((v.subject, v.cond), 0)] }

/-- In UMS, an alarm stands. -/
def umsNode : State := standing.modCall fun c => { c with ums := true, mannedSince := [] }

/-- The node with the firmware load in a state. -/
def fwIn (x : FwState) : State := site.modFw fun f => { f with st := x }

/-- A frame of another node for a third. -/
def aFrame : RingFrame :=
  { fcsOk := true, src := 5, dst := 6, tagged := true, hsrSeq := 1, kind := .other, bytes := 64, idle := true, occ := 0, occPort := 0 }

/-- A frame has been seen on the ring and delivered. -/
def seen : State :=
  { site with ring := { site.ring with dups := [{ mac := 5, seq := 1, at_ := 2000000, sentA := true, sentB := true, delivered := true }] } }

/-- Node 5 is bound to its address. -/
def bound9 : State := { site with ring := { site.ring with bindings := [(5, 9)] } }

/-- The node with CAN-A changed. -/
def canAs (f : CanCtl → CanCtl) : State := site.modCan 0 f

/-- The node with the NOR interface changed. -/
def norAs (f : Nor → Nor) : State := { site with nor := f site.nor }

/-- The node with the history changed. -/
def linenAs (f : Linen → Linen) : State := { site with linen := f site.linen }

/-- A record is staged. -/
def staging : State := linenAs fun l => { l with staged := [{ seq := some 0 }] }

/-- The host owns cursor 7, whose window is being filled. -/
def mine : State := site.modCursor 7 fun k => { k with owned := true, mac := 1, sess := 7, busy := true }

/-- The host takes the dumps. -/
def feeding : State := { site with ring := { site.ring with subs := [{ mac := 1, sess := 7, addr := 0x90100023, count := 1 }] } }

/-- A WRITE_ACK of node 5 to this node. -/
def goodReply : List Word :=
  let a : Word := 0x15200000
  let b : Word := 0x05000000
  let h : List Word := [a, b, 0, 0, 0, 0, ~~~a, ~~~b]
  h ++ [crc32c (wordBytes h)]

/-- Node 5 is bound, and a WRITE to it is outstanding. -/
def bound9reply : State := { bound9 with ring := { bound9.ring with outstanding := [(0, 0x12)] } }

/-- What StepRunsFront assumes is met. -/
theorem witness_StepRunsFront :
    (∃ (s t : State), step s = .next t) ∧
    (∃ (s : State), s.pending = []) :=
  ⟨⟨{ State.reset with pending := [.opMsIncrement] }, State.reset, rfl⟩,
    ⟨site, rfl⟩⟩

/-- What StartAndReset assumes is met. -/
theorem witness_StartAndReset :
    (∃ (_mib : Option Nat) (s : State), s.sys.held = true) ∧
    (∃ (_cause : BitVec 2) (_cut : Option Nat) (s : State), up s = true) ∧
    (∃ (phase : Fin 3) (s : State), up s = true ∧ s.cfg.phasesDone = phase.val) :=
  ⟨⟨none, State.reset, by decide +kernel⟩,
    ⟨0, none, site, by decide +kernel⟩,
    ⟨0, { site with cfg := { site.cfg with phasesDone := 0 } }, by decide +kernel⟩⟩

/-- What FunctionsBecomeReady assumes is met. -/
theorem witness_FunctionsBecomeReady :
    (∃ (fn : BitVec 8) (idx : BitVec 16) (s : State), up s = true ∧ (fnConfigured s).contains (fnKey fn.toNat idx.toNat) = true ∧ idx.toNat < 256 ∧ fnReady s fn.toNat idx.toNat = false ∧ fnCond s fn.toNat idx.toNat = true) ∧
    (∃ (s : State), up s = true ∧ s.sys.deadlinePassed = false ∧ (cfgIdReadyDeadline s).toNat ≤ s.sys.msSince.toNat) ∧
    (∃ (s : State), up s = true ∧ fnReady s 1 0 = true ∧ fnReady s 9 0 = false ∧ s.cfg.absent = false ∧ s.sys.snapAwait = [] ∧ s.sys.snapAgain = []) ∧
    (∃ (n : Fin 64) (s : State), up s = true ∧ s.sys.snapAwait.contains n.val = true) ∧
    (∃ (n : Fin 64) (s : State), up s = true ∧ s.sys.snapAwait.contains n.val = false ∧ s.sys.snapAgain.contains n.val = true) :=
  ⟨⟨1, 0, site.modFn 0x100 fun f => { f with ready := false }, by decide +kernel⟩,
    ⟨{ site with sys := { site.sys with phase := .part } }, by decide +kernel⟩,
    ⟨site.modFn 0x900 fun f => { f with ready := false }, by decide +kernel⟩,
    ⟨3, { site with sys := { site.sys with snapAwait := [3] } }, by decide +kernel⟩,
    ⟨3, { site with sys := { site.sys with snapAgain := [3] } }, by decide +kernel⟩⟩

/-- What FieldDieAndSupply assumes is met. -/
theorem witness_FieldDieAndSupply :
    (∃ (s : State), s.field.running = false) ∧
    (∃ (s : State), s.field.running = true) ∧
    (∃ (s : State), up s = true) ∧
    (∃ (mv : Nat) (s : State), s.field.running = true ∧ s.field.suppliesOn = false ∧ (bandOf mv).off = false ∧ (if s.field.offHigh then mv < 34000 else 17000 < mv)) ∧
    (∃ (s : State), s.field.band.low = false) :=
  ⟨⟨State.reset, by decide +kernel⟩,
    ⟨site, by decide +kernel⟩,
    ⟨site, by decide +kernel⟩,
    ⟨20000, { site with field := { site.field with suppliesOn := false } }, by decide +kernel⟩,
    ⟨site, by decide +kernel⟩⟩

/-- What EnergyLimitedPorts assumes is met. -/
theorem witness_EnergyLimitedPorts :
    (∃ (p : Fin 20) (_cause : TripCause) (s : State), (portAt s p).st = .slOn) ∧
    (∃ (p : Fin 20) (_cause : TripCause) (s : State), (portAt s p).st = .slProbing ∧ (portAt s p).ramping = true) ∧
    (∃ (p : Fin 20) (s : State), (portAt s p).st = .slTripped ∧ probeDue s (portAt s p) = true) ∧
    (∃ (p : Fin 20) (s : State), (portAt s p).st = .slProbing ∧ (portAt s p).probing = false ∧ (portAt s p).ramping = false) ∧
    (∃ (p : Fin 20) (_ua _mv _pf : Nat) (s : State), (portAt s p).st = .slProbing ∧ (portAt s p).probing = true) ∧
    (∃ (p : Fin 20) (_ua _mv _pf : Nat) (s : State), (portAt s p).st = .slProbing ∧ (portAt s p).probing = true) ∧
    (∃ (p : Fin 20) (s : State), (portAt s p).st = .slProbing ∧ (portAt s p).ramping = true) ∧
    (∃ (p : Fin 20) (s : State), (portAt s p).st = .slOn ∨ (portAt s p).st = .slTripped) ∧
    (∃ (p : Fin 20) (s : State), (portAt s p).st = .passive ∨ (portAt s p).st = .lockedPassive) ∧
    (∃ (p : Fin 20) (s : State), (portAt s p).st = .foldback) ∧
    (∃ (p : Fin 20) (_held : Bool) (s : State), (portAt s p).st = .foldback ∧ (portAt s p).retrying = true) ∧
    (∃ (p : Fin 20) (_ok : Bool) (r : Req) (s : State), may s r 2 = true ∧ chanReady s p.val = true) ∧
    (∃ (p : Fin 20) (_termMv _ua _headMv : Nat) (s : State), (portAt s p).st ≠ .off) :=
  ⟨⟨2, .powerLimit, portAs 2 fun x => { x with st := .slOn }, by decide +kernel⟩,
    ⟨2, .powerLimit, portAs 2 fun x => { x with st := .slProbing, ramping := true }, by decide +kernel⟩,
    ⟨2, portAs 2 fun x => { x with st := .slTripped }, by decide +kernel⟩,
    ⟨2, portAs 2 fun x => { x with st := .slProbing }, by decide +kernel⟩,
    ⟨2, 30, 2000, 100, portAs 2 fun x => { x with st := .slProbing, probing := true }, by decide +kernel⟩,
    ⟨2, 30, 2000, 100, portAs 2 fun x => { x with st := .slProbing, probing := true }, by decide +kernel⟩,
    ⟨2, portAs 2 fun x => { x with st := .slProbing, ramping := true }, by decide +kernel⟩,
    ⟨2, portAs 2 fun x => { x with st := .slTripped }, by decide +kernel⟩,
    ⟨2, portAs 2 fun x => { x with st := .lockedPassive }, by decide +kernel⟩,
    ⟨2, portAs 2 fun x => { x with st := .foldback }, by decide +kernel⟩,
    ⟨2, true, portAs 2 fun x => { x with st := .foldback, retrying := true }, by decide +kernel⟩,
    ⟨0, true, host, site, by decide +kernel⟩,
    ⟨2, 12000, 8000, 1000, portAs 2 fun x => { x with st := .passive }, by decide +kernel⟩⟩

/-- What IsolationLinkAndFelt assumes is met. -/
theorem witness_IsolationLinkAndFelt :
    (∃ (_ok : Bool) (_ch : Fin 16) (_a _b : Word) (_x : List Nat) (_y _z : List Int) (s : State), s.field.running = true ∧ linkReady s = true) ∧
    (∃ (s : State), linkReady s = true) ∧
    (∃ (_out : Fin 12) (_a _b : Word) (s : State), s.field.running = true ∧ linkReady s = true) ∧
    (∃ (_out : Fin 12) (_a _b : Word) (s : State), s.field.running = true ∧ linkReady s = true) ∧
    (∃ (out : Fin 12) (s : State), s.field.running = true ∧ (feltAt s out).started = true ∧ (feltAt s out).timedOut = false) ∧
    (∃ (s : State), s.field.running = true ∧ linkReady s = true) :=
  ⟨⟨true, 0, 5, 0xFFFFFFFA, [], [], [], site, by decide +kernel⟩,
    ⟨site, by decide +kernel⟩,
    ⟨0, 5, 0xFFFFFFFA, site, by decide +kernel⟩,
    ⟨0, 5, 0xFFFFFFFA, site, by decide +kernel⟩,
    ⟨0, site.modFelt 0 fun x => { x with cmd := some (Pair.mk0 5), safe := some (Pair.mk0 0), started := true }, by decide +kernel⟩,
    ⟨site, by decide +kernel⟩⟩

/-- What QuadStates assumes is met. -/
theorem witness_QuadStates :
    (∃ (q : Fin 4) (s : State), up s = true ∧ (quadAt s q).st = .off) ∧
    (∃ (q : Fin 4) (s : State), up s = true ∧ (quadAt s q).st = .reset ∧ s.cfg.fwLoaded = true) ∧
    (∃ (q : Fin 4) (s : State), up s = true ∧ (quadAt s q).st = .reset ∧ s.cfg.fwLoaded = true) ∧
    (∃ (q : Fin 4) (s : State), up s = true ∧ (quadAt s q).st = .sleep ∨ (quadAt s q).st = .run) ∧
    (∃ (q : Fin 4) (tick : Nat) (s : State), up s = true ∧ (quadAt s q).st = .run ∧ (quadAt s q).running = [] ∧ s.gauze.wakes.getLsbD q.val = false ∧ s.gauze.slotsA.toList.any (slotWithin q tick) = false ∧ s.gauze.slotsB.toList.any (slotWithin q tick) = false) ∧
    (∃ (q : Fin 4) (s : State), up s = true ∧ (quadAt s q).st.counts = true) ∧
    (∃ (q : Fin 4) (s : State), up s = true ∧ (quadAt s q).st ≠ .off) ∧
    (∃ (q : Fin 4) (s : State), up s = true ∧ (quadAt s q).st = .failed ∧ (quadAt s q).faultAt + 600000 ≤ now s) ∧
    (∃ (r : Req) (q : Fin 4) (s : State), may s r 3 = true ∧ (quadAt s q).st = .failed ∨ (quadAt s q).st = .off) ∧
    (∃ (q : Fin 4) (s : State), up s = true ∧ (quadAt s q).st = .update) :=
  ⟨⟨0, quadsIn .off, by decide +kernel⟩,
    ⟨0, quadsIn .reset, by decide +kernel⟩,
    ⟨0, quadsIn .reset, by decide +kernel⟩,
    ⟨0, quadsIn .sleep, by decide +kernel⟩,
    ⟨0, 0, site, by decide +kernel⟩,
    ⟨3, site, by decide +kernel⟩,
    ⟨3, site, by decide +kernel⟩,
    ⟨0, quadsIn .failed, by decide +kernel⟩,
    ⟨host, 0, quadsIn .failed, by decide +kernel⟩,
    ⟨0, quadsIn .update, by decide +kernel⟩⟩

/-- What FabricRequests assumes is met. -/
theorem witness_FabricRequests :
    (∃ (src _tgt : FabUnit) (_w : Option (List Word)) (_n _addr : Nat) (_acc : Bool) (s : State), up s = true ∧ unitGone s src = false) ∧
    (∃ (id : Nat) (r : FabReq) (s : State), up s = true ∧ (s.fabric.out.find? fun r => decide (r.id = id)) = some r) ∧
    (∃ (id : Nat) (r : FabReq) (q : Fin 4) (s : State), up s = true ∧ (s.fabric.out.find? fun r => decide (r.id = id) && r.accepted && !r.done) = some r ∧ r.tgt = .quad q ∧ (quadAt s q).st.counts = true) ∧
    (∃ (_src _tgt : FabUnit) (_addr : Nat) (s : State), up s = true) :=
  ⟨⟨.link, .quad 3, some [5], 1, 64, true, site, by decide +kernel⟩,
    ⟨4, { id := 4 }, { site with fabric := { site.fabric with out := [{ id := 4 }] } }, by decide +kernel⟩,
    ⟨4, { id := 4, tgt := .quad 1, accepted := true }, 1, { site with fabric := { site.fabric with out := [{ id := 4, tgt := .quad 1, accepted := true }] } }, by decide +kernel⟩,
    ⟨.link, .dram, 0, site, by decide +kernel⟩⟩

/-- What IntegrityErrors assumes is met. -/
theorem witness_IntegrityErrors :
    (∃ (_e : Fin 16) (_addr : Nat) (s : State), up s = true) ∧
    (∃ (_e : Fin 16) (_addr : Nat) (s : State), up s = true) ∧
    (∃ (q : Fin 4) (_addr : Nat) (s : State), up s = true ∧ (quadAt s q).st.counts = true) ∧
    (∃ (e : Fin 16) (_addr : Nat) (s : State), up s = true ∧ (quadAt s (quadOf e)).st.counts = true) ∧
    (∃ (_addr : Nat) (s : State), up s = true) ∧
    (∃ (addr : Nat) (s : State), up s = true ∧ 0x08000000 ≤ addr % 2 ^ 32) ∧
    (∃ (_addr : Nat) (s : State), up s = true) ∧
    (∃ (s : State), up s = true) ∧
    (∃ (_q : Fin 4) (s : State), up s = true) ∧
    (∃ (n : Nat) (_ups : List Word) (task : Task) (e : Fin 16) (s : State), up s = true ∧ tget s.canvas.tasks n = some task ∧ task.standby = some e ∧ task.pinned = none ∧ 100 ≤ task.scan ∧ sameFirmware s task.primary e = true) ∧
    (∃ (n : Nat) (_ups : List Word) (task : Task) (e x : Fin 16) (s : State), up s = true ∧ tget s.canvas.tasks n = some task ∧ task.primary = some e ∧ thirdEngine s task = some x ∧ task.owed.isSome = true) :=
  ⟨⟨3, 0, site, by decide +kernel⟩,
    ⟨3, 0, site, by decide +kernel⟩,
    ⟨2, 0, site, by decide +kernel⟩,
    ⟨3, 64, site, by decide +kernel⟩,
    ⟨64, site, by decide +kernel⟩,
    ⟨0x08000000, site, by decide +kernel⟩,
    ⟨64, site, by decide +kernel⟩,
    ⟨site, by decide +kernel⟩,
    ⟨2, site, by decide +kernel⟩,
    ⟨7, [], { primary := some 0, standby := some 4, scan := 100 }, 4, { site with canvas := { site.canvas with tasks := [(7, { primary := some 0, standby := some 4, scan := 100 })] } }, by decide +kernel⟩,
    ⟨7, [], { primary := some 0, standby := some 4, owed := some .paths }, 0, 8, { site with canvas := { site.canvas with tasks := [(7, { primary := some 0, standby := some 4, owed := some .paths })] } }, by decide +kernel⟩⟩

/-- What GauzeAndPower assumes is met. -/
theorem witness_GauzeAndPower :
    (∃ (k : Fin 256) (tick : Nat) (xa xb : BitVec 27) (s : State), up s = true ∧ (slotDue (slotRead (vat s.gauze.slotsA k) xa) tick = true ∨ slotDue (slotRead (vat s.gauze.slotsB k) xb) tick = true)) ∧
    (∃ (s : State), up s = true) ∧
    (∃ (e : Fin 16) (k : BitVec 2) (s : State), up s = true ∧ (engineAt s e).nextStep = some k) ∧
    (∃ (r : Req) (_w : Word) (s : State), may s r 2 = true) ∧
    (∃ (s : State), up s = true ∧ powerEff (notePower s) ≠ s.power.eff) :=
  ⟨⟨255, 10, 0, 0, { site with gauze := { site.gauze with slotsA := site.gauze.slotsA.map fun e => { e with cls := 0, offset := 10 } } }, by decide +kernel⟩,
    ⟨site, by decide +kernel⟩,
    ⟨15, 2, site.modEngine 15 fun e => { e with nextStep := some 2 }, by decide +kernel⟩,
    ⟨host, 1, site, by decide +kernel⟩,
    ⟨{ site with power := { site.power with station := 1 } }, by decide +kernel⟩⟩

/-- What InputSamples assumes is met. -/
theorem witness_InputSamples :
    (∃ (ch : Fin 16) (_m : Meas) (s : State), s.field.running = true ∧ bits (uaiAt s ch).mode 3 0 ≠ 0) ∧
    (∃ (ch : Fin 16) (s : State), s.field.running = true ∧ (uaiAt s ch).sent = true) ∧
    (∃ (ch : Fin 16) (s : State), s.field.running = true ∧ (diAt s ch).loaded = true) ∧
    (∃ (ch : Fin 16) (_ohms : Nat) (s : State), s.field.running = true ∧ bits (uaiAt s ch).mode 3 0 = 5) ∧
    (∃ (c : Fin 16) (_refs : List (Fin 3 × Int)) (_diffs : List Int) (s : State), s.field.running = true ∧ s.spare.fail = false ∧ s.spare.at_ = some c ∧ s.spare.phase = 1) ∧
    (∃ (c : Fin 16) (_refs : List (Fin 3 × Int)) (_diffs : List Int) (s : State), s.field.running = true ∧ s.spare.fail = false ∧ s.spare.at_ = some c ∧ s.spare.phase = 2) ∧
    (∃ (s : State), linkReady s = true) :=
  ⟨⟨15, ⟨0x40A00000, ⟨0, 0, 0⟩, ⟨0, 0, 0⟩, 0, false, 0, 0, 0, 0⟩, site.modUai 15 fun u => { u with mode := 1 }, by decide +kernel⟩,
    ⟨15, site.modUai 15 fun u => { u with sent := true }, by decide +kernel⟩,
    ⟨15, site.modDi 15 fun d => { d with loaded := true }, by decide +kernel⟩,
    ⟨5, 20001, site.modUai 5 fun u => { u with mode := 5 }, by decide +kernel⟩,
    ⟨0, [], [], { site with spare := { site.spare with at_ := some 0, phase := 1 } }, by decide +kernel⟩,
    ⟨0, [], [], { site with spare := { site.spare with at_ := some 0, phase := 2 } }, by decide +kernel⟩,
    ⟨site, by decide +kernel⟩⟩

/-- What Trimming assumes is met. -/
theorem witness_Trimming :
    (∃ (r : Req) (ch : Fin 16) (s : State), may s r 2 = true ∧ chanReady s ch.val = true ∧ (uaiAt s ch).trimBusy = none) ∧
    (∃ (r : Req) (ch : Fin 16) (s : State), may s r 2 = true ∧ chanReady s ch.val = true ∧ (uaiAt s ch).trimBusy = none) ∧
    (∃ (r : Req) (ch : Fin 16) (s : State), may s r 2 = true ∧ chanReady s ch.val = true) ∧
    (∃ (ch : Fin 16) (k : TrimKind) (_x : Word) (s : State), up s = true ∧ (uaiAt s ch).trimBusy = some k ∧ (uaiAt s ch).trimAt + 2000 ≤ now s) ∧
    (∃ (ch n : Fin 16) (span : Bool) (a b : BitVec 64) (s : State), chanReady s ch.val = true ∧ (if span then cfgUaiTrimSpanDi s ch.val else cfgUaiTrimZeroDi s ch.val).toNat = n.val ∧ (diAt s n).press = some (a, b) ∧ (diAt s n).pressDone = false ∧ 16 ≤ (if span then cfgUaiTrimZeroDi s ch.val else cfgUaiTrimSpanDi s ch.val).toNat) :=
  ⟨⟨host, 0, site, by decide +kernel⟩,
    ⟨host, 0, site, by decide +kernel⟩,
    ⟨host, 0, site, by decide +kernel⟩,
    ⟨0, .zero, 0, site.modUai 0 fun u => { u with trimBusy := some .zero }, by decide +kernel⟩,
    ⟨5, 0, false, 0, 30000000, pressed, by decide +kernel⟩⟩

/-- What HartTransactions assumes is met. -/
theorem witness_HartTransactions :
    (∃ (c : Fin 20) (k : Fin 4) (s : State), modemOf s c = some k ∧ modemNext s k = some c ∧ (vat s.modems k).active = none) ∧
    (∃ (c : Fin 20) (k : Fin 4) (s : State), up s = true ∧ modemBusy s c = some k ∧ hartSuspended s c = false ∧ (hartAt s c).retries < 2) ∧
    (∃ (c : Fin 20) (k : Fin 4) (s : State), up s = true ∧ modemBusy s c = some k ∧ hartSuspended s c = false ∧ 2 ≤ (hartAt s c).retries) ∧
    (∃ (c : Fin 20) (k : Fin 4) (s : State), up s = true ∧ modemBusy s c = some k ∧ hartSuspended s c = true) ∧
    (∃ (c : Fin 20) (k : Fin 4) (_x : HartResp) (_o : Bool) (s : State), up s = true ∧ modemBusy s c = some k ∧ (hartAt s c).cmd = 0) ∧
    (∃ (_k : Fin 4) (_pass : Bool) (s : State), s.field.running = true) ∧
    (∃ (r : Req) (c : Fin 20) (s : State), may s r 2 = true ∧ chanReady s c.val = true ∧ (hartAt s c).st ≠ .off) ∧
    (∃ (c : Fin 20) (s : State), (hartAt s c).otherMaster = true ∧ (hartAt s c).otherAt + 600000 ≤ now s) :=
  ⟨⟨0, 0, hartFree, by decide +kernel⟩,
    ⟨0, 2, (hartFree.modModem 2 fun m => { m with active := some 0 }), by decide +kernel⟩,
    ⟨0, 2, ((hartFree.modModem 2 fun m => { m with active := some 0 }).modHart 0 fun h => { h with retries := 2 }), by decide +kernel⟩,
    ⟨0, 2, (site.modModem 2 fun m => { m with active := some 0 }), by decide +kernel⟩,
    ⟨0, 2, ⟨0, 0, 1, 2, 0, [], [], []⟩, false, (hartFree.modModem 2 fun m => { m with active := some 0 }), by decide +kernel⟩,
    ⟨3, false, site, by decide +kernel⟩,
    ⟨host, 0, site.modHart 0 fun h => { h with st := .polling }, by decide +kernel⟩,
    ⟨19, site.modHart 19 fun h => { h with otherMaster := true }, by decide +kernel⟩⟩

/-- What LoopOutputs assumes is met. -/
theorem witness_LoopOutputs :
    (∃ (n : Fin 4) (_ma _volts : Word) (_cap : Bool) (_upset : Word) (s : State), s.field.running = true ∧ linkReady s = true ∧ bits (feltAt s (aoOut n)).mode 3 0 ≠ 0) ∧
    (∃ (n : Fin 4) (_ma : Word) (_cap : Bool) (s : State), s.field.running = true ∧ linkReady s = true ∧ aoSource s n = true ∧ (aoAt s n).openTest = true ∧ fLt (aoAt s n).applied f1 = true ∧ (aoRank s n).1.dead = false) ∧
    (∃ (r : Req) (o : Fin 12) (s : State), may s r 2 = true ∧ chanReady s (outChan o) = true ∧ manualOk o (manualPair s o) = true) ∧
    (∃ (r : Req) (o : Fin 12) (s : State), may s r 2 = true ∧ chanReady s (outChan o) = true ∧ manualOk o (manualPair s o) = false) ∧
    (∃ (r : Req) (o : Fin 12) (s : State), may s r 2 = true ∧ chanReady s (outChan o) = true) ∧
    (∃ (r : Req) (o : Fin 12) (v : Pair) (s : State), may s r 2 = true ∧ chanReady s (outChan o) = true ∧ v.ok = true) ∧
    (∃ (o : Fin 12) (s : State), up s = true ∧ inManual s o = true ∧ (if h : o.val < 4 then (aoAt s ⟨o.val, h⟩).manualAt else (doAt s ⟨o.val - 4, by omega⟩).manualAt) + 1800000 ≤ now s) :=
  ⟨⟨0, 0x41200000, 0x41200000, false, 0, site.modFelt 0 fun x => { x with mode := 1 }, by decide +kernel⟩,
    ⟨0, 0, true, ((portAs 16 fun x => { x with st := .passive }).modFelt 0 fun x => { x with mode := 1, safe := some (Pair.mk0 0), cmd := some (Pair.mk0 0), started := true }).modAo 0 fun a => { a with openTest := true }, by decide +kernel⟩,
    ⟨host, 0, site.modAo 0 fun a => { a with manualMa := Pair.mk0 0x41200000 }, by decide +kernel⟩,
    ⟨host, 0, site.modAo 0 fun a => { a with manualMa := Pair.mk0 0x7FC00000 }, by decide +kernel⟩,
    ⟨host, 0, site, by decide +kernel⟩,
    ⟨host, 0, Pair.mk0 0x41200000, site, by decide +kernel⟩,
    ⟨0, site.modAo 0 fun a => { a with manual := true, manualAt := 100 }, by decide +kernel⟩⟩

/-- What WaveformRings assumes is met. -/
theorem witness_WaveformRings :
    (∃ (ch : Fin 16) (tick : BitVec 64) (_volts _upset : Word) (_lost : Bool) (i : Nat) (s : State), vibReady s = true ∧ waveCh s ch.val = true ∧ sampleAt s ch.val tick.toNat = some i ∧ Mem.wf ramByte s.dram.bytes = true) ∧
    (∃ (ch : Fin 16) (_tick : BitVec 64) (level : Word) (held : Nat) (s : State), s.field.running = true ∧ bits (uaiAt s ch).mode 3 0 = 8 ∧ freqRises (chanMode (uaiAt s ch).mode).sensor (uaiAt s ch) level held = true ∧ vibReady s = true ∧ edgeCh s ch.val = true ∧ Mem.wf ramByte s.dram.bytes = true) ∧
    (∃ (ch : Fin 16) (_tick : BitVec 64) (_level : Word) (_held : Nat) (s : State), s.field.running = true ∧ bits (uaiAt s ch).mode 3 0 = 8 ∧ edgeCh s ch.val = false) :=
  ⟨⟨0, 0, 0x3F800000, 0, false, 0, site, by decide +kernel⟩,
    ⟨1, 77, 0x40400000, 0, site.modUai 1 fun u => { u with mode := 8 }, by decide +kernel⟩,
    ⟨3, 77, 0x40400000, 0, site.modUai 3 fun u => { u with mode := 8 }, by decide +kernel⟩⟩

/-- What Captures assumes is met. -/
theorem witness_Captures :
    (∃ (ch : Fin 16) (s : State), vibReady s = true ∧ waveCh s ch.val = true ∧ (vibAt s ch).trigDue = true) ∧
    (∃ (r : Req) (ch : Fin 16) (s : State), may s r 1 = true ∧ vibReady s = true ∧ waveCh s ch.val = true) ∧
    (∃ (ch : Fin 16) (s : State), vibReady s = true ∧ waveCh s ch.val = true ∧ scheduleDue s ch = true ∧ s.power.eff = 0) ∧
    (∃ (ch : Fin 16) (s : State), up s = true ∧ windowOver s ch = true) ∧
    (∃ (r : Req) (_ch : Fin 16) (s : State), may s r 2 = true ∧ vibReady s = true) ∧
    (∃ (r : Req) (ch : Fin 16) (id : Word) (c : Capture) (s : State), may s r 1 = true ∧ vibReady s = true ∧ (vibAt s ch).past.find? (fun c => decide (c.id = id)) = some c ∧ ringOldest s ch ≤ c.first.toNat ∧ (vibAt s ch).firstIndex.isSome = true) :=
  ⟨⟨0, site.modVib 0 fun v => { v with trigDue := true }, by decide +kernel⟩,
    ⟨host, 0, site, by decide +kernel⟩,
    ⟨0, { site with bkup := { site.bkup with opLo := Pair.mk0 3600000 } }, by decide +kernel⟩,
    ⟨0, site.modVib 0 fun v => { v with windowOpen := true }, by decide +kernel⟩,
    ⟨host, 0, site, by decide +kernel⟩,
    ⟨host, 0, 3, { id := 3 }, site.modVib 0 fun v => { v with past := [{ id := 3 }], firstIndex := some 0 }, by decide +kernel⟩⟩

/-- What WaveformsAndFeatures assumes is met. -/
theorem witness_WaveformsAndFeatures :
    (∃ (s u : State), u = refreshStreams s ∧ vibReady s = true ∧ originBytes s 3 + 65536 ≤ originCap 3) ∧
    (∃ (ch : Fin 16) (k : Nat) (s : State), vibReady s = true ∧ featUsed s ch k = true ∧ featShed s ch k = false ∧ (featAt s ch k).st ≠ .heldUnplaced ∧ featDue s ch k = true ∧ (speedLost s ch k = true ∨ spanWhole s ch k = true)) ∧
    (∃ (ch : Fin 16) (k : Nat) (s : State), vibReady s = true ∧ featUsed s ch k = true ∧ (featAt s ch k).st = .running ∧ (featAt s ch k).pubAt + 3 * (cfgFeatUpdateMs s ch.val k).toNat + spanMs s ch k ≤ now s) :=
  ⟨⟨site, refreshStreams site, rfl, by decide +kernel⟩,
    ⟨0, 2, site.modVib 0 fun v => { v with firstIndex := some 0, writeIndex := 9999 }, by decide +kernel⟩,
    ⟨0, 1, site.modFeat 0 1 fun f => { f with st := .running }, by decide +kernel⟩⟩

/-- What DiscreteInputs assumes is met. -/
theorem witness_DiscreteInputs :
    (∃ (n : Fin 16) (_x : Bool) (_tick : BitVec 64) (s : State), s.field.running = true ∧ diSet (diAt s n) 0 ≠ 0) ∧
    (∃ (n : Fin 16) (o : Bool) (s : State), s.field.running = true ∧ (o = false ∨ diSet (diAt s n) 0 ≠ 0 ∧ diSet (diAt s n) 3 = 1)) ∧
    (∃ (r : Req) (n : Fin 16) (_v : Pair) (s : State), may s r 2 = true ∧ chanReady s (20 + n.val) = true) ∧
    (∃ (n : Fin 16) (v : Pair) (l : List Pair) (s : State), s.field.running = true ∧ (diAt s n).presets = v :: l) ∧
    (∃ (n : Fin 16) (v : Pair) (l : List Pair) (s : State), s.field.running = true ∧ (diAt s n).presets = v :: l) ∧
    (∃ (r : Req) (n : Fin 16) (s : State), may s r 2 = true ∧ chanReady s (20 + n.val) = true) ∧
    (∃ (r : Req) (n : Fin 16) (s : State), may s r 2 = true ∧ chanReady s (20 + n.val) = true) ∧
    (∃ (s : State), linkReady s = true) :=
  ⟨⟨15, true, 5, site.modDi 15 fun d => { d with settings := [1, 0, 5, 1, 0] }, by decide +kernel⟩,
    ⟨15, true, site.modDi 15 fun d => { d with settings := [1, 0, 5, 1, 0] }, by decide +kernel⟩,
    ⟨host, 0, Pair.mk0 9, site, by decide +kernel⟩,
    ⟨0, Pair.mk0 9, [], site.modDi 0 fun d => { d with presets := [Pair.mk0 9] }, by decide +kernel⟩,
    ⟨0, Pair.mk0 9, [], site.modDi 0 fun d => { d with presets := [Pair.mk0 9] }, by decide +kernel⟩,
    ⟨host, 0, site, by decide +kernel⟩,
    ⟨host, 0, site, by decide +kernel⟩,
    ⟨site, by decide +kernel⟩⟩

/-- What DiscreteOutputs assumes is met. -/
theorem witness_DiscreteOutputs :
    (∃ (_n : Fin 8) (_b : Bool) (s : State), s.field.running = true) ∧
    (∃ (n : Fin 8) (s : State), s.field.running = true ∧ (doAt s n).energised = true) ∧
    (∃ (n : Fin 8) (s : State), s.field.running = true ∧ (doAt s n).thermal = true ∧ (doAt s n).latched = false ∧ (doAt s n).cutAt + 2000 ≤ now s) ∧
    (∃ (r : Req) (n : Fin 8) (s : State), may s r 2 = true ∧ chanReady s (36 + n.val) = true ∧ (doAt s n).latched = true) ∧
    (∃ (n : Fin 8) (ma : Nat) (s : State), s.field.running = true ∧ (3600 < ma ∨ s.disc.shedding = true ∧ 3000 < ma) ∧ topEnergised s = some n) ∧
    (∃ (ma : Nat) (s : State), s.field.running = true ∧ (ma ≤ 3000 ∨ s.disc.shedding = false ∧ ma ≤ 3600)) ∧
    (∃ (n : Fin 8) (s : State), s.field.running = true ∧ ((List.finRange 8).find? fun n => (doAt s n).shed && decide ((doAt s n).shedAt + 2000 ≤ now s)) = some n) ∧
    (∃ (n : Fin 8) (_e _m : Int) (s : State), s.field.running = true ∧ (doAt s n).energised = false ∧ s.field.band = .normal ∧ 16000 < s.field.vfldMv ∧ (doAt s n).openTest = 2) ∧
    (∃ (n : Fin 8) (s : State), s.field.running = true ∧ (doAt s n).energised = true ∧ ((doAt s n).openTest = 1 ∨ (doAt s n).openTest = 2)) ∧
    (∃ (n : Fin 8) (s : State), s.field.running = true ∧ (doAt s n).energised = true) ∧
    (∃ (n : Fin 8) (s : State), s.field.running = true ∧ (doAt s n).reverse = true) ∧
    (∃ (n : Fin 8) (s : State), s.field.running = true ∧ s.field.suppliesOn = true ∧ ((List.finRange 8).find? fun n => (doAt s n).waitRestart) = some n) ∧
    (∃ (_tick : BitVec 64) (s : State), s.field.running = true) ∧
    (∃ (low : Bool) (s : State), up s = true ∧ s.disc.safen = !low) ∧
    (∃ (_low : Bool) (s : State), up s = true) :=
  ⟨⟨7, true, site, by decide +kernel⟩,
    ⟨7, site.modDo 7 fun d => { d with energised := true }, by decide +kernel⟩,
    ⟨7, site.modDo 7 fun d => { d with thermal := true, cutAt := 100 }, by decide +kernel⟩,
    ⟨host, 0, site.modDo 0 fun d => { d with latched := true }, by decide +kernel⟩,
    ⟨7, 3601, site.modDo 7 fun d => { d with energised := true }, by decide +kernel⟩,
    ⟨3600, site, by decide +kernel⟩,
    ⟨7, site.modDo 7 fun d => { d with shed := true }, by decide +kernel⟩,
    ⟨0, 1, 1, ({ site with field := { site.field with vfldMv := 24000 } }.modDo 0 fun d => { d with openTest := 2 }), by decide +kernel⟩,
    ⟨1, site.modDo 1 fun d => { d with energised := true, openTest := 1 }, by decide +kernel⟩,
    ⟨7, site.modDo 7 fun d => { d with energised := true }, by decide +kernel⟩,
    ⟨7, site.modDo 7 fun d => { d with reverse := true }, by decide +kernel⟩,
    ⟨7, site.modDo 7 fun d => { d with waitRestart := true }, by decide +kernel⟩,
    ⟨40000000, site, by decide +kernel⟩,
    ⟨false, { site with disc := { site.disc with safen := true } }, by decide +kernel⟩,
    ⟨false, site, by decide +kernel⟩⟩

/-- What Evaluations assumes is met. -/
theorem witness_Evaluations :
    (∃ (p : BitVec 16) (ev : EvalIn) (l : LocalPt) (s : State), up s = true ∧ s.dram.failed = false ∧ tget s.points p.toNat = some l ∧ ev.due = false ∧ (l.evaluated = true ∨ l.byDuty = true)) ∧
    (∃ (p : BitVec 16) (ev : EvalIn) (l : LocalPt) (s : State), up s = true ∧ s.dram.failed = false ∧ tget s.points p.toNat = some l ∧ ev.due = true ∧ (l.evaluated = true ∨ l.byDuty = true ∨ mayStart s p.toNat = true) ∧ l.early ≠ some (scanOf s p.toNat ev.tick) ∧ scanDeps s p.toNat (scanOf s p.toNat ev.tick) = [] ∧ heldCount s p.toNat = 0) ∧
    (∃ (p : BitVec 16) (ev : EvalIn) (l : LocalPt) (s : State), up s = true ∧ tget s.points p.toNat = some l ∧ ev.due = true ∧ l.early = some (scanOf s p.toNat ev.tick)) ∧
    (∃ (p : BitVec 16) (ev : EvalIn) (l : LocalPt) (s : State), up s = true ∧ s.dram.failed = false ∧ tget s.points p.toNat = some l ∧ ev.due = true ∧ l.evaluated = true ∧ l.early ≠ some (scanOf s p.toNat ev.tick)) ∧
    (∃ (p : BitVec 16) (c : Fin 7) (_ev : EvalIn) (l : LocalPt) (s : State), up s = true ∧ s.dram.failed = false ∧ tget s.points p.toNat = some l ∧ l.evaluated = true ∧ (vat l.alarm.conds c).running = true) ∧
    (∃ (p : BitVec 16) (_ev : EvalIn) (l : LocalPt) (s : State), up s = true ∧ s.dram.failed = false ∧ tget s.points p.toNat = some l ∧ l.evaluated = true ∧ releaseOver s l.alarm = true) ∧
    (∃ (p : BitVec 16) (_ev : EvalIn) (l : LocalPt) (s : State), up s = true ∧ s.dram.failed = false ∧ tget s.points p.toNat = some l ∧ l.evaluated = true ∧ holdOver s l.alarm = true) ∧
    (∃ (p : BitVec 16) (_v : Pair) (r : Req) (l : LocalPt) (s : State), may s r 2 = true ∧ tget s.points p.toNat = some l ∧ cfgPtSource s p.toNat = 3) ∧
    (∃ (c : Fin 2) (e : Nat) (s : State), up s = true ∧ 1 ≤ e ∧ cfgHas s 12 (c.val * 65536 + e) = true ∧ mapTimedOut s c.val e (tgetD (vat s.can c).maps e {}) = true) :=
  ⟨⟨7, ⟨5, false, 0, 0, 0, 0, 0⟩, { evaluated := true }, site, by decide +kernel⟩,
    ⟨7, ⟨5, true, 0, 0, 0, 0, 0⟩, { evaluated := true }, site, by decide +kernel⟩,
    ⟨7, ⟨5, true, 0, 0, 0, 0, 0⟩, { evaluated := true, early := some 0 }, pointAs fun l => { l with early := some 0 }, by decide +kernel⟩,
    ⟨7, ⟨5, true, 0, 0, 0, 0, 0⟩, { evaluated := true }, site, by decide +kernel⟩,
    ⟨7, 6, ⟨5, true, 0, 0, 0, 0, 0⟩, pointRunning, pointAs fun _ => pointRunning, by decide +kernel⟩,
    ⟨7, ⟨5, true, 0, 0, 0, 0, 0⟩, pointReleased, pointAs fun _ => pointReleased, by decide +kernel⟩,
    ⟨7, ⟨5, true, 0, 0, 0, 0, 0⟩, pointHeld, { pointAs (fun _ => pointHeld) with bkup := { site.bkup with opLo := Pair.mk0 70000 } }, by decide +kernel⟩,
    ⟨7, Pair.mk0 0x3F800000, host, { evaluated := true }, site, by decide +kernel⟩,
    ⟨0, 1, withMap, by decide +kernel⟩⟩

/-- What OperatorActions assumes is met. -/
theorem witness_OperatorActions :
    ∃ (_r : Req) (p : BitVec 16) (_ev : EvalIn) (l : LocalPt) (s : State), s.dram.failed = false ∧ tget s.points p.toNat = some l ∧ l.evaluated = true ∧ l.alarm.held = [] ∧ pendingMergeOf s p.toNat = none :=
  ⟨host, 7, ⟨5, true, 0, 0, 0, 0, 0⟩, { evaluated := true }, site, by decide +kernel⟩

/-- What AlarmTimersAndAlarms assumes is met. -/
theorem witness_AlarmTimersAndAlarms :
    (∃ (p : BitVec 16) (l : LocalPt) (s : State), up s = true ∧ tget s.points p.toNat = some l ∧ l.alarm.shelved = true ∧ l.alarm.shelveEnd ≤ (recMs s).toNat) ∧
    (∃ (p : BitVec 16) (l : LocalPt) (s : State), up s = true ∧ tget s.points p.toNat = some l) ∧
    (∃ (p : BitVec 16) (l : LocalPt) (x : Option Word) (s : State), up s = true ∧ tget s.points p.toNat = some l ∧ cfgLimAdaptive s p.toNat = 1 ∧ x = estimate (estTs (cfgPtClass s p.toNat).toNat) l.alarm.estim.reverse (estN (cfgPtClass s p.toNat).toNat)) ∧
    (∃ (p : BitVec 16) (u : Word) (l : LocalPt) (s : State), up s = true ∧ tget s.points p.toNat = some l ∧ cfgLimAdaptive s p.toNat = 1 ∧ u ≠ 0) ∧
    (∃ (p _root : BitVec 16) (l : LocalPt) (s : State), up s = true ∧ tget s.points p.toNat = some l ∧ cfgGrpDamaskMode s (groupOf s p.toNat) = 1 ∧ l.byDuty = false) ∧
    (∃ (s : State), up s = true) ∧
    (∃ (r : Req) (g : BitVec 8) (s : State), may s r 3 = true ∧ groupShut s g.toNat = false) ∧
    (∃ (r : Req) (g : BitVec 8) (s : State), may s r 1 = true ∧ groupShut s g.toNat = false ∧ (s.points.map Prod.fst).Nodup) ∧
    (∃ (src : Fin 64) (ws : List Word) (s : State), up s = true ∧ ws.length = 22 ∧ src.val ≠ nodeNum s) :=
  ⟨⟨7, pointShelved, pointAs fun _ => pointShelved, by decide +kernel⟩,
    ⟨7, { evaluated := true }, site, by decide +kernel⟩,
    ⟨7, { evaluated := true }, none, site, by decide +kernel⟩,
    ⟨7, 1, { evaluated := true }, site, by decide +kernel⟩,
    ⟨7, 8, rootOwed, { pointAs (fun _ => rootOwed) with bkup := { site.bkup with opLo := Pair.mk0 5000 } }, by decide +kernel⟩,
    ⟨site, by decide +kernel⟩,
    ⟨host, 0, site, by decide +kernel⟩,
    ⟨host, 1, site, by decide +kernel⟩,
    ⟨1, List.replicate 22 0, site, by decide +kernel⟩⟩

/-- What SystemConditions assumes is met. -/
theorem witness_SystemConditions :
    (∃ (_k : Fin 64) (s : State), up s = true) ∧
    (∃ (_k : Fin 64) (s : State), up s = true) ∧
    (∃ (k : Fin 64) (s : State), up s = true ∧ timedConds.contains k.val = true ∧ causeGone s k.val = true ∧ k ≠ 0x2A ∧ (vat s.alarms.sysc k).lastEvent + 60000 ≤ now s) ∧
    (∃ (s : State), up s = true ∧ (∀ p : Fin 3, (vat s.ring.ports p).mode = 0 ∨ ((vat s.ring.ports p).st = .up ∧ (vat s.ring.ports p).upAt + 10000 ≤ now s))) ∧
    (∃ (r : Req) (code : BitVec 8) (h : code.toNat < 64) (seq : BitVec 16) (s : State), may s r 1 = true ∧ seqFits seq (vat s.alarms.sysc ⟨code.toNat, h⟩).seq = true) :=
  ⟨⟨0x3F, site, by decide +kernel⟩,
    ⟨0x3F, site, by decide +kernel⟩,
    ⟨0x09, site, by decide +kernel⟩,
    ⟨site, by decide +kernel⟩,
    ⟨host, 0x3F, (by decide), 0xFFFF, site, by decide +kernel⟩⟩

/-- What ManningRequests assumes is met. -/
theorem witness_ManningRequests :
    (∃ (src : CallFrom) (s : State), up s = true ∧ s.call.holds = true ∧ callRight s 1 src = true) ∧
    (∃ (src : CallFrom) (s u : State), u = applyWaiting s ∧ up s = true ∧ s.call.holds = true ∧ callRight s 2 src = true) ∧
    (∃ (src : CallFrom) (s u : State), u = applyWaiting s ∧ up s = true ∧ s.call.holds = true ∧ callRight s 3 src = true) ∧
    (∃ (src : CallFrom) (_eng : BitVec 8) (s u : State), u = applyWaiting s ∧ up s = true ∧ s.call.holds = true ∧ callRight s 4 src = true) ∧
    (∃ (src : CallFrom) (s u : State), u = applyWaiting s ∧ up s = true ∧ s.call.holds = true ∧ callRight s 5 src = true) ∧
    (∃ (src : CallFrom) (_eng : BitVec 8) (s u : State), u = applyWaiting s ∧ up s = true ∧ s.call.holds = true ∧ callRight s 0xC src = true) ∧
    (∃ (src : CallFrom) (_eng : BitVec 8) (s u : State), u = applyWaiting s ∧ up s = true ∧ s.call.holds = true ∧ callRight s 0xD src = true) :=
  ⟨⟨.panel 0 0, site, by decide +kernel⟩,
    ⟨.panel 0 0, site, (applyWaiting site), rfl, by decide +kernel⟩,
    ⟨.panel 4 0, site, (applyWaiting site), rfl, by decide +kernel⟩,
    ⟨.panel 0 0, 15, site, (applyWaiting site), rfl, by decide +kernel⟩,
    ⟨.panel 2 0, site, (applyWaiting site), rfl, by decide +kernel⟩,
    ⟨.station host 0, 15, site, (applyWaiting site), rfl, by decide +kernel⟩,
    ⟨.station host 0, 15, site, (applyWaiting site), rfl, by decide +kernel⟩⟩

/-- What CallRequests assumes is met. -/
theorem witness_CallRequests :
    (∃ (src : CallFrom) (s : State), up s = true ∧ s.call.holds = true ∧ callRight s 6 src = true) ∧
    (∃ (src : CallFrom) (s u : State), u = applyWaiting s ∧ up s = true ∧ s.call.holds = true ∧ callRight s 7 src = true) ∧
    (∃ (src : CallFrom) (s : State), up s = true ∧ s.call.holds = true ∧ callRight s 8 src = true) ∧
    (∃ (src : CallFrom) (s : State), up s = true ∧ s.call.holds = true ∧ callRight s 9 src = true) ∧
    (∃ (src : CallFrom) (s : State), up s = true ∧ s.call.holds = true ∧ callRight s 0xA src = true) ∧
    (∃ (src : CallFrom) (_id : BitVec 16) (s u : State), u = applyWaiting s ∧ up s = true ∧ s.call.holds = true ∧ callRight s 0xB src = true) :=
  ⟨⟨.panel 0 0, site, by decide +kernel⟩,
    ⟨.panel 0 0, site, (applyWaiting site), rfl, by decide +kernel⟩,
    ⟨.panel 0 0, site, by decide +kernel⟩,
    ⟨.panel 0 0, site, by decide +kernel⟩,
    ⟨.panel 0 0, site, by decide +kernel⟩,
    ⟨.panel 2 1, 3, site, (applyWaiting site), rfl, by decide +kernel⟩⟩

/-- What CallTimers assumes is met. -/
theorem witness_CallTimers :
    (∃ (s u : State), u = applyWaiting s ∧ up s = true ∧ s.call.holds = true ∧ u.call.st = .calling ∧ ranOut u u.call.stageEnd = true) ∧
    (∃ (s u : State), u = applyWaiting s ∧ up s = true ∧ s.call.holds = true ∧ u.call.st = .backup ∧ ranOut u u.call.stageEnd = true) ∧
    (∃ (s u : State), u = applyWaiting s ∧ up s = true ∧ s.call.holds = true ∧ u.call.st = .accepted ∧ ranOut u u.call.stageEnd = true) ∧
    (∃ (s u : State), u = applyWaiting s ∧ up s = true ∧ s.call.holds = true ∧ u.call.pend ≠ .none_ ∧ ranOut u u.call.pendEnd = true) ∧
    (∃ (s u : State) (e : Nat), u = applyWaiting s ∧ up s = true ∧ s.call.holds = true ∧ u.call.dead = .running ∧ u.call.deadEnd = some e ∧ e ≤ now s + 1000 * (cfgCallDeadmanPrewarn s).toNat) ∧
    (∃ (s u : State), u = applyWaiting s ∧ up s = true ∧ s.call.holds = true ∧ u.call.dead = .prewarn ∧ ranOut u u.call.deadEnd = true) ∧
    (∃ (s u : State), u = mannedNote (applyWaiting s) ∧ up s = true ∧ s.call.holds = true ∧ u.call.ums = false ∧ cfgCallMannedEscalate s ≠ 0 ∧ u.call.mannedSince.any (fun e => decide (e.2 + 1000 * (cfgCallMannedEscalate s).toNat ≤ now s)) = true) :=
  ⟨⟨(callAs fun c => { c with st := .calling, stageEnd := some 2000000 }), (applyWaiting (callAs fun c => { c with st := .calling, stageEnd := some 2000000 })), rfl, by decide +kernel⟩,
    ⟨(callAs fun c => { c with st := .backup, stageEnd := some 2000000 }), (applyWaiting (callAs fun c => { c with st := .backup, stageEnd := some 2000000 })), rfl, by decide +kernel⟩,
    ⟨(callAs fun c => { c with st := .accepted, stageEnd := some 2000000 }), (applyWaiting (callAs fun c => { c with st := .accepted, stageEnd := some 2000000 })), rfl, by decide +kernel⟩,
    ⟨(callAs fun c => { c with pend := .duty, pendEnd := some 2000000 }), (applyWaiting (callAs fun c => { c with pend := .duty, pendEnd := some 2000000 })), rfl, by decide +kernel⟩,
    ⟨(callAs fun c => { c with dead := .running, deadEnd := some 2000100 }), (applyWaiting (callAs fun c => { c with dead := .running, deadEnd := some 2000100 })), 2000100, rfl, by decide +kernel⟩,
    ⟨(callAs fun c => { c with dead := .prewarn, deadEnd := some 2000000 }), (applyWaiting (callAs fun c => { c with dead := .prewarn, deadEnd := some 2000000 })), rfl, by decide +kernel⟩,
    ⟨standing, (mannedNote (applyWaiting standing)), rfl, by decide +kernel⟩⟩

/-- What CallState assumes is met. -/
theorem witness_CallState :
    (∃ (s : State) (v : CondView) (l : List CondView), up s = true ∧ s.call.holds = true ∧ s.call.other = [] ∧ s.call.requests = [] ∧ s.call.ums = true ∧ s.call.st = .idle ∧ s.call.pend = .none_ ∧ s.call.dead = .off ∧ callables s = v :: l) ∧
    (∃ (s : State), up s = true ∧ s.call.holds = true ∧ s.call.other = [] ∧ s.call.requests = [] ∧ s.call.st ≠ .idle ∧ s.call.stageEnd = none ∧ s.call.pend = .none_ ∧ s.call.dead = .off ∧ callables s = []) ∧
    (∃ (s : State), up s = true ∧ s.call.holds = true) ∧
    (∃ (src : Fin 64) (ws : List Word) (s : State), up s = true ∧ ws.length = 17 ∧ bits (ws.headD 0) 31 24 = 1 ∧ src.val ≠ nodeNum s) ∧
    (∃ (_src : Fin 64) (ws : List Word) (q : CallReq) (s : State), up s = true ∧ ws.length = 5 ∧ bits (ws.getD 0 0) 31 24 = 2 ∧ s.call.holds = true ∧ (callPairs ws).all Pair.ok = true ∧ reqOf (bits (ws.getD 1 0) 31 24) (BitVec.ofNat 8 (bits (ws.getD 1 0) 7 0)) (BitVec.ofNat 16 (bits (ws.getD 3 0) 31 16)) = some q) ∧
    (∃ (s : State), up s = true ∧ anySegDuty s = true ∧ s.call.holds = false ∧ s.call.wordsAt + 3000 ≤ now s ∧ sysActive s 0x2D = false) :=
  ⟨⟨umsNode, (callables umsNode).headD ⟨0, 0, 0, 0, 0, false⟩, (callables umsNode).tail, by decide +kernel⟩,
    ⟨(callAs fun c => { c with st := .engineers }), by decide +kernel⟩,
    ⟨site, by decide +kernel⟩,
    ⟨1, 0x01000000 :: List.replicate 16 0, site, by decide +kernel⟩,
    ⟨1, [0x02000000, 0x01000000, 0xFEFFFFFF, 0, 0xFFFFFFFF], .toManned, site, by decide +kernel⟩,
    ⟨callAs fun c => { c with holds := false }, by decide +kernel⟩⟩

/-- What PanelFrames assumes is met. -/
theorem witness_PanelFrames :
    (∃ (c : Fin 2) (p : Fin 64) (a b x y : Word) (l : LocalPt) (s : State), panelHeard s c.val p.val = true ∧ (cfgPanKind s c.val p.val).toNat ≤ 1 ∧ b = ~~~a ∧ y = ~~~x ∧ bits a 31 24 = 0 ∧ bits a 23 16 = nodeNum s ∧ tget s.points (bits a 15 0) = some l ∧ BitVec.ofNat 16 (bits x 31 16) ≠ 0xFFFF) ∧
    (∃ (c : Fin 2) (p : Fin 64) (s : State), panelHeard s c.val p.val = true) ∧
    (∃ (c : Fin 2) (p : Fin 64) (_w : Word) (s : State), panelHeard s c.val p.val = true ∧ s.call.holds = true ∧ callRight s 2 (.panel (BitVec.ofNat 4 (cfgPanKind s c.val p.val).toNat) (BitVec.ofNat 8 (cfgPanEngineer s c.val p.val).toNat)) = true) ∧
    (∃ (c : Fin 2) (p : Fin 64) (_ws : List Word) (s : State), up s = true ∧ segDutyHeld s c.val = true ∧ p.val < 48 ∧ cfgHas s 13 (panelKey c.val p.val) = true) ∧
    (∃ (c : Fin 2) (p : Fin 64) (s : State), up s = true ∧ segDutyHeld s c.val = true ∧ cfgHas s 13 (panelKey c.val p.val) = true ∧ (panelAt s (panelKey c.val p.val)).lost = false ∧ panelSince s c.val p.val + (cfgPanHeartbeatTimeout s c.val p.val).toNat ≤ now s) ∧
    (∃ (s : State), up s = true ∧ anySegDuty s = true) ∧
    (∃ (s : State), up s = true ∧ anySegDuty s = true) :=
  ⟨⟨0, 3, 7, 0xFFFFFFF8, 0, 0xFFFFFFFF, { evaluated := true }, site, by decide +kernel⟩,
    ⟨0, 3, site, by decide +kernel⟩,
    ⟨0, 3, 0x02000000, site, by decide +kernel⟩,
    ⟨0, 3, [1, 0xFFFFFFFE], site, by decide +kernel⟩,
    ⟨0, 3, site, by decide +kernel⟩,
    ⟨site, by decide +kernel⟩,
    ⟨site, by decide +kernel⟩⟩

/-- What PlacementRounds assumes is met. -/
theorem witness_PlacementRounds :
    (∃ (_late _differ _bad : BitVec 4) (s : State), up s = true ∧ s.cfg.absent = false ∧ s.cfg.fwLoaded = true ∧ s.cfg.phasesDone = 3 ∧ roundWanted s = true) ∧
    (∃ (n : Nat) (task : Task) (e : Fin 16) (s : State), up s = true ∧ tget s.canvas.tasks n = some task ∧ task.moving = some e) ∧
    (∃ (s : State), up s = true ∧ s.cfg.absent = false ∧ fnReady s 1 0 = true ∧ s.canvas.placementSentAt + 10000 ≤ now s) ∧
    (∃ (r : Req) (s : State), may s r 2 = true ∧ fnReady s 0xA 0 = true) ∧
    (∃ (r : Req) (s : State), may s r 3 = true ∧ fnReady s 0xA 0 = true) ∧
    (∃ (s : State), up s = true ∧ s.cfg.absent = false ∧ s.cfg.phasesDone = 3 ∧ rotationDue s = true) :=
  ⟨⟨0, 0, 0, site, by decide +kernel⟩,
    ⟨7, { moving := some 3 }, 3, { site with canvas := { site.canvas with tasks := [(7, { moving := some 3 })] } }, by decide +kernel⟩,
    ⟨site, by decide +kernel⟩,
    ⟨host, site, by decide +kernel⟩,
    ⟨host, site, by decide +kernel⟩,
    ⟨{ site with bkup := { site.bkup with opLo := Pair.mk0 0xFFFFFFFF, opHi := Pair.mk0 0xFFFF } }, by decide +kernel⟩⟩

/-- What DrainsAndEngines assumes is met. -/
theorem witness_DrainsAndEngines :
    (∃ (r : Req) (_q : Fin 4) (s : State), may s r 2 = true) ∧
    (∃ (r : Req) (q : Fin 4) (s : State), may s r 2 = true ∧ (quadAt s q).st = .drain) ∧
    (∃ (q : Fin 4) (s : State), up s = true ∧ (quadAt s q).st = .drain) ∧
    (∃ (r : Req) (e : Fin 16) (s : State), may s r 3 = true ∧ fnReady s 0xA 0 = true ∧ (engineAt s e).withdrawn = true) ∧
    (∃ (e : Fin 16) (hz tj ppm : Word) (s : State), ppm = wearOf e hz tj ∧ up s = true ∧ (quadAt s (quadOf e)).st = .run) :=
  ⟨⟨host, 3, site, by decide +kernel⟩,
    ⟨host, 0, quadsIn .drain, by decide +kernel⟩,
    ⟨0, quadsIn .drain, by decide +kernel⟩,
    ⟨host, 15, site.modEngine 15 fun e => { e with withdrawn := true }, by decide +kernel⟩,
    ⟨15, 900, 85, wearOf 15 900 85, site, rfl, by decide +kernel⟩⟩

/-- What FirmwareLoads assumes is met. -/
theorem witness_FirmwareLoads :
    (∃ (r : Req) (s : State), may s r 3 = true ∧ s.canvas.fw.st = .idle ∧ startComplete s = true ∧ norBusy s = false ∧ s.nor.image = .idle) ∧
    (∃ (s : State), up s = true ∧ s.canvas.fw.st = .erasing) ∧
    (∃ (r : Req) (idx : BitVec 21) (_w : Word) (s : State), may s r 3 = true ∧ s.canvas.fw.st = .receiving ∧ idx.toNat = s.canvas.fw.next.toNat ∧ Mem.wf norByte s.nor.bytes = true) ∧
    (∃ (r : Req) (s : State), may s r 3 = true ∧ s.canvas.fw.st = .receiving) ∧
    (∃ (s : State), up s = true ∧ s.canvas.fw.st = .verifying ∧ Mem.wf norByte s.nor.bytes = true) ∧
    (∃ (r : Req) (s : State), may s r 3 = true ∧ Mem.wf norByte s.nor.bytes = true) ∧
    (∃ (q : Fin 4) (s : State), up s = true ∧ (quadAt s q).st = .reset ∧ s.cfg.fwLoaded = true ∧ 2 ≤ (quadAt s q).tries ∧ s.canvas.fw.st = .applying ∧ s.canvas.fw.at_ = some q ∧ Mem.wf norByte s.nor.bytes = true) ∧
    (∃ (s : State), up s = true ∧ s.canvas.fw.st = .receiving ∧ s.canvas.fw.writtenAt + 600000 ≤ now s) ∧
    (∃ (r : Req) (s : State), may s r 3 = true ∧ s.canvas.fw.st = .staged) ∧
    (∃ (s : State), up s = true ∧ s.canvas.fw.st = .applying ∧ stepEnded s = true) :=
  ⟨⟨host, site, by decide +kernel⟩,
    ⟨fwIn .erasing, by decide +kernel⟩,
    ⟨host, 0, 77, fwIn .receiving, by decide +kernel⟩,
    ⟨host, fwIn .receiving, by decide +kernel⟩,
    ⟨fwIn .verifying, by decide +kernel⟩,
    ⟨host, fwIn .staged, by decide +kernel⟩,
    ⟨1, { (quadsIn .reset) with quads := (quadsIn .reset).quads.map (fun q => { q with tries := 2 }), canvas := { site.canvas with fw := { site.canvas.fw with st := .applying, at_ := some 1 } } }, by decide +kernel⟩,
    ⟨fwIn .receiving, by decide +kernel⟩,
    ⟨host, fwIn .staged, by decide +kernel⟩,
    ⟨fwIn .applying, by decide +kernel⟩⟩

/-- What Membership assumes is met. -/
theorem witness_Membership :
    (∃ (s : State), up s = true ∧ fnReady s 1 0 = true) ∧
    (∃ (_mac : BitVec 48) (src : BitVec 8) (ws : List Word) (s : State), up s = true ∧ fnReady s 1 0 = true ∧ src.toNat < 64 ∧ ([0, 2, 4].all fun i => ws.getD (i + 1) 0 == ~~~(ws.getD i 0)) = true ∧ src.toNat ≠ nodeNum s) ∧
    (∃ (n : Fin 64) (m : Nat) (s : State), up s = true ∧ (peerAt s n.val).st = .counted ∧ (peerAt s n.val).heardAt = some m ∧ m + 325 ≤ now s) ∧
    (∃ (r : Req) (n : BitVec 8) (p : Peer) (s : State), may s r 3 = true ∧ fnReady s 0xA 0 = true ∧ tget s.canvas.peers n.toNat = some p) ∧
    (∃ (s : State), up s = true ∧ fnReady s 1 0 = true) ∧
    (∃ (s : State), up s = true ∧ s.cfg.absent = false ∧ fnReady s 1 0 = true) ∧
    (∃ (src : Fin 64) (_ws : List Word) (s : State), up s = true ∧ fnReady s 1 0 = true ∧ (peerAt s src.val).st = .counted) :=
  ⟨⟨site, by decide +kernel⟩,
    ⟨9, 1, [0, 0xFFFFFFFF, 0, 0xFFFFFFFF, 0, 0xFFFFFFFF], site, by decide +kernel⟩,
    ⟨63, 100, site.modPeer 63 fun p => { p with st := .counted, heardAt := some 100 }, by decide +kernel⟩,
    ⟨host, 3, {}, { site with canvas := { site.canvas with peers := [(3, {})] } }, by decide +kernel⟩,
    ⟨site, by decide +kernel⟩,
    ⟨site, by decide +kernel⟩,
    ⟨3, [], site.modPeer 3 fun p => { p with st := .counted }, by decide +kernel⟩⟩

/-- What Replication assumes is met. -/
theorem witness_Replication :
    (∃ (s : State), up s = true) ∧
    (∃ (p : BitVec 16) (l : LocalPt) (s : State), up s = true ∧ tget s.points p.toNat = some l ∧ l.sentAt + 10000 ≤ now s) ∧
    (∃ (_src : Fin 64) (_seq : Word) (_ws : List Word) (s : State), up s = true ∧ fnReady s 1 0 = true) ∧
    (∃ (_src : Fin 64) (_ws : List Word) (s : State), up s = true ∧ fnReady s 1 0 = true) ∧
    (∃ (p : BitVec 16) (r : RepPt) (s : State), up s = true ∧ tget s.canvas.replica p.toNat = some r ∧ r.at_ + 25000 ≤ now s) :=
  ⟨⟨site, by decide +kernel⟩,
    ⟨7, { evaluated := true }, site, by decide +kernel⟩,
    ⟨3, 1, [], site, by decide +kernel⟩,
    ⟨3, [], site, by decide +kernel⟩,
    ⟨9, {}, { site with canvas := { site.canvas with replica := [(9, {})] } }, by decide +kernel⟩⟩

/-- What RingPorts assumes is met. -/
theorem witness_RingPorts :
    (∃ (_p : Fin 3) (_a _b _v : Bool) (_sp : BitVec 2) (s : State), ringUp s = true) ∧
    (∃ (p : Fin 2) (f : RingFrame) (s : State), ringUp s = true ∧ linkUp s (ringPort p) = true ∧ f.fcsOk = false) ∧
    (∃ (p : Fin 2) (f : RingFrame) (s : State), ringUp s = true ∧ linkUp s (ringPort p) = true ∧ f.fcsOk = true ∧ f.tagged = true ∧ f.kind ≠ .pause ∧ f.src = nodeMac s) ∧
    (∃ (p : Fin 2) (f : RingFrame) (e : HsrDup) (s : State), ringUp s = true ∧ linkUp s (ringPort p) = true ∧ f.fcsOk = true ∧ f.tagged = true ∧ f.kind ≠ .pause ∧ f.src ≠ nodeMac s ∧ inProxy s f.src = false ∧ dupOf s f.src f.hsrSeq = some e ∧ e.delivered = true ∧ (if otherPort p = 0 then e.sentA else e.sentB) = true ∧ f.dst = groupMac s ∧ nodeMac s ≠ groupMac s) ∧
    (∃ (p : Fin 2) (f : RingFrame) (s : State), ringUp s = true ∧ linkUp s (ringPort p) = true ∧ f.fcsOk = true ∧ f.tagged = true ∧ f.kind ≠ .pause ∧ f.src ≠ nodeMac s ∧ inProxy s f.src = false ∧ dupOf s f.src f.hsrSeq = none ∧ f.dst ≠ nodeMac s ∧ f.idle = true ∧ linkUp s (ringPort (otherPort p)) = true) ∧
    (∃ (f : RingFrame) (s : State), ringUp s = true ∧ linkUp s 2 = true ∧ f.fcsOk = true ∧ f.kind ≠ .pause) ∧
    (∃ (k : Fin 8) (x : Proxy) (s : State), ringUp s = true ∧ vat s.ring.proxy k = some x ∧ x.at_ + 60000 ≤ now s) :=
  ⟨⟨2, true, false, true, 0, site, by decide +kernel⟩,
    ⟨0, { aFrame with fcsOk := false }, site, by decide +kernel⟩,
    ⟨0, { aFrame with src := 2 }, site, by decide +kernel⟩,
    ⟨0, { aFrame with src := 5, dst := 0x010000000009 }, { mac := 5, seq := 1, at_ := 2000000, sentA := true, sentB := true, delivered := true }, seen, by decide +kernel⟩,
    ⟨0, aFrame, site, by decide +kernel⟩,
    ⟨aFrame, site, by decide +kernel⟩,
    ⟨7, ⟨9, 100⟩, { site with ring := { site.ring with proxy := vmod site.ring.proxy 7 fun _ => some ⟨9, 100⟩ } }, by decide +kernel⟩⟩

/-- What RingAndTimeMessages assumes is met. -/
theorem witness_RingAndTimeMessages :
    (∃ (s : State), ringUp s = true ∧ linkUp s 0 = true ∧ linkUp s 1 = true) ∧
    (∃ (s : State), ringUp s = true) ∧
    (∃ (s : State), ringUp s = true ∧ linkUp s 2 = true) ∧
    (∃ (_c : Fin 4) (_src : BitVec 48) (_q : BitVec 16) (s : State), ringUp s = true) ∧
    (∃ (p : Fin 3) (g : GmData) (_utc : BitVec 16) (_v : Bool) (s : State), ptpOn s = true ∧ linkUp s p = true ∧ g.steps.toNat < 255 ∧ (match s.ring.ptp.best with | none => true | some b => decide (gmKey g < gmKey b)) = true) ∧
    (∃ (p : Fin 3) (_x : Nat) (_o : Word) (s : State), ptpOn s = true ∧ linkUp s p = true ∧ s.ring.ptp.best.isSome = true ∧ s.ring.ptp.st = .uncalibrated) ∧
    (∃ (p : Fin 2) (_ns : Word) (s : State), ptpOn s = true ∧ linkUp s (ringPort p) = true) ∧
    (∃ (s : State), ptpOn s = true ∧ announceLapsed s = true) :=
  ⟨⟨site, by decide +kernel⟩,
    ⟨site, by decide +kernel⟩,
    ⟨site, by decide +kernel⟩,
    ⟨0, 5, 1, site, by decide +kernel⟩,
    ⟨0, ⟨1, 128, 6, 0, 0, 128, 0, 0⟩, 37, true, site, by decide +kernel⟩,
    ⟨0, 100, 5, { site with ring := { site.ring with ptp := { site.ring.ptp with st := .uncalibrated, best := some ⟨1, 128, 6, 0, 0, 128, 0, 0⟩ } } }, by decide +kernel⟩,
    ⟨0, 900, site, by decide +kernel⟩,
    ⟨site, by decide +kernel⟩⟩

/-- What SendAndReceive assumes is met. -/
theorem witness_SendAndReceive :
    (∃ (c : Fin 4) (m : Msg) (l : List Msg) (s : State), ringUp s = true ∧ c ≠ 0 ∧ s.ring.heldS = [] ∧ (classAt s c).queue = m :: l ∧ msgBits m ≤ (classAt (refill s c) c).bucket ∧ (∀ d : Fin 4, d < c → classReady s d = false)) ∧
    (∃ (m : Msg) (l : List Msg) (s : State), ringUp s = true ∧ (classAt s 0).queue = m :: l ∧ msgBits m ≤ (classAt (refill s 0) 0).bucket) ∧
    (∃ (c d : Fin 4) (s : State), ringUp s = true ∧ d < c ∧ classReady s d = true) ∧
    (∃ (mac : BitVec 48) (ws : List Word) (k : Fin 8) (s : State), ringUp s = true ∧ discardCause s mac ws = some k) ∧
    (∃ (mac : BitVec 48) (ws : List Word) (s : State), ringUp s = true ∧ discardCause s mac ws = none ∧ isReply (parseMsg mac ws).type = true ∧ (parseMsg mac ws).src.toNat < 64) ∧
    (∃ (n : Fin 64) (c : Fin 4) (s : State), ringUp s = true ∧ (heldOf s n c.val).isEmpty = false) ∧
    (∃ (s : State), ringUp s = true ∧ s.linen.events ≠ []) ∧
    (∃ (r : Req) (s : State), may s r 2 = true ∧ fnReady s 1 0 = true) ∧
    (∃ (r : Req) (s : State), may s r 2 = true ∧ fnReady s 1 0 = true) :=
  ⟨⟨1, {}, [], site.modClass 1 fun k => { k with queue := [{}], bucket := 100000 }, by decide +kernel⟩,
    ⟨{}, [], site.modClass 0 fun k => { k with queue := [{}], bucket := 100000 }, by decide +kernel⟩,
    ⟨3, 1, site.modClass 1 fun k => { k with queue := [{}], bucket := 100000 }, by decide +kernel⟩,
    ⟨9, [], 0, site, by decide +kernel⟩,
    ⟨9, goodReply, bound9reply, by decide +kernel⟩,
    ⟨5, 1, { site with ring := { site.ring with expects := [(expectKey 5 1, { next := 0, heldMsgs := [{}] })] } }, by decide +kernel⟩,
    ⟨{ site with linen := { site.linen with events := [(0, {})] } }, by decide +kernel⟩,
    ⟨host, site, by decide +kernel⟩,
    ⟨host, site, by decide +kernel⟩⟩

/-- What BerebRequests assumes is met. -/
theorem witness_BerebRequests :
    (∃ (q : Rq) (addr : Word) (n : BitVec 16) (s u : State), u = noteRequester s (rqReq q) ∧ ringUp s = true ∧ spanOk addr n.toNat = true ∧ repeatOf u q 1 = none ∧ atLimit u q.mac = false ∧ windowsIn addr n.toNat = [] ∧ q.noReply = false ∧ hasRoom u 1 n.toNat ∧ (readObjs u (rqReq q) addr n.toNat).length = n.toNat) ∧
    (∃ (_q : Rq) (addr : Word) (n : BitVec 16) (s : State), ringUp s = true ∧ spanOk addr n.toNat = false) ∧
    (∃ (q : Rq) (addr : Word) (ws : List Word) (s u : State), u = noteRequester s (rqReq q) ∧ ringUp s = true ∧ spanOk addr ws.length = true ∧ repeatOf u q 2 = none ∧ atLimit u q.mac = false ∧ q.noReply = true ∧ q.tag = 0) ∧
    (∃ (q : Rq) (addr : Word) (ws : List Word) (s u : State), u = noteRequester s (rqReq q) ∧ ringUp s = true ∧ spanOk addr ws.length = true ∧ repeatOf u q 2 = none ∧ atLimit u q.mac = false ∧ q.noReply = false ∧ hasRoom (writeObjs u (rqReq q) addr ws) 1 0) ∧
    (∃ (q : Rq) (addr : Word) (n : BitVec 16) (_w : Word) (s u : State), u = noteRequester s (rqReq q) ∧ ringUp s = true ∧ spanOk addr n.toNat = true ∧ repeatOf u q 3 = none ∧ atLimit u q.mac = false ∧ windowsIn addr n.toNat = [] ∧ u.ring.subs.length < 32) ∧
    (∃ (q : Rq) (s u : State), u = noteRequester s (rqReq q) ∧ ringUp s = true ∧ repeatOf u q 4 = none ∧ atLimit u q.mac = false) ∧
    (∃ (q : Rq) (n : Nat) (s u : State), u = noteRequester s (rqReq q) ∧ ringUp s = true ∧ repeatOf u q 5 = none ∧ atLimit u q.mac = false ∧ q.tag = 0 ∧ boundNode u q.mac = some n) ∧
    (∃ (q : Rq) (s u : State), u = noteRequester s (rqReq q) ∧ ringUp s = true ∧ repeatOf u q 5 = none ∧ atLimit u q.mac = false ∧ q.noReply = false ∧ hasRoom u 1 15) ∧
    (∃ (q : Rq) (s u : State), u = noteRequester s (rqReq q) ∧ ringUp s = true ∧ repeatOf u q 5 = none ∧ atLimit u q.mac = false) ∧
    (∃ (x : Subs) (s : State), ringUp s = true ∧ s.ring.subs = [x] ∧ windowsIn x.addr x.count = [] ∧ readObjs s { mac := x.mac, sess := x.sess } x.addr x.count ≠ x.last ∧ x.lastAt + x.minMs ≤ now s ∧ notePending s x = false ∧ (readObjs s { mac := x.mac, sess := x.sess } x.addr x.count).length = x.count ∧ hasRoom s 1 x.count) ∧
    (∃ (mac : BitVec 48) (x : StationSess) (s : State), up s = true ∧ (s.ring.stations.find? fun t => t.mac == mac) = some x ∧ x.at_ + 60000 ≤ now s) :=
  ⟨⟨hostRq, 0, 1, site, (noteRequester site host), rfl, by unfold hasRoom; decide +kernel⟩,
    ⟨hostRq, 0xFFFFFFFF, 2, site, by decide +kernel⟩,
    ⟨{ hostRq with noReply := true }, 0x80000018, [0], site, (noteRequester site host), rfl, by decide +kernel⟩,
    ⟨hostRq, 0x80000018, [0], site, (noteRequester site host), rfl, by unfold hasRoom; decide +kernel⟩,
    ⟨hostRq, 0, 1, 0, site, (noteRequester site host), rfl, by decide +kernel⟩,
    ⟨hostRq, site, (noteRequester site host), rfl, by decide +kernel⟩,
    ⟨⟨9, 7, 0, false⟩, 5, bound9, (noteRequester bound9 ⟨9, 7⟩), rfl, by decide +kernel⟩,
    ⟨hostRq, site, (noteRequester site host), rfl, by unfold hasRoom; decide +kernel⟩,
    ⟨hostRq, site, (noteRequester site host), rfl, by decide +kernel⟩,
    ⟨{ mac := 1, addr := 0, count := 1, last := [99] }, { site with ring := { site.ring with subs := [{ mac := 1, addr := 0, count := 1, last := [99] }] } }, by unfold hasRoom; decide +kernel⟩,
    ⟨1, ⟨1, 7, 100⟩, { site with ring := { site.ring with stations := [⟨1, 7, 100⟩] } }, by decide +kernel⟩⟩

/-- What RegisterWrites assumes is met. -/
theorem witness_RegisterWrites :
    (∃ (r : Req) (n : Fin 16) (_v _c : Word) (s u : State), u = noteOwner s r ∧ may s r 2 = true ∧ chanReady s n.val = true) ∧
    (∃ (r : Req) (_w : Word) (s u : State), u = noteOwner s r ∧ may s r 3 = true ∧ fnReady s 2 0 = true) ∧
    (∃ (r : Req) (_i : Fin 64) (_w : Word) (s : State), may s r 2 = true ∧ fnReady s 2 0 = true) ∧
    (∃ (_r : Req) (addr _w : Word) (s : State), up s = true ∧ 0xD ≤ bits addr 31 28) :=
  ⟨⟨host, 0, 5, 0xFFFFFFFA, site, (noteOwner site host), rfl, by decide +kernel⟩,
    ⟨host, 1, site, (noteOwner site host), rfl, by decide +kernel⟩,
    ⟨host, 31, 5, site, by decide +kernel⟩,
    ⟨host, 0xD0000000, 5, site, by decide +kernel⟩⟩

/-- What CanStates assumes is met. -/
theorem witness_CanStates :
    (∃ (c : Fin 2) (s : State), up s = true ∧ (canAt s c).mode = .listening ∧ segDutyHeld s c.val = false) ∧
    (∃ (c : Fin 2) (s : State), up s = true ∧ (canAt s c).mode = .restricted ∧ dutyAged s c = true ∧ (canAt s c).idleSeen = true) ∧
    (∃ (c : Fin 2) (s : State), up s = true ∧ (canAt s c).mode = .normal ∧ 255 < (canAt s c).tec) ∧
    (∃ (c : Fin 2) (s : State), up s = true ∧ (canAt s c).mode = .busOff ∧ (canAt s c).holdEnd = none) ∧
    (∃ (c : Fin 2) (e : Nat) (s : State), up s = true ∧ (canAt s c).mode = .busOff ∧ (canAt s c).holdEnd = some e) ∧
    (∃ (r : Req) (c : Fin 2) (e : Nat) (s : State), may s r 2 = true ∧ canServed s c.val = true ∧ (canAt s c).mode = .busOff ∧ (canAt s c).holdEnd = some e) ∧
    (∃ (r : Req) (c : Fin 2) (s : State), may s r 2 = true ∧ canServed s c.val = true) ∧
    (∃ (c : Fin 2) (_e : CanErr) (_eight : Bool) (s : State), up s = true ∧ (canAt s c).mode = .normal) :=
  ⟨⟨0, { (canAs fun k => { k with mode := .listening }) with canvas := State.reset.canvas }, by decide +kernel⟩,
    ⟨0, canAs fun k => { k with mode := .restricted, idleSeen := true }, by decide +kernel⟩,
    ⟨0, canAs fun k => { k with mode := .normal, tec := 256 }, by decide +kernel⟩,
    ⟨0, canAs fun k => { k with mode := .busOff }, by decide +kernel⟩,
    ⟨0, 5, canAs fun k => { k with mode := .busOff, holdEnd := some 5 }, by decide +kernel⟩,
    ⟨host, 0, 5, canAs fun k => { k with mode := .busOff, holdEnd := some 5 }, by decide +kernel⟩,
    ⟨host, 0, site, by decide +kernel⟩,
    ⟨0, .form, false, canAs fun k => { k with mode := .normal }, by decide +kernel⟩⟩

/-- What CanFrames assumes is met. -/
theorem witness_CanFrames :
    (∃ (c : Fin 2) (f : CanFrame) (s : State), up s = true ∧ (canAt s c).mode = .restricted ∧ f.fdf = false) ∧
    (∃ (c : Fin 2) (b : Fin 8) (_x : Word) (s : State), up s = true ∧ segDutyHeld s c.val = true ∧ (vat (canAt s c).bufs ⟨b.val, by omega⟩).full = true) ∧
    (∃ (c : Fin 2) (b : Fin 48) (_x : Word) (s : State), up s = true ∧ segDutyHeld s c.val = true ∧ 8 ≤ b.val ∧ (vat (canAt s c).bufs ⟨b.val, by omega⟩).full = true ∧ (canAt s c).fifo.head? = some b.val) ∧
    (∃ (c : Fin 2) (b : Fin 48) (s : State), up s = true ∧ (vat (canAt s c).bufs ⟨b.val, by omega⟩).locked = true ∧ (vat (canAt s c).bufs ⟨b.val, by omega⟩).lockedAt + 1 ≤ now s) ∧
    (∃ (c : Fin 2) (k : Fin 16) (_f : CanFrame) (s : State), up s = true ∧ (txBuf (canAt s c) k).full = false) ∧
    (∃ (c : Fin 2) (k : Fin 16) (_p : TxPoint) (s : State), up s = true ∧ (txBuf (canAt s c) k).full = true ∧ (txBuf (canAt s c) k).won = false) ∧
    (∃ (c : Fin 2) (k : Fin 16) (_d : BitVec 7) (s : State), up s = true ∧ (canAt s c).mode = .normal ∧ (canAt s c).tec ≤ 255 ∧ (txBuf (canAt s c) k).full = true ∧ (txBuf (canAt s c) k).fdf = false) ∧
    (∃ (c : Fin 2) (k : Fin 16) (s : State), up s = true ∧ (canAt s c).mode = .normal ∧ (canAt s c).tec ≤ 255 ∧ (txBuf (canAt s c) k).full = true) ∧
    (∃ (c : Fin 2) (k : Fin 16) (s : State), up s = true ∧ (canAt s c).mode = .normal ∧ (canAt s c).tec ≤ 255 ∧ (txBuf (canAt s c) k).full = true ∧ (txBuf (canAt s c) k).cancel = false) :=
  ⟨⟨0, ⟨5, false, false, false, false, false, 0, []⟩, canAs fun k => { k with mode := .restricted }, by decide +kernel⟩,
    ⟨0, 7, 0, canAs fun k => { k with bufs := k.bufs.map fun b => { b with full := true } }, by decide +kernel⟩,
    ⟨0, 8, 0, canAs fun k => { k with bufs := k.bufs.map (fun b => { b with full := true }), fifo := [8] }, by decide +kernel⟩,
    ⟨0, 47, canAs fun k => { k with bufs := k.bufs.map fun b => { b with locked := true } }, by decide +kernel⟩,
    ⟨0, 15, ⟨5, false, false, false, false, false, 0, []⟩, site, by decide +kernel⟩,
    ⟨0, 15, .waiting, canAs fun k => { k with bufs := k.bufs.map fun b => { b with full := true } }, by decide +kernel⟩,
    ⟨0, 15, 3, canAs fun k => { k with mode := .normal, tec := 255, bufs := k.bufs.map fun b => { b with full := true } }, by decide +kernel⟩,
    ⟨0, 0, canAs fun k => { k with mode := .normal, bufs := k.bufs.map fun b => { b with full := true } }, by decide +kernel⟩,
    ⟨0, 0, canAs fun k => { k with mode := .normal, bufs := k.bufs.map fun b => { b with full := true } }, by decide +kernel⟩⟩

/-- What Amendments assumes is met. -/
theorem witness_Amendments :
    (∃ (r : Req) (s : State), may s r 2 = true ∧ mayOpen (noteOwner s r) = true) ∧
    (∃ (r : Req) (s : State), may s r 2 = true ∧ ownsAmend s r = true) ∧
    (∃ (r : Req) (s : State), may s r 2 = true) ∧
    (∃ (s : State), up s = true ∧ s.nor.amend = .open_ ∧ s.nor.amendAt + 60000 ≤ now s) ∧
    (∃ (s : State), up s = true ∧ s.nor.amend = .checking) :=
  ⟨⟨host, site, by decide +kernel⟩,
    ⟨host, norAs fun n => { n with amend := .open_, ownerMac := 1, ownerSess := 7 }, by decide +kernel⟩,
    ⟨host, site, by decide +kernel⟩,
    ⟨norAs fun n => { n with amend := .open_ }, by decide +kernel⟩,
    ⟨norAs fun n => { n with amend := .checking }, by decide +kernel⟩⟩

/-- What CommitSteps assumes is met. -/
theorem witness_CommitSteps :
    (∃ (w : CommitFor) (l : List CommitFor) (s : State), up s = true ∧ norBusy s = false ∧ commitDue s = true ∧ s.nor.waiting = w :: l) ∧
    (∃ (j : NorJob) (ok : Bool) (s : State), up s = true ∧ s.nor.job = some j ∧ 1 ≤ j.step ∧ j.step ≤ 7 ∧ (ok = true ∨ j.step ≤ 4 ∨ j.step = 7)) ∧
    (∃ (j : NorJob) (s : State), up s = true ∧ s.nor.job = some j ∧ j.step = 1) ∧
    (∃ (j : NorJob) (s : State), up s = true ∧ s.nor.job = some j ∧ j.step = 2) ∧
    (∃ (j : NorJob) (s : State), up s = true ∧ s.nor.job = some j ∧ j.step = 6 ∧ Mem.wf norByte s.nor.bytes = true) ∧
    (∃ (j : NorJob) (s : State), up s = true ∧ s.nor.job = some j ∧ j.step = 7 ∧ Mem.wf norByte s.nor.bytes = true) ∧
    (∃ (j : NorJob) (s : State), up s = true ∧ s.nor.job = some j ∧ 8 ≤ j.step) ∧
    (∃ (j : NorJob) (s : State), up s = true ∧ s.nor.job = some j ∧ 5 ≤ j.step ∧ j.step ≠ 7) :=
  ⟨⟨.repair, [], norAs fun n => { n with waiting := [.repair] }, by decide +kernel⟩,
    ⟨{ step := 3 }, false, norAs fun n => { n with job := some { step := 3 } }, by decide +kernel⟩,
    ⟨{ step := 1 }, norAs fun n => { n with job := some { step := 1 } }, by decide +kernel⟩,
    ⟨{ step := 2 }, norAs fun n => { n with job := some { step := 2 } }, by decide +kernel⟩,
    ⟨{ step := 6 }, norAs fun n => { n with job := some { step := 6 } }, by decide +kernel⟩,
    ⟨{ step := 7 }, norAs fun n => { n with job := some { step := 7 } }, by decide +kernel⟩,
    ⟨{ step := 8 }, norAs fun n => { n with job := some { step := 8 } }, by decide +kernel⟩,
    ⟨{ step := 5, failures := 1 }, norAs fun n => { n with job := some { step := 5, failures := 1 } }, by decide +kernel⟩⟩

/-- What ImageLoads assumes is met. -/
theorem witness_ImageLoads :
    (∃ (r : Req) (s : State), may s r 3 = true ∧ s.nor.image = .idle ∧ startComplete s = true ∧ norBusy s = false ∧ s.nor.amend = .idle ∧ 0 < norQ s) ∧
    (∃ (s : State), up s = true ∧ s.nor.image = .erasing) ∧
    (∃ (r : Req) (idx : BitVec 23) (_w : Word) (s : State), may s r 3 = true ∧ s.nor.image = .receiving ∧ idx.toNat = s.nor.imageNext.toNat ∧ Mem.wf norByte s.nor.bytes = true) ∧
    (∃ (r : Req) (s : State), may s r 3 = true ∧ s.nor.image = .receiving) ∧
    (∃ (r : Req) (s : State), may s r 3 = true ∧ s.nor.image = .receiving) ∧
    (∃ (s : State), up s = true ∧ s.nor.image = .receiving ∧ s.nor.imageAt + 600000 ≤ now s) ∧
    (∃ (s : State), up s = true ∧ s.nor.image = .verifying ∧ Mem.wf norByte s.nor.bytes = true) :=
  ⟨⟨host, site, by decide +kernel⟩,
    ⟨norAs fun n => { n with image := .erasing }, by decide +kernel⟩,
    ⟨host, 0, 5, norAs fun n => { n with image := .receiving }, by decide +kernel⟩,
    ⟨host, norAs fun n => { n with image := .receiving }, by decide +kernel⟩,
    ⟨host, norAs fun n => { n with image := .receiving }, by decide +kernel⟩,
    ⟨norAs fun n => { n with image := .receiving }, by decide +kernel⟩,
    ⟨norAs fun n => { n with image := .verifying }, by decide +kernel⟩⟩

/-- What RecorderStart assumes is met. -/
theorem witness_RecorderStart :
    (∃ (_info : NandInfo) (s : State), up s = true ∧ s.linen.st = .scanning ∧ s.linen.scanned = false) ∧
    (∃ (s : State), up s = true ∧ s.linen.st = .indexing) ∧
    (∃ (s : State), up s = true ∧ histReady s = true ∧ s.linen.staged.length * 4 < stagingCap * 3) ∧
    (∃ (s : State), up s = true ∧ s.linen.dropping = true) :=
  ⟨⟨⟨2, 0, 16, 16, [], 0xFF, 0x3F⟩, linenAs fun l => { l with st := .scanning }, by decide +kernel⟩,
    ⟨linenAs fun l => { l with st := .indexing }, by decide +kernel⟩,
    ⟨site, by decide +kernel⟩,
    ⟨linenAs fun l => { l with dropping := true, dropD := 3 }, by decide +kernel⟩⟩

/-- What PagesProgrammed assumes is met. -/
theorem witness_PagesProgrammed :
    (∃ (_ok : Bool) (b : NandBlock) (bs : List NandBlock) (s : State), up s = true ∧ histReady s = true ∧ (segment s).isEmpty = false ∧ s.nand.main = b :: bs ∧ b.pages < 64 ∧ mainReserve s < mainPlaces s) ∧
    (∃ (_ok : Bool) (s : State), up s = true ∧ histReady s = true ∧ (segment s).isEmpty = false ∧ hasPage s = false ∧ nextBlock s = none) ∧
    (∃ (block corrected : Nat) (b : NandBlock) (s : State), up s = true ∧ histReady s = true ∧ mainBusy s = false ∧ s.nand.main.find? (fun k => decide (k.id = block)) = some b ∧ (nextBlock s).isSome = true ∧ refreshDue s b.at_ b.wall corrected = true) ∧
    (∃ (trend : Bool) (block corrected b' : Nat) (b : TierBlock) (s : State), up s = true ∧ histReady s = true ∧ trendBusy s = false ∧ (∀ k ∈ s.nand.main, k.id ≠ block) ∧ (trend = true → tierBlockAt s false block = none) ∧ tierBlockAt s trend block = some b ∧ nextIn s trend = some b' ∧ b' ≠ block ∧ refreshDue s b.at_ b.wall corrected = true) ∧
    (∃ (block corrected : Nat) (b : NandBlock) (s : State), s.nand.main.find? (fun k => decide (k.id = block)) = some b ∧ opMs s < b.at_ + yearMs ∧ corrected < 16 ∧ b.wall = none) :=
  ⟨⟨true, { id := 9 }, [], { staging with nand := { site.nand with main := [{ id := 9 }] } }, by decide +kernel⟩,
    ⟨true, { staging with nand := { site.nand with gib0 := 0 } }, by decide +kernel⟩,
    ⟨9, 16, { id := 9 }, { site with nand := { site.nand with main := [{ id := 9 }] } }, by decide +kernel⟩,
    ⟨true, 4000, 16, (nextIn (trendsOf 4000) true).get (by decide +kernel), { id := 4000, pages := 7 }, trendsOf 4000, by decide +kernel⟩,
    ⟨9, 15, { id := 9 }, { site with nand := { site.nand with main := [{ id := 9 }] } }, by decide +kernel⟩⟩

/-- What CursorRequests assumes is met. -/
theorem witness_CursorRequests :
    (∃ (_r : Req) (_c : Fin 8) (s : State), up s = true ∧ histReady s = true) ∧
    (∃ (r : Req) (c : Fin 8) (s : State), up s = true ∧ ownsCursor s r c = true) ∧
    (∃ (c : Fin 8) (s : State), up s = true ∧ (cursorAt s c).owned = true ∧ (cursorAt s c).at_ + 60000 ≤ now s) ∧
    (∃ (r : Req) (c : Fin 8) (_w : Word) (s : State), up s = true ∧ ownsCursor s r c = true) ∧
    (∃ (r : Req) (c : Fin 8) (s : State), up s = true ∧ ownsCursor s r c = true) ∧
    (∃ (r : Req) (c : Fin 8) (s : State), up s = true ∧ ownsCursor s r c = true) ∧
    (∃ (r : Req) (c : Fin 8) (s : State), up s = true ∧ ownsCursor s r c = true) ∧
    (∃ (c : Fin 8) (_bad : List (Word × Word)) (s : State), up s = true ∧ s.linen.st = .inService ∧ (cursorAt s c).busy = true) :=
  ⟨⟨host, 7, site, by decide +kernel⟩,
    ⟨host, 7, mine, by decide +kernel⟩,
    ⟨7, mine, by decide +kernel⟩,
    ⟨host, 7, 5, mine, by decide +kernel⟩,
    ⟨host, 7, mine, by decide +kernel⟩,
    ⟨host, 7, mine, by decide +kernel⟩,
    ⟨host, 7, mine, by decide +kernel⟩,
    ⟨7, [], mine, by decide +kernel⟩⟩

/-- What Trends assumes is met. -/
theorem witness_Trends :
    (∃ (p : Nat) (l : LocalPt) (s : State), up s = true ∧ (s.points.map Prod.fst).Nodup ∧ tget s.points p = some l ∧ l.byDuty = false) ∧
    (∃ (p : Nat) (l : LocalPt) (s : State), up s = true ∧ (s.points.map Prod.fst).Nodup ∧ tget s.points p = some l ∧ l.byDuty = false) :=
  ⟨⟨7, { evaluated := true }, site, by decide +kernel⟩,
    ⟨7, { evaluated := true }, site, by decide +kernel⟩⟩

/-- What ClockCounts assumes is met. -/
theorem witness_ClockCounts :
    (∃ (s : State), up s = false) ∧
    (∃ (s : State), up s = true) ∧
    (∃ (_x : Int) (s : State), (cfgTimeTimeSource s ≠ 1 ∨ s.ring.ptp.st ≠ .slave)) ∧
    (∃ (_x : Int) (s : State), up s = true ∧ cfgTimeTimeSource s = 1 ∧ s.ring.ptp.st = .slave) :=
  ⟨⟨State.reset, by decide +kernel⟩,
    ⟨site, by decide +kernel⟩,
    ⟨5, site, by decide +kernel⟩,
    ⟨946684900000000000, { site with cfg := { site.cfg with run := [(4, sectOf [] [])] }, ring := { site.ring with ptp := { site.ring.ptp with st := .slave } } }, by decide +kernel⟩⟩

/-- What ClockRequests assumes is met. -/
theorem witness_ClockRequests :
    (∃ (r : Req) (_sec _sub : Option Word) (s : State), may s r 2 = true ∧ fnReady s 0x02 0 = true) ∧
    (∃ (r : Req) (s : State), may s r 2 = true ∧ fnReady s 0x02 0 = true) ∧
    (∃ (r : Req) (s : State), may s r 2 = true ∧ fnReady s 0x02 0 = true) ∧
    (∃ (s : State), up s = true ∧ s.bkup.staged = true ∧ s.bkup.stagedAt + 10000 ≤ now s) ∧
    (∃ (r : Req) (_w : Word) (s : State), may s r 2 = true ∧ fnReady s 0x02 0 = true ∧ s.bkup.shiftLeft = 0 ∧ cfgTimeTimeSource s ≠ 1) ∧
    (∃ (s : State), s.bkup.shiftLeft ≠ 0) ∧
    (∃ (r : Req) (_w : Word) (s : State), may s r 2 = true ∧ fnReady s 0x02 0 = true) ∧
    (∃ (s : State), up s = true ∧ cfgTimeAutoTrim s = 1 ∧ s.bkup.quality = .synced ∧ s.bkup.trimAt + 600000 ≤ now s) ∧
    (∃ (s : State), up s = true ∧ hasRoom s 1 10) :=
  ⟨⟨host, some 5, some 6, site, by decide +kernel⟩,
    ⟨host, site.modBkup fun b => { b with staged := true, stageSec := 7, stageSub := 32767 }, by decide +kernel⟩,
    ⟨host, site, by decide +kernel⟩,
    ⟨site.modBkup fun b => { b with staged := true }, by decide +kernel⟩,
    ⟨host, 0x8001, site, by decide +kernel⟩,
    ⟨site.modBkup fun b => { b with shiftLeft := 5 }, by decide +kernel⟩,
    ⟨host, 31, site, by decide +kernel⟩,
    ⟨{ site with cfg := { site.cfg with run := [] }, bkup := { site.bkup with quality := .synced, shiftSum := 20, trimAt := 1400000 } }, by decide +kernel⟩,
    ⟨site, by unfold hasRoom; decide +kernel⟩⟩

/-- What BackupAndShutdown assumes is met. -/
theorem witness_BackupAndShutdown :
    (∃ (_mv : BitVec 12) (s : State), up s = true ∧ s.bkup.onVbat = false) ∧
    (∃ (r : Req) (s : State), may s r 3 = true ∧ fnReady s 0x02 0 = true) ∧
    (∃ (a : Nat) (s : State), up s = true ∧ s.bkup.shutWait = some a ∧ (s.linen.staged = [] ∨ a + 2000 ≤ now s)) ∧
    (∃ (s : State), s.bkup.shutdown = true ∧ s.bkup.wakeAt ≠ 0 ∧ s.bkup.wakeAt.toNat ≤ s.bkup.seconds.toNat) :=
  ⟨⟨999, site, by decide +kernel⟩,
    ⟨host, site, by decide +kernel⟩,
    ⟨100, site.modBkup fun b => { b with shutWait := some 100 }, by decide +kernel⟩,
    ⟨site.modBkup fun b => { b with shutdown := true, wakeAt := 100 }, by decide +kernel⟩⟩

/-- What CountersAndDumps assumes is met. -/
theorem witness_CountersAndDumps :
    (∃ (k : Fin 16) (_x : Word) (_src : SampleSrc) (s : State), up s = true ∧ samplerRuns s k = true ∧ chainHigh s k = none ∧ isChainHigh s k = false) ∧
    (∃ (k h : Fin 16) (_x : Word) (_src : SampleSrc) (s : State), up s = true ∧ samplerRuns s k = true ∧ chainHigh s k = some h ∧ (samplerAt s h).count ≠ 0xFFFFFFFF) ∧
    (∃ (r : Req) (_k : Fin 16) (_w : Word) (s : State), may s r 2 = true) ∧
    (∃ (r : Req) (_k : Fin 16) (_v : Word) (s : State), may s r 2 = true) ∧
    (∃ (r : Req) (k j : Fin 16) (_hi _lo : Word) (s : State), may s r 2 = true ∧ isChainHigh s k = true ∧ j.val = k.val + 1) ∧
    (∃ (r : Req) (s : State), may s r 2 = true) ∧
    (∃ (n : Nat) (s : State), up s = true ∧ fnReady s 0xA 0 = true ∧ s.bkup.timeKnown = true ∧ 0 < (cfgCtrDumpPeriodS s).toNat ∧ s.perf.dumpAt < n * (1000 * (cfgCtrDumpPeriodS s).toNat) ∧ n * (1000 * (cfgCtrDumpPeriodS s).toNat) ≤ opMs s) ∧
    (∃ (s : State), cfgCtrDumpPeriodS s = 0) ∧
    (∃ (r : Req) (s : State), may s r 1 = true) ∧
    (∃ (mac : BitVec 48) (d : Dump) (n : Nat) (s : State), up s = true ∧ subscribers s 0x90100023 = [mac] ∧ s.perf.waiting = 0 ∧ s.perf.unsent = n + 1 ∧ s.perf.dumps[n]? = some d ∧ originBytes s 3 + 4488 ≤ originCap 3) ∧
    (∃ (s : State), up s = true) ∧
    (∃ (r : Req) (seq : Word) (mac : BitVec 48) (d : Dump) (s : State), may s r 1 = true ∧ subscribers s 0x90100023 = [mac] ∧ s.perf.dumps.find? (fun k => k.seq == seq) = some d ∧ originBytes s 3 + 4488 ≤ originCap 3) :=
  ⟨⟨15, 3, ⟨0, false, 0, 0⟩, site.modSampler 15 fun c => { c with enable := true, sample := true, event := 0x8000 }, by decide +kernel⟩,
    ⟨15, 14, 3, ⟨0, false, 0, 0⟩, (site.modSampler 15 fun c => { c with enable := true, event := 0x8000 }).modSampler 14 fun c => { c with chain := true }, by decide +kernel⟩,
    ⟨host, 15, 0xC0008000, site, by decide +kernel⟩,
    ⟨host, 15, 5, site, by decide +kernel⟩,
    ⟨host, 14, 15, 5, 6, site.modSampler 14 fun c => { c with chain := true }, by decide +kernel⟩,
    ⟨host, site, by decide +kernel⟩,
    ⟨1, { site with bkup := { site.bkup with opLo := Pair.mk0 60000 } }, by decide +kernel⟩,
    ⟨{ site with cfg := { site.cfg with run := [(15, sectOf [(1, 0)] [])] } }, by decide +kernel⟩,
    ⟨host, site, by decide +kernel⟩,
    ⟨1, {}, 0, { feeding with perf := { site.perf with dumps := [{}], unsent := 1 } }, by decide +kernel⟩,
    ⟨feeding, by decide +kernel⟩,
    ⟨host, 0, 1, {}, { feeding with perf := { site.perf with dumps := [{}] } }, by decide +kernel⟩⟩

/-- What QuadEpochs assumes is met. -/
theorem witness_QuadEpochs :
    ∃ (cause : BitVec 2) (cut : Option Nat) (s t : State) (_q : Fin 4), up s = true ∧ exec (.logicResetAssert cause cut) s = .next t :=
  ⟨0, none, site, resetLogic site 0 none, 3, rfl, rfl⟩

/-- What MemoryReadsWhatWasWritten assumes is met. -/
theorem witness_MemoryReadsWhatWasWritten :
    ∃ (d : BitVec 8) (m : Mem) (_a : Nat) (_w : Word), Mem.wf d m = true :=
  ⟨0, [(3, 1)], 2, 0x01020304, by decide +kernel⟩

/-! Well-formedness: one ill-formed command for each check, and a well-formed one beside it. -/

/-- A function code that R83 does not list is ill formed. -/
theorem test_wf_function : Instr.wf (.functionReady 0x0C 0) = false ∧ Instr.wf (.functionReady 0x0B 0) = true := by decide

/-- Features are numbered from 1 to 64. -/
theorem test_wf_feature : Instr.wf (.featureUpdate 0 65) = false ∧ Instr.wf (.featureStaleTimeout 0 0) = false ∧
    Instr.wf (.featureUpdate 0 64) = true := by decide

/-- A beat carries one to four words. -/
theorem test_wf_beat : Instr.wf (.fabricRequest .link .dram (some []) 1 0 true) = false ∧
    Instr.wf (.fabricRequest .link .dram none 5 0 true) = false ∧
    Instr.wf (.fabricRequest .link .dram (some [1, 2, 3, 4]) 4 0 true) = true := by decide

/-- Mapped-receive entries are numbered from 1 to 512. -/
theorem test_wf_mapped : Instr.wf (.mappedTimeout 0 513) = false ∧ Instr.wf (.mappedTimeout 0 512) = true := by decide

/-- A CAN frame carries at most 64 bytes. -/
theorem test_wf_frame :
    Instr.wf (.canFrameReceive 0 ⟨5, false, true, false, false, false, 15, List.replicate 17 0⟩) = false ∧
    Instr.wf (.txRequest 0 0 ⟨5, false, true, false, false, false, 15, List.replicate 16 0⟩) = true := by decide

/-- Panels are numbered from 0 to 47. -/
theorem test_wf_panel : Instr.wf (.panelHeartbeat 0 48 [1]) = false ∧ Instr.wf (.panelLostTimeout 0 48) = false ∧
    Instr.wf (.panelAckFrame 0 47 (List.replicate 17 0)) = false ∧ Instr.wf (.panelAckFrame 0 47 [1]) = true := by decide

/-- Shelving takes at least a minute. -/
theorem test_wf_shelve : Instr.wf (.shelve host 7 0 ⟨0, true, 0, 0, 0, 0, 0⟩) = false := by decide

/-- A request carries 1 to 360 words. -/
theorem test_wf_words : Instr.wf (.berebRead hostRq 0 361) = false ∧ Instr.wf (.berebWrite hostRq 0 []) = false ∧
    Instr.wf (.berebSubscribe hostRq 0 0 0) = false ∧ Instr.wf (.registerWrite host 0 []) = false ∧
    Instr.wf (.fwWindowWrite host 0 []) = false ∧ Instr.wf (.imageWindowWrite host 0 []) = false ∧
    Instr.wf (.countWrite host 0 []) = false ∧ Instr.wf (.berebRead hostRq 0 360) = true := by decide

/-! Values that the spec's own figures fix. -/

/-- A pair checks only where C is the complement of V (R11). -/
theorem test_pair : Pair.ok ⟨5, 0xFFFFFFFA⟩ = true ∧ Pair.ok ⟨5, 0xFFFFFFFB⟩ = false := by decide

/-- The IEEE 802.3 CRC and the CRC-32C of "123456789" (R106, R443). -/
theorem test_crc :
    crc32 [0x31, 0x32, 0x33, 0x34, 0x35, 0x36, 0x37, 0x38, 0x39] = 0xCBF43926 ∧
    crc32c [0x31, 0x32, 0x33, 0x34, 0x35, 0x36, 0x37, 0x38, 0x39] = 0xE3069283 := by decide +kernel

/-- Binary32 on both paths: 1 + 2 = 3, 1 / 3 rounds to nearest, 0 / 0 is the canonical NaN (R54). -/
theorem test_float :
    fAdd 0x3F800000 0x40000000 = 0x40400000 ∧ fDiv 0x3F800000 0x40400000 = 0x3EAAAAAB ∧ fIsNan (fDiv 0 0) = true := by
  decide +kernel

/-- After reset the logic side is held, the queue is empty, no function is READY (R78). -/
theorem test_reset : up State.reset = false ∧ State.reset.pending = [] ∧ State.reset.sys.fns = [] := by decide +kernel

/-- The command in front of the queue runs, and the queue goes on with the next. -/
theorem test_step :
    step { State.reset with pending := [.oscillatorStart, .opMsIncrement] } =
      .next { State.reset with pending := [.opMsIncrement], gauze := { State.reset.gauze with internalOsc := false } } := rfl

/-- An epoch of 0xFFFF passes to 0x0001 (R19). -/
theorem test_epoch : nextEpoch 0xFFFF = 1 ∧ nextEpoch 0x0001 = 2 := by decide

/-- 0.75 of 100 is 75 (R192). -/
theorem test_quarter : fMul 0x3F400000 0x42C80000 = 0x42960000 := by decide +kernel

/-- A shift of −32 767 ticks waits, and one of +1 moves the count at once, over the second (R528). -/
theorem test_shift :
    (writeShift site 0x8001).bkup.shiftLeft = 32767 ∧
    (writeShift (site.modBkup fun b => { b with sub := 32767 }) 1).bkup.seconds = 101 := by decide +kernel

/-- A write of a critical register whose pair fails leaves it (R8, R60). -/
theorem test_write_pair :
    (uaiAt (writeObjs site host 0x4000000A [5, 0xFFFFFFFA]) 0).trimRef = Pair.mk0 5 ∧
    (uaiAt (writeObjs site host 0x4000000A [5, 5]) 0).trimRef = (uaiAt site 0).trimRef := by decide +kernel

/-- An unused address reads as zero, and NODE_ID names the node (R8, R100). -/
theorem test_read : readObjs site host 0xD0000000 2 = [0, 0] := by decide +kernel

/-! Witnesses of the statements whose hypotheses are not of one line. -/

/-- What OperatorActions assumes of the requester is met at every level it names. -/
theorem witness_OperatorActions_level : may site host 1 = true ∧ may site host 2 = true := by decide +kernel

/-- What StepKeepsInvariant and FltFollowsConditions assume is met by a step. -/
theorem witness_StepKeepsInvariant : ∃ s t : State, Inv s ∧ step s = .next t :=
  ⟨{ State.reset with pending := [.oscillatorStart] }, _, ⟨by decide +kernel, by decide +kernel, by decide +kernel⟩, rfl⟩

/-- A step of a node whose start is complete, with FLTn as its conditions ask. -/
theorem witness_FltFollowsConditions : ∃ s t : State,
    (startComplete s = true → s.pins.fltn = !(List.finRange 64).any fun k => sysActive s k && decide (2 ≤ sysPrio k.val)) ∧
    step s = .next t ∧ startComplete t = true :=
  ⟨{ site with pins := { site.pins with fltn := true }, pending := [.oscillatorStart] }, _, fun _ => by decide +kernel, rfl,
    by decide +kernel⟩

/-- A quad enters RESET, and one does not. -/
theorem witness_QuadEpochs_change : (∃ (c : Instr) (s t : State) (q : Fin 4), (∀ cause mid, c ≠ .logicResetAssert cause mid) ∧
      exec c s = .next t ∧ entersGone (quadAt s q).st (quadAt t q).st) ∧
    ∃ (c : Instr) (s t : State) (q : Fin 4), (∀ cause mid, c ≠ .logicResetAssert cause mid) ∧
      exec c s = .next t ∧ ¬ entersGone (quadAt s q).st (quadAt t q).st :=
  ⟨⟨.quadPowerOn 0, quadsIn .off, (quadsIn .off).modQuad 0 Quad.toReset, 0, fun _ _ => Instr.noConfusion, if_pos (by decide +kernel), by unfold entersGone; decide +kernel⟩,
    ⟨.oscillatorStart, site, _, 0, fun _ _ => Instr.noConfusion, rfl, by unfold entersGone; decide +kernel⟩⟩

/-- Two equal memories in canonical form. -/
theorem witness_MemoryReads_equal : ∃ m n : Mem, Mem.wf 0 m = true ∧ Mem.wf 0 n = true ∧ ∀ a, memGet 0 m a = memGet 0 n a :=
  ⟨[(3, 1)], [(3, 1)], by decide, by decide, fun _ => rfl⟩

/-- Commands that write no NOR and no DRAM run, and those that write a ring. -/
theorem witness_MemoryReads_bytes :
    (∃ c s t, writesNor c = false ∧ exec c s = .next t) ∧ (∃ c s t, writesDram c = false ∧ exec c s = .next t) ∧
    (∃ s t, sampleAt s 1 0 = some 0 ∧ exec (.waveformSampleWrite 1 0 0 0 false) s = .next t) ∧
    (∃ s t, exec (.frequencyEdge 2 9 0 0) s = .next t) :=
  ⟨⟨.wakenLow, site, _, rfl, rfl⟩, ⟨.wakenLow, site, _, rfl, rfl⟩, ⟨site, _, by decide +kernel,
      (show execWaveformSampleWrite 1 0 0 0 false site = _ by
        unfold execWaveformSampleWrite; rw [show sampleAt site (1 : Fin 16).val (0 : BitVec 64).toNat = some 0 by decide +kernel]; rfl)⟩, ⟨site, _, rfl⟩⟩

/-- A DRAM write that waits for its reply: of word 0x10, not accepted, not done. -/
def waitingWrite : FabReq := { id := 5, req := .gauze, tgt := .dram, write := some [0xAABBCCDD], addr := 0x10 }

/-- A fabric write that is delivered. -/
theorem witness_MemoryReads_fabric : ∃ (s : State) (t : State) (ws : List Word),
    (s.fabric.out.find? fun r => decide (r.id = 5)) = some waitingWrite ∧ exec (.fabricReplyDelivery 5) s = .next t ∧ up s = true ∧
    Mem.wf ramByte s.dram.bytes = true ∧ waitingWrite.write = some ws ∧ 0 < ws.length ∧ waitingWrite.tgt = .dram ∧
    waitingWrite.done = false ∧ waitingWrite.accepted = false ∧ unitEpoch s .dram = waitingWrite.tgtEpoch :=
  ⟨{ site with fabric := { site.fabric with out := [waitingWrite] } }, _, [0xAABBCCDD], rfl, rfl, by decide, by decide, rfl,
    by decide, rfl, rfl, rfl, rfl⟩

/-- The delivered write stands in DRAM, the lowest byte address first (R20, R22). -/
theorem test_fabric_write : ∃ t,
    exec (.fabricReplyDelivery 5) { site with fabric := { site.fabric with out := [waitingWrite] } } = .next t ∧
    memWord ramByte t.dram.bytes 0x10 = 0xAABBCCDD ∧ memGet ramByte t.dram.bytes 0x10 = 0xAA :=
  ⟨_, rfl, by decide +kernel, by decide +kernel⟩

/-- A command of each group of families runs. -/
theorem witness_Frames :
    (∃ c s t, family c = .field ∧ exec c s = .next t) ∧ (∃ c s t, family c = .discrete ∧ exec c s = .next t) ∧
    (∃ c s t, family c = .ring ∧ exec c s = .next t) ∧ (∃ c s t, family c = .time ∧ exec c s = .next t) :=
  ⟨⟨.vfldThresholdCross 20000, site, _, rfl, rfl⟩, ⟨.doPatternEdge 0, site, _, rfl, rfl⟩,
    ⟨.clearPeaks host, site, _, rfl, rfl⟩, ⟨.wakenLow, site, _, rfl, rfl⟩⟩

/-- A command of one input, one output, one cursor and one counter runs. -/
theorem witness_Frames_one :
    (∃ c s t ch k, oneInput c = some ch ∧ exec c s = .next t ∧ k ≠ ch) ∧
    (∃ c s t n k, oneLoop c = some n ∧ exec c s = .next t ∧ k ≠ n) ∧
    (∃ c s t n k, oneCursor c = some n ∧ exec c s = .next t ∧ k ≠ n) ∧
    (∃ c s t n k, oneSampler c = some n ∧ exec c s = .next t ∧ k ≠ n) :=
  ⟨⟨.trimZero host 0, site, _, 0, 1, rfl, rfl, by decide⟩, ⟨.openTestPulse 0 0 true, site, _, 0, 1, rfl, rfl, by decide⟩,
    ⟨.cursorClaim host 7, site, _, 7, 0, rfl, rfl, by decide⟩,
    ⟨.samplerSelectWrite host 15 0, site, _, 15, 14, rfl, rfl, by decide⟩⟩

/-- The example of chapter 7: with 1 024 lines at 25.6 kS/s, 10 Hz to 1 000 Hz holds lines 1 to 80 and the span lasts 200 ms;
a feature of type 5 without a speed channel is not computed (R221, R222, R227). -/
theorem test_feature_band :
    inBand site 0 2 0 = false ∧ inBand site 0 2 1 = true ∧ inBand site 0 2 80 = true ∧ inBand site 0 2 81 = false ∧
    spanMs site 0 2 = 200 ∧ speedLost site 0 2 = false ∧ speedLost site 0 1 = true := by decide +kernel

end Sys2Proof.Tests
end

section
/-! SUPPORT. What leaves the quads alone: one lemma per operation and per command, in the order of the model, `after` giving the
state that a command leaves. In a few of them the operation and the search that it matches on are made variables before the
operation is unfolded: the kernel compares two forms of a match by evaluating what they match on, and the search is long. -/

namespace Sys2Proof.Machine
open Sys2Proof

/-! Outcomes and options. -/

@[simp] theorem after_doIf (b : Bool) (s t u : State) : after (doIf b s t) u = if b then t else s := by
  cases b <;> rfl

@[simp] theorem after_next (s t : State) : after (.next t) s = t := rfl

@[simp] theorem draw_quads (s : State) : (draw s).2.quads = s.quads := rfl

theorem getD_quads {o : Option State} {s u : State} (h : ∀ t ∈ o, t.quads = s.quads) (hu : u.quads = s.quads) :
    (o.getD u).quads = s.quads := by
  cases o with
  | none => exact hu
  | some t => exact h t rfl

/-! Shared operations. -/

@[simp] theorem mapTasks_quads (s : State) (f : Task → Task) : (s.mapTasks f).quads = s.quads := by simp [State.mapTasks]

/-! Alarm actions (R325, R326, R333). -/

@[simp] theorem queueAct_quads (s : State) (p : Nat) (a : AlarmAct) : (queueAct s p a).quads = s.quads := by simp [queueAct]

@[simp] theorem ackSys_quads (s : State) (k : Fin 64) (seq : BitVec 16) : (ackSys s k seq).quads = s.quads := by
  unfold ackSys
  dsimp only
  (repeat' split) <;> simp

@[simp] theorem writeTo_quads (s : State) (n : Nat) (addr : Word) (ws : List Word) : (writeTo s n addr ws).quads = s.quads := by
  unfold writeTo
  split <;> simp
@[simp] theorem forwardAck_quads (s : State) (subject : Word) (seq : BitVec 16) : (forwardAck s subject seq).quads = s.quads := by
  unfold forwardAck
  split <;> simp

/-! The alarm engine (R312 to R349). -/

@[simp] theorem oweObservations_quads (r o : Nat) (wall : Option (BitVec 64)) (s : State) :
    (oweObservations r o wall s).quads = s.quads := by simp [oweObservations]
@[simp] theorem noteTrigger_quads (s : State) (p : Nat) : (noteTrigger s p).quads = s.quads := by simp [noteTrigger]

@[simp] theorem emitAlarm_quads (p : Nat) (t : Stamp) (kept : Bool) (s : State) (e : AEv) :
    (emitAlarm p t kept s e).quads = s.quads := by
  unfold emitAlarm
  dsimp only
  split <;> simp

@[simp] theorem emitAlarms_quads (p : Nat) (t : Stamp) (kept : Bool) (es : List AEv) (s : State) :
    (emitAlarms p t kept es s).quads = s.quads := by
  unfold emitAlarms
  split <;> simp

@[simp] theorem alarmEval_quads (s : State) (p : Nat) (e : EvalRes) (first fail : Bool) :
    (alarmEval s p e first fail).quads = s.quads := by
  unfold alarmEval
  split <;> simp

@[simp] theorem publishAlarm_quads (s : State) (p : Nat) (r : AlarmSt × List AEv) : (publishAlarm s p r).quads = s.quads := by
  unfold publishAlarm
  dsimp only
  split <;> simp

@[simp] theorem execShelveExpiry_quads (p : BitVec 16) (s : State) : (after (execShelveExpiry p s) s).quads = s.quads := by
  unfold execShelveExpiry
  split <;> simp
@[simp] theorem execHeldActionDiscard_quads (p : BitVec 16) (s : State) :
    (after (execHeldActionDiscard p s) s).quads = s.quads := by simp [execHeldActionDiscard]
@[simp] theorem engineCount_quads (s : State) (p v : Nat) : (engineCount s p v).quads = s.quads := by
  unfold engineCount
  split <;> simp
@[simp] theorem pathsDisagree_quads (s : State) (p : Nat) (ps : List Pair) :
    (pathsDisagree s p ps).quads = s.quads := by simp [pathsDisagree]

@[simp] theorem execAdaptEstimate_quads (p : BitVec 16) (bUpset : Word) (s : State) :
    (after (execAdaptEstimate p bUpset s) s).quads = s.quads := by
  unfold execAdaptEstimate
  split <;> simp

@[simp] theorem execSysAck_quads (r : Req) (code : BitVec 8) (seq : BitVec 16) (s : State) :
    (after (execSysAck r code seq s) s).quads = s.quads := by
  unfold execSysAck
  split <;> simp

@[simp] theorem ackAllOf_quads (s : State) (g : Nat) : (ackAllOf s g).quads = s.quads := by simp [ackAllOf]
@[simp] theorem execAckAll_quads (r : Req) (g : BitVec 8) (s : State) :
    (after (execAckAll r g s) s).quads = s.quads := by simp [execAckAll]
@[simp] theorem clearDamask_quads (s : State) (g : Nat) : (clearDamask s g).quads = s.quads := by simp [clearDamask]
@[simp] theorem execDamaskClear_quads (r : Req) (g : BitVec 8) (s : State) :
    (after (execDamaskClear r g s) s).quads = s.quads := by simp [execDamaskClear]
@[simp] theorem execSystemConditionChange_quads (code : Fin 64) (on : Bool) (s : State) :
    (after (execSystemConditionChange code on s) s).quads = s.quads := by simp [execSystemConditionChange]
@[simp] theorem clearTimed_quads (s : State) (k : Fin 64) : (clearTimed s k).quads = s.quads := by simp [clearTimed]
@[simp] theorem execSystemConditionClearTimer_quads (code : Fin 64) (s : State) :
    (after (execSystemConditionClearTimer code s) s).quads = s.quads := by simp [execSystemConditionClearTimer]

@[simp] theorem execDamaskObservation_quads (p root : BitVec 16) (s : State) :
    (after (execDamaskObservation p root s) s).quads = s.quads := by
  unfold execDamaskObservation
  split <;> simp

@[simp] theorem checkpointDamask_quads (s : State) : (checkpointDamask s).quads = s.quads := by simp [checkpointDamask]
@[simp] theorem execDamaskCheckpoint_quads (s : State) :
    (after (execDamaskCheckpoint s) s).quads = s.quads := by simp [execDamaskCheckpoint]

/-! Calling the engineer and panels (R351 to R378). -/

@[simp] theorem modCall_quads (s : State) (f : Call → Call) : (s.modCall f).quads = s.quads := by simp [State.modCall]
@[simp] theorem applyReq_quads (s : State) (q : CallReq) : (applyReq s q).quads = s.quads := by simp [applyReq]
@[simp] theorem applyWaiting_quads (s : State) : (applyWaiting s).quads = s.quads := by simp [applyWaiting]
@[simp] theorem request_quads (s : State) (src : CallFrom) (code : Nat) (q : CallReq) :
    (after (request s src code q) s).quads = s.quads := by simp [request]
@[simp] theorem execToManned_quads (src : CallFrom) (s : State) :
    (after (execToManned src s) s).quads = s.quads := by simp [execToManned]
@[simp] theorem execToUms_quads (src : CallFrom) (s : State) : (after (execToUms src s) s).quads = s.quads := by simp [execToUms]
@[simp] theorem execAcceptUms_quads (src : CallFrom) (s : State) :
    (after (execAcceptUms src s) s).quads = s.quads := by simp [execAcceptUms]
@[simp] theorem execSetDuty_quads (src : CallFrom) (eng : BitVec 8) (s : State) :
    (after (execSetDuty src eng s) s).quads = s.quads := by simp [execSetDuty]
@[simp] theorem execAcceptDuty_quads (src : CallFrom) (s : State) :
    (after (execAcceptDuty src s) s).quads = s.quads := by simp [execAcceptDuty]
@[simp] theorem execDeadmanStart_quads (src : CallFrom) (s : State) :
    (after (execDeadmanStart src s) s).quads = s.quads := by simp [execDeadmanStart]
@[simp] theorem execDeadmanReset_quads (src : CallFrom) (s : State) :
    (after (execDeadmanReset src s) s).quads = s.quads := by simp [execDeadmanReset]
@[simp] theorem execDeadmanStop_quads (src : CallFrom) (s : State) :
    (after (execDeadmanStop src s) s).quads = s.quads := by simp [execDeadmanStop]
@[simp] theorem execEngAlarm_quads (src : CallFrom) (s : State) :
    (after (execEngAlarm src s) s).quads = s.quads := by simp [execEngAlarm]
@[simp] theorem execEngAlarmReset_quads (src : CallFrom) (s : State) :
    (after (execEngAlarmReset src s) s).quads = s.quads := by simp [execEngAlarmReset]
@[simp] theorem execCallAccept_quads (src : CallFrom) (callId : BitVec 16) (s : State) :
    (after (execCallAccept src callId s) s).quads = s.quads := by simp [execCallAccept]
@[simp] theorem execRotaOn_quads (src : CallFrom) (eng : BitVec 8) (s : State) :
    (after (execRotaOn src eng s) s).quads = s.quads := by simp [execRotaOn]
@[simp] theorem execRotaOff_quads (src : CallFrom) (eng : BitVec 8) (s : State) :
    (after (execRotaOff src eng s) s).quads = s.quads := by simp [execRotaOff]
@[simp] theorem queueReq_quads (s : State) (q : CallReq) : (queueReq s q).quads = s.quads := by simp [queueReq]

@[simp] theorem writeCallAction_quads (s : State) (r : Req) (w : Word) : (writeCallAction s r w).quads = s.quads := by
  unfold writeCallAction
  dsimp only
  split <;> simp

@[simp] theorem stageTimer_quads (st : CallSt) (s : State) : (stageTimer st s).quads = s.quads := by simp [stageTimer]
@[simp] theorem handoverTimer_quads (s : State) : (handoverTimer s).quads = s.quads := by simp [handoverTimer]
@[simp] theorem prewarnTimer_quads (s : State) : (prewarnTimer s).quads = s.quads := by
  unfold prewarnTimer
  split <;> simp
@[simp] theorem deadTimer_quads (s : State) : (deadTimer s).quads = s.quads := by simp [deadTimer]
@[simp] theorem mannedNote_quads (s : State) : (mannedNote s).quads = s.quads := by simp [mannedNote]
@[simp] theorem mannedTimer_quads (s : State) : (mannedTimer s).quads = s.quads := by simp [mannedTimer]
@[simp] theorem callTimers_quads (s : State) : (callTimers s).quads = s.quads := by simp [callTimers]

@[simp] theorem timerStep_quads (s : State) (f : State → State) (h : (f (applyWaiting s)).quads = s.quads) :
    (after (timerStep s f) s).quads = s.quads := by
  simp [timerStep, h]

@[simp] theorem execAcceptTimeExpiry_quads (s : State) :
    (after (execAcceptTimeExpiry s) s).quads = s.quads := by simp [execAcceptTimeExpiry]
@[simp] theorem execBackupTimeExpiry_quads (s : State) :
    (after (execBackupTimeExpiry s) s).quads = s.quads := by simp [execBackupTimeExpiry]
@[simp] theorem execAttendTimeExpiry_quads (s : State) :
    (after (execAttendTimeExpiry s) s).quads = s.quads := by simp [execAttendTimeExpiry]
@[simp] theorem execHandoverTimeout_quads (s : State) :
    (after (execHandoverTimeout s) s).quads = s.quads := by simp [execHandoverTimeout]
@[simp] theorem execDeadmanPrewarn_quads (s : State) :
    (after (execDeadmanPrewarn s) s).quads = s.quads := by simp [execDeadmanPrewarn]
@[simp] theorem execDeadmanExpiry_quads (s : State) :
    (after (execDeadmanExpiry s) s).quads = s.quads := by simp [execDeadmanExpiry]
@[simp] theorem execMannedEscalateExpiry_quads (s : State) :
    (after (execMannedEscalateExpiry s) s).quads = s.quads := by simp [execMannedEscalateExpiry]
@[simp] theorem sendCallState_quads (s : State) : (sendCallState s).quads = s.quads := by simp [sendCallState]

@[simp] theorem callChecks_quads (s : State) : (callChecks s).quads = s.quads := by
  unfold callChecks
  dsimp only
  (repeat' split) <;> simp

@[simp] theorem mergeCall_quads (s : State) : (mergeCall s).quads = s.quads := by simp [mergeCall]
@[simp] theorem execCallDutyStep_quads (s : State) : (after (execCallDutyStep s) s).quads = s.quads := by simp [execCallDutyStep]
@[simp] theorem execCallStatePeriodic_quads (s : State) :
    (after (execCallStatePeriodic s) s).quads = s.quads := by simp [execCallStatePeriodic]
@[simp] theorem takeCallDuty_quads (s : State) : (takeCallDuty s).quads = s.quads := by simp [takeCallDuty]
@[simp] theorem dropCallDuty_quads (s : State) : (dropCallDuty s).quads = s.quads := by simp [dropCallDuty]
@[simp] theorem takeCallState_quads (s : State) (ws : List Word) : (takeCallState s ws).quads = s.quads := by simp [takeCallState]
@[simp] theorem panelConds_quads (s : State) : (panelConds s).quads = s.quads := by simp [panelConds]
@[simp] theorem execCallStateReceive_quads (src : Fin 64) (payload : List Word) (s : State) :
    (after (execCallStateReceive src payload s) s).quads = s.quads := by simp [execCallStateReceive]

@[simp] theorem execCallRequestReceive_quads (src : Fin 64) (payload : List Word) (s : State) :
    (after (execCallRequestReceive src payload s) s).quads = s.quads := by
  unfold execCallRequestReceive
  dsimp only
  (repeat' split) <;> simp

@[simp] theorem execCallPathTimeout_quads (s : State) :
    (after (execCallPathTimeout s) s).quads = s.quads := by simp [execCallPathTimeout]
@[simp] theorem modTwins_quads (s : State) (c p : Nat) (f : Panel → Panel) :
    (modTwins s c p f).quads = s.quads := by simp [modTwins]
@[simp] theorem execPanelAckFrame_quads (c : Fin 2) (panel : Fin 64) (ws : List Word) (s : State) :
    (after (execPanelAckFrame c panel ws s) s).quads = s.quads := by simp [execPanelAckFrame]
@[simp] theorem execPanelSilenceFrame_quads (c : Fin 2) (panel : Fin 64) (ws : List Word) (s : State) :
    (after (execPanelSilenceFrame c panel ws s) s).quads = s.quads := by simp [execPanelSilenceFrame]

@[simp] theorem forwardReq_quads (s : State) (c p code : Nat) (arg : BitVec 8) (id : BitVec 16) :
    (forwardReq s c p code arg id).quads = s.quads := by
  unfold forwardReq
  (repeat' split) <;> simp

@[simp] theorem execPanelRequestFrame_quads (c : Fin 2) (panel : Fin 64) (code : BitVec 8) (ws : List Word) (s : State) :
    (after (execPanelRequestFrame c panel code ws s) s).quads = s.quads := by simp [execPanelRequestFrame]
@[simp] theorem execPanelHeartbeat_quads (c : Fin 2) (panel : Fin 64) (ws : List Word) (s : State) :
    (after (execPanelHeartbeat c panel ws s) s).quads = s.quads := by simp [execPanelHeartbeat]
@[simp] theorem execPanelLostTimeout_quads (c : Fin 2) (panel : Fin 64) (s : State) :
    (after (execPanelLostTimeout c panel s) s).quads = s.quads := by simp [execPanelLostTimeout]
@[simp] theorem nodeBeat_quads (s : State) (c : Nat) : (nodeBeat s c).quads = s.quads := by simp [nodeBeat]
@[simp] theorem execPanelCommandPeriodic_quads (s : State) :
    (after (execPanelCommandPeriodic s) s).quads = s.quads := by simp [execPanelCommandPeriodic]
@[simp] theorem execPanelAlarmRepeat_quads (s : State) :
    (after (execPanelAlarmRepeat s) s).quads = s.quads := by simp [execPanelAlarmRepeat]

/-! What each output carries (R211, R239, R269). -/

@[simp] theorem refreshAo_quads (s : State) (n : Fin 4) : (refreshAo s n).quads = s.quads := by simp [refreshAo]
@[simp] theorem acqReach_quads (s : State) (tick : BitVec 64) : (acqReach s tick).quads = s.quads := by simp [acqReach]
@[simp] theorem refreshDo_quads (s : State) (n : Fin 8) : (refreshDo s n).quads = s.quads := by simp [refreshDo]
@[simp] theorem refreshOuts_quads (s : State) : (refreshOuts s).quads = s.quads := by simp [refreshOuts]
@[simp] theorem refreshOut_quads (s : State) (o : Fin 12) : (refreshOut s o).quads = s.quads := by
  unfold refreshOut
  split <;> simp

@[simp] theorem keepBefore_quads (s : State) : (keepBefore s).quads = s.quads := by
  unfold keepBefore
  dsimp only
  rw [foldl_quads _ _ _ fun _ _ => modDo_quads _ _ _, foldl_quads _ _ _ fun _ _ => modAo_quads _ _ _]

@[simp] theorem dieSafenTo_quads (s : State) (low : Bool) : (dieSafenTo s low).quads = s.quads := by simp [dieSafenTo]
@[simp] theorem wakePoint_quads (s : State) (p : Nat) : (wakePoint s p).quads = s.quads := by
  unfold wakePoint
  (repeat' split) <;> simp

/-! The field die, its ports and Felt (R62, R63, R95 to R98, R155 to R168). -/

@[simp] theorem energyRec_quads (s : State) (p : Fin 20) : (energyRec s p).quads = s.quads := by simp [energyRec]
@[simp] theorem lockedCond_quads (s : State) : (lockedCond s).quads = s.quads := by simp [lockedCond]
@[simp] theorem refreshPort_quads (s : State) (p : Fin 20) : (refreshPort s p).quads = s.quads := by
  unfold refreshPort
  split <;> simp
@[simp] theorem portTo_quads (s : State) (p : Fin 20) (f : Port → Port) : (portTo s p f).quads = s.quads := by simp [portTo]
@[simp] theorem startPort_quads (s : State) (p : Fin 20) : (startPort s p).quads = s.quads := by simp [startPort]
@[simp] theorem tripPort_quads (s : State) (p : Fin 20) (cause : TripCause) :
    (tripPort s p cause).quads = s.quads := by simp [tripPort]
@[simp] theorem tripFlag_quads (s : State) (p : Fin 20) : (tripFlag s p).quads = s.quads := by
  unfold tripFlag
  split <;> simp

@[simp] theorem execDetectorTrip_quads (port : Fin 20) (cause : TripCause) (s : State) :
    (after (execDetectorTrip port cause s) s).quads = s.quads := by
  unfold execDetectorTrip
  split <;> simp

@[simp] theorem execProbeStart_quads (port : Fin 20) (s : State) : (after (execProbeStart port s) s).quads = s.quads := by
  unfold execProbeStart
  split <;> simp
@[simp] theorem probeEnd_quads (s : State) (port : Fin 20) (ua mv pf : Nat) (switchOk : Bool) :
    (probeEnd s port ua mv pf switchOk).quads = s.quads := by simp [probeEnd]
@[simp] theorem execProbeComplete_quads (port : Fin 20) (ua mv pf : Nat) (switchOk : Bool) (s : State) :
    (after (execProbeComplete port ua mv pf switchOk s) s).quads = s.quads := by simp [execProbeComplete]
@[simp] theorem execRampComplete_quads (port : Fin 20) (s : State) :
    (after (execRampComplete port s) s).quads = s.quads := by simp [execRampComplete]
@[simp] theorem lockSelfTest_quads (s : State) (port : Fin 20) : (lockSelfTest s port).quads = s.quads := by simp [lockSelfTest]
@[simp] theorem execSparkSelfTest_quads (port : Fin 20) (pass : Bool) (s : State) :
    (after (execSparkSelfTest port pass s) s).quads = s.quads := by simp [execSparkSelfTest]
@[simp] theorem touchManual_quads (s : State) (o : Fin 12) : (touchManual s o).quads = s.quads := by
  unfold touchManual
  split <;> simp
@[simp] theorem touchPort_quads (s : State) (p : Fin 20) : (touchPort s p).quads = s.quads := by
  unfold touchPort
  split <;> simp
@[simp] theorem restoreEnergy_quads (s : State) (port : Fin 20) (selfTest : Bool) :
    (restoreEnergy s port selfTest).quads = s.quads := by simp [restoreEnergy]
@[simp] theorem execRestoreEnergy_quads (r : Req) (port : Fin 20) (selfTest : Bool) (s : State) :
    (after (execRestoreEnergy r port selfTest s) s).quads = s.quads := by simp [execRestoreEnergy]
@[simp] theorem execFoldbackEntry_quads (port : Fin 20) (s : State) :
    (after (execFoldbackEntry port s) s).quads = s.quads := by simp [execFoldbackEntry]
@[simp] theorem execFoldbackRetryStart_quads (port : Fin 20) (s : State) :
    (after (execFoldbackRetryStart port s) s).quads = s.quads := by simp [execFoldbackRetryStart]
@[simp] theorem execFoldbackRetryEnd_quads (port : Fin 20) (heldCond : Bool) (s : State) :
    (after (execFoldbackRetryEnd port heldCond s) s).quads = s.quads := by simp [execFoldbackRetryEnd]
@[simp] theorem execLoopSupplyAdjust_quads (port : Fin 20) (termMv ua headMv : Nat) (s : State) :
    (after (execLoopSupplyAdjust port termMv ua headMv s) s).quads = s.quads := by simp [execLoopSupplyAdjust]
@[simp] theorem loadPort_quads (s : State) (p : Fin 20) : (loadPort s p).quads = s.quads := by simp [loadPort]
@[simp] theorem spareStart_quads (s : State) : (spareStart s).quads = s.quads := by
  unfold spareStart
  (repeat' split) <;> simp
@[simp] theorem loadUai_quads (s : State) (n : Fin 16) : (loadUai s n).quads = s.quads := by simp [loadUai]
@[simp] theorem loadDi_quads (s : State) (n : Fin 16) : (loadDi s n).quads = s.quads := by simp [loadDi]
@[simp] theorem loadOut_quads (s : State) (o : Fin 12) : (loadOut s o).quads = s.quads := by
  unfold loadOut
  split <;> simp

@[simp] theorem loadField_quads (s : State) : (loadField s).quads = s.quads := by
  unfold loadField
  split
  · rfl
  · dsimp only
    rw [spareStart_quads, foldl_quads _ _ _ fun _ _ => modPort_quads _ _ _, foldl_quads _ _ _ loadOut_quads,
      foldl_quads _ _ _ fun _ _ => modUai_quads _ _ _]
    simp

@[simp] theorem takeCmd_quads (s : State) (o : Fin 12) (p : Pair) : (takeCmd s o p).quads = s.quads := by simp [takeCmd]
@[simp] theorem strikeSafe_quads (s : State) (o : Fin 12) (upset : Word) : (strikeSafe s o upset).quads = s.quads := by
  unfold strikeSafe
  split <;> simp

@[simp] theorem feltFrame_quads (s : State) (out : Fin 12) (upCmd upSafe : Word) :
    (feltFrame s out upCmd upSafe).quads = s.quads := by
  unfold feltFrame
  dsimp only
  rw [refreshOuts_quads, foldl_quads]
  · simp
  · intro t o
    split <;> simp

@[simp] theorem execFeltFrameReceive_quads (crcOk : Bool) (out : Fin 12) (upCmd upSafe : Word) (s : State) :
    (after (execFeltFrameReceive crcOk out upCmd upSafe s) s).quads = s.quads := by simp [execFeltFrameReceive]
@[simp] theorem execLinkHeartbeatSend_quads (s : State) :
    (after (execLinkHeartbeatSend s) s).quads = s.quads := by simp [execLinkHeartbeatSend]
@[simp] theorem execFeltTimeout_quads (out : Fin 12) (s : State) :
    (after (execFeltTimeout out s) s).quads = s.quads := by simp [execFeltTimeout]
@[simp] theorem execSafeStateRewrite_quads (s : State) :
    (after (execSafeStateRewrite s) s).quads = s.quads := by
  rw [execSafeStateRewrite, after_doIf, ite_quads, refreshOuts_quads, foldl_quads _ _ _ fun _ _ => modFelt_quads _ _ _, ite_self]
@[simp] theorem vfldConds_quads (s : State) : (vfldConds s).quads = s.quads := by simp [vfldConds]
@[simp] theorem suppliesOff_quads (s : State) : (suppliesOff s).quads = s.quads := by simp [suppliesOff]
@[simp] theorem noteDip_quads (s : State) : (noteDip s).quads = s.quads := by simp [noteDip]
@[simp] theorem vfldCross_quads (s : State) (mv : Nat) : (vfldCross s mv).quads = s.quads := by simp [vfldCross]

@[simp] theorem execVfldThresholdCross_quads (mv : Nat) (s : State) :
    (after (execVfldThresholdCross mv s) s).quads = s.quads := by
  unfold execVfldThresholdCross
  split <;> simp

@[simp] theorem resettle_quads (s : State) : (resettle s).quads = s.quads := by simp [resettle]
@[simp] theorem vfldRestore_quads (s : State) (mv : Nat) : (vfldRestore s mv).quads = s.quads := by simp [vfldRestore]
@[simp] theorem execVfldRestore_quads (mv : Nat) (s : State) :
    (after (execVfldRestore mv s) s).quads = s.quads := by simp [execVfldRestore]
@[simp] theorem fieldDieReset_quads (s : State) (f : FieldDie) : (fieldDieReset s f).quads = s.quads := by simp [fieldDieReset]
@[simp] theorem dieConds_quads (s : State) : (dieConds s).quads = s.quads := by simp [dieConds]
@[simp] theorem dieStart_quads (s : State) : (dieStart s).quads = s.quads := by simp [dieStart]
@[simp] theorem execFieldDieStart_quads (s : State) :
    (after (execFieldDieStart s) s).quads = s.quads := by simp [execFieldDieStart]
@[simp] theorem hartOff_quads (s : State) : (hartOff s).quads = s.quads := by simp [hartOff]
@[simp] theorem fieldLost_quads (s : State) : (fieldLost s).quads = s.quads := by simp [fieldLost]
@[simp] theorem execFieldDieStop_quads (s : State) : (after (execFieldDieStop s) s).quads = s.quads := by simp [execFieldDieStop]
@[simp] theorem execFieldDieRestartDetected_quads (s : State) :
    (after (execFieldDieRestartDetected s) s).quads = s.quads := by simp [execFieldDieRestartDetected]

/-! Process inputs and trim (R174 to R198). -/

@[simp] theorem sampleUai_quads (s : State) (n : Fin 16) (m : Meas) : (sampleUai s n m).quads = s.quads := by simp [sampleUai]
@[simp] theorem execConverterSample_quads (ch : Fin 16) (m : Meas) (s : State) :
    (after (execConverterSample ch m s) s).quads = s.quads := by simp [execConverterSample]

@[simp] theorem execSettlingEnd_quads (di : Bool) (ch : Fin 16) (s : State) :
    (after (execSettlingEnd di ch s) s).quads = s.quads := by
  unfold execSettlingEnd
  split <;> simp

@[simp] theorem tcTest_quads (s : State) (n : Fin 16) (ohms : Nat) : (tcTest s n ohms).quads = s.quads := by simp [tcTest]
@[simp] theorem execTcOpenTest_quads (ch : Fin 16) (ohms : Nat) (s : State) :
    (after (execTcOpenTest ch ohms s) s).quads = s.quads := by simp [execTcOpenTest]
@[simp] theorem phaseRec_quads (s : State) (c : Fin 16) : (phaseRec s c).quads = s.quads := by simp [phaseRec]
@[simp] theorem retireSpare_quads (s : State) : (retireSpare s).quads = s.quads := by simp [retireSpare]
@[simp] theorem visitNext_quads (s : State) (c : Fin 16) : (visitNext s c).quads = s.quads := by simp [visitNext]
@[simp] theorem visitAgain_quads (s : State) : (visitAgain s).quads = s.quads := by simp [visitAgain]
@[simp] theorem convFailed_quads (s : State) (c : Fin 16) : (convFailed s c).quads = s.quads := by simp [convFailed]

@[simp] theorem visitPhase_quads (s : State) (c : Fin 16) (pass : Bool) : (visitPhase s c pass).quads = s.quads := by
  unfold visitPhase
  dsimp only
  split <;> simp

@[simp] theorem refMeasure_quads (s : State) (ppm : Word) : (refMeasure s ppm).quads = s.quads := by simp [refMeasure]

@[simp] theorem execSpareVisitPhaseEnd_quads (refs : List (Fin 3 × Int)) (diffs : List Int) (ppm : Option Word) (s : State) :
    (after (execSpareVisitPhaseEnd refs diffs ppm s) s).quads = s.quads := by
  unfold execSpareVisitPhaseEnd
  (repeat' split) <;> simp

@[simp] theorem refRecord_quads (s : State) : (refRecord s).quads = s.quads := by simp [refRecord]
@[simp] theorem spareConds_quads (s : State) : (spareConds s).quads = s.quads := by simp [spareConds]
@[simp] theorem execRefDeviationRecord_quads (s : State) :
    (after (execRefDeviationRecord s) s).quads = s.quads := by simp [execRefDeviationRecord]
@[simp] theorem putTrim_quads (s : State) (n fld : Nat) (p : Pair) : (putTrim s n fld p).quads = s.quads := by simp [putTrim]
@[simp] theorem queueTrim_quads (s : State) : (queueTrim s).quads = s.quads := by simp [queueTrim]
@[simp] theorem startTrim_quads (s : State) (n : Fin 16) (k : TrimKind) : (startTrim s n k).quads = s.quads := by simp [startTrim]
@[simp] theorem clearTrim_quads (s : State) (n : Fin 16) : (clearTrim s n).quads = s.quads := by simp [clearTrim]
@[simp] theorem execTrimZero_quads (r : Req) (ch : Fin 16) (s : State) :
    (after (execTrimZero r ch s) s).quads = s.quads := by simp [execTrimZero]
@[simp] theorem execTrimSpan_quads (r : Req) (ch : Fin 16) (s : State) :
    (after (execTrimSpan r ch s) s).quads = s.quads := by simp [execTrimSpan]
@[simp] theorem execTrimClear_quads (r : Req) (ch : Fin 16) (s : State) :
    (after (execTrimClear r ch s) s).quads = s.quads := by simp [execTrimClear]
@[simp] theorem endTrim_quads (s : State) (n : Fin 16) (k : TrimKind) (bUpset : Word) :
    (endTrim s n k bUpset).quads = s.quads := by simp [endTrim]
@[simp] theorem trimTake_quads (s : State) (n : Fin 16) : (trimTake s n).quads = s.quads := by simp [trimTake]

@[simp] theorem execTrimCaptureEnd_quads (ch : Fin 16) (bUpset : Word) (s : State) :
    (after (execTrimCaptureEnd ch bUpset s) s).quads = s.quads := by
  unfold execTrimCaptureEnd
  split <;> simp

@[simp] theorem trimPress_quads (s : State) (n : Fin 16) (k : TrimKind) (ticks : Nat) :
    (trimPress s n k ticks).quads = s.quads := by simp [trimPress]

@[simp] theorem trimButton_quads (s : State) (n : Fin 16) (span : Bool) : (trimButton s n span).quads = s.quads := by
  unfold trimButton
  dsimp only
  (repeat' split) <;> simp

@[simp] theorem execTrimButtonRelease_quads (ch : Fin 16) (span : Bool) (s : State) :
    (after (execTrimButtonRelease ch span s) s).quads = s.quads := by simp [execTrimButtonRelease]

/-! HART (R199 to R203, R208, R247). -/

@[simp] theorem modModem_quads (s : State) (k : Fin 4) (f : Modem → Modem) :
    (s.modModem k f).quads = s.quads := by simp [State.modModem]

@[simp] theorem execHartTransactionStart_quads (c : Fin 20) (s : State) :
    (after (execHartTransactionStart c s) s).quads = s.quads := by
  unfold execHartTransactionStart
  split <;> simp

@[simp] theorem hartRecs_quads (s : State) (c : Fin 20) (r : HartResp) : (hartRecs s c r).quads = s.quads := by simp [hartRecs]

@[simp] theorem execHartTransactionEnd_quads (c : Fin 20) (resp : Option HartResp) (other : Bool) (s : State) :
    (after (execHartTransactionEnd c resp other s) s).quads = s.quads := by
  unfold execHartTransactionEnd
  (repeat' split) <;> simp

@[simp] theorem execHartModemSelfTest_quads (k : Fin 4) (pass : Bool) (s : State) :
    (after (execHartModemSelfTest k pass s) s).quads = s.quads := by simp [execHartModemSelfTest]
@[simp] theorem rediscover_quads (s : State) (c : Fin 20) : (rediscover s c).quads = s.quads := by simp [rediscover]
@[simp] theorem execHartRediscover_quads (r : Req) (c : Fin 20) (s : State) :
    (after (execHartRediscover r c s) s).quads = s.quads := by simp [execHartRediscover]
@[simp] theorem execOtherMasterClear_quads (c : Fin 20) (s : State) :
    (after (execOtherMasterClear c s) s).quads = s.quads := by simp [execOtherMasterClear]

/-! Loop outputs (R230 to R253). -/

@[simp] theorem formAo_quads (s : State) (n : Fin 4) (v : Word) (q : Nat) : (formAo s n v q).quads = s.quads := by simp [formAo]
@[simp] theorem failAo_quads (s : State) (n : Fin 4) : (failAo s n).quads = s.quads := by simp [failAo]
@[simp] theorem formDo_quads (s : State) (n : Fin 8) (v : Word) (q : Nat) : (formDo s n v q).quads = s.quads := by simp [formDo]
@[simp] theorem failDo_quads (s : State) (n : Fin 8) : (failDo s n).quads = s.quads := by simp [failDo]
@[simp] theorem linkAo_quads (s : State) (n : Fin 4) (ma volts upset : Word) :
    (linkAo s n ma volts upset).quads = s.quads := by simp [linkAo]
@[simp] theorem aoSample_quads (s : State) (n : Fin 4) (ma volts : Word) (atCap : Bool) (upset : Word) :
    (aoSample s n ma volts atCap upset).quads = s.quads := by simp [aoSample]
@[simp] theorem execAoReadbackSample_quads (n : Fin 4) (ma volts : Word) (atCap : Bool) (upset : Word) (s : State) :
    (after (execAoReadbackSample n ma volts atCap upset s) s).quads = s.quads := by simp [execAoReadbackSample]
@[simp] theorem openTest_quads (s : State) (n : Fin 4) (ma : Word) (atCap : Bool) :
    (openTest s n ma atCap).quads = s.quads := by simp [openTest]
@[simp] theorem execOpenTestPulse_quads (n : Fin 4) (ma : Word) (atCap : Bool) (s : State) :
    (after (execOpenTestPulse n ma atCap s) s).quads = s.quads := by simp [execOpenTestPulse]
@[simp] theorem putManual_quads (s : State) (o : Fin 12) (b : Bool) : (putManual s o b).quads = s.quads := by
  unfold putManual
  split <;> simp
@[simp] theorem setManual_quads (s : State) (o : Fin 12) (b : Bool) : (setManual s o b).quads = s.quads := by simp [setManual]
@[simp] theorem execManualOn_quads (r : Req) (out : Fin 12) (s : State) :
    (after (execManualOn r out s) s).quads = s.quads := by simp [execManualOn]
@[simp] theorem execManualOff_quads (r : Req) (out : Fin 12) (s : State) :
    (after (execManualOff r out s) s).quads = s.quads := by simp [execManualOff]
@[simp] theorem putManualValue_quads (s : State) (o : Fin 12) (v : Pair) : (putManualValue s o v).quads = s.quads := by
  unfold putManualValue
  split <;> simp
@[simp] theorem execManualValueWrite_quads (r : Req) (out : Fin 12) (v : Pair) (s : State) :
    (after (execManualValueWrite r out v s) s).quads = s.quads := by simp [execManualValueWrite]
@[simp] theorem execManualTimeout_quads (out : Fin 12) (s : State) :
    (after (execManualTimeout out s) s).quads = s.quads := by simp [execManualTimeout]

/-! Discrete inputs and outputs (R254 to R282). -/

@[simp] theorem diTurn_quads (s : State) (n : Fin 16) (on : Bool) (tick : BitVec 64) :
    (diTurn s n on tick).quads = s.quads := by simp [diTurn]
@[simp] theorem diSample_quads (s : State) (n : Fin 16) (on : Bool) (tick : BitVec 64) :
    (diSample s n on tick).quads = s.quads := by simp [diSample]

@[simp] theorem diSamples_quads (n : Fin 16) : ∀ (l : List Bool) (tick : BitVec 64) (s : State),
    (diSamples n l tick s).quads = s.quads
  | [], _, _ => rfl
  | r :: t, tick, s => by simp [diSamples, diSamples_quads n t]

@[simp] theorem diFlip_quads (s : State) (n : Fin 16) : (diFlip s n).quads = s.quads := by simp [diFlip]
@[simp] theorem execDiFilterTransition_quads (n : Fin 16) (raw : List Bool) (tick : BitVec 64) (s : State) :
    (after (execDiFilterTransition n raw tick s) s).quads = s.quads := by simp [execDiFilterTransition]
@[simp] theorem execDiLineOpen_quads (n : Fin 16) (isOpen : Bool) (s : State) :
    (after (execDiLineOpen n isOpen s) s).quads = s.quads := by simp [execDiLineOpen]
@[simp] theorem execTotalPreset_quads (r : Req) (n : Fin 16) (v : Pair) (s : State) :
    (after (execTotalPreset r n v s) s).quads = s.quads := by simp [execTotalPreset]

@[simp] theorem applyPreset_quads (s : State) (n : Fin 16) (edge : Bool) : (applyPreset s n edge).quads = s.quads := by
  unfold applyPreset
  dsimp only
  split <;> simp

@[simp] theorem execTotalPresetApply_quads (n : Fin 16) (edge : Bool) (s : State) :
    (after (execTotalPresetApply n edge s) s).quads = s.quads := by simp [execTotalPresetApply]
@[simp] theorem clearWrap_quads (s : State) (n : Fin 16) (edge : Bool) :
    (clearWrap s n edge).quads = s.quads := by simp [clearWrap]
@[simp] theorem execClearWrap_quads (r : Req) (n : Fin 16) (edge : Bool) (s : State) :
    (after (execClearWrap r n edge s) s).quads = s.quads := by simp [execClearWrap]
@[simp] theorem execTotalBackupWrite_quads (s : State) :
    (after (execTotalBackupWrite s) s).quads = s.quads := by simp [execTotalBackupWrite]
@[simp] theorem restoreTotal_quads (s : State) (n : Fin 16) : (restoreTotal s n).quads = s.quads := by simp [restoreTotal]
@[simp] theorem latchedCond_quads (s : State) : (latchedCond s).quads = s.quads := by simp [latchedCond]
@[simp] theorem cutOff_quads (s : State) (n : Fin 8) : (cutOff s n).quads = s.quads := by simp [cutOff]
@[simp] theorem execDoCurrentLimit_quads (n : Fin 8) (isLimiting : Bool) (s : State) :
    (after (execDoCurrentLimit n isLimiting s) s).quads = s.quads := by simp [execDoCurrentLimit]
@[simp] theorem execDoThermalCutoff_quads (n : Fin 8) (s : State) :
    (after (execDoThermalCutoff n s) s).quads = s.quads := by simp [execDoThermalCutoff]
@[simp] theorem execDoThermalRestart_quads (n : Fin 8) (s : State) :
    (after (execDoThermalRestart n s) s).quads = s.quads := by simp [execDoThermalRestart]
@[simp] theorem resetLatch_quads (s : State) (n : Fin 8) : (resetLatch s n).quads = s.quads := by simp [resetLatch]
@[simp] theorem execResetLatch_quads (r : Req) (n : Fin 8) (s : State) :
    (after (execResetLatch r n s) s).quads = s.quads := by simp [execResetLatch]

@[simp] theorem groupShed_quads (s : State) (ma : Nat) : (groupShed s ma).quads = s.quads := by
  unfold groupShed
  dsimp only
  split <;> simp

@[simp] theorem execDoGroupShed_quads (ma : Nat) (s : State) :
    (after (execDoGroupShed ma s) s).quads = s.quads := by simp [execDoGroupShed]
@[simp] theorem execDoShedRestart_quads (s : State) : (after (execDoShedRestart s) s).quads = s.quads := by
  unfold execDoShedRestart
  split <;> simp
@[simp] theorem execDoOffTest_quads (n : Fin 8) (extMv testMv : Int) (s : State) :
    (after (execDoOffTest n extMv testMv s) s).quads = s.quads := by simp [execDoOffTest]
@[simp] theorem execDoOpenLoadDetect_quads (n : Fin 8) (s : State) :
    (after (execDoOpenLoadDetect n s) s).quads = s.quads := by simp [execDoOpenLoadDetect]
@[simp] theorem execDoReverseBlock_quads (n : Fin 8) (above : Bool) (s : State) :
    (after (execDoReverseBlock n above s) s).quads = s.quads := by simp [execDoReverseBlock]
@[simp] theorem execDoStaggeredRestart_quads (s : State) : (after (execDoStaggeredRestart s) s).quads = s.quads := by
  unfold execDoStaggeredRestart
  split <;> simp
@[simp] theorem execRestartSlowedEnd_quads (s : State) :
    (after (execRestartSlowedEnd s) s).quads = s.quads := by simp [execRestartSlowedEnd]
@[simp] theorem execDoPatternEdge_quads (tick : BitVec 64) (s : State) :
    (after (execDoPatternEdge tick s) s).quads = s.quads := by simp [execDoPatternEdge]
@[simp] theorem safenTo_quads (s : State) (low : Bool) : (safenTo s low).quads = s.quads := by simp [safenTo]
@[simp] theorem execSafenChange_quads (low stood : Bool) (s : State) :
    (after (execSafenChange low stood s) s).quads = s.quads := by simp [execSafenChange]
@[simp] theorem boundWakePoint_quads (s : State) (p : Nat) : (boundWakePoint s p).quads = s.quads := by
  unfold boundWakePoint
  split <;> simp
@[simp] theorem gauzeSample_quads (s : State) (n : Fin 16) : (gauzeSample s n).quads = s.quads := by simp [gauzeSample]
@[simp] theorem linkUai_quads (s : State) (n : Fin 16) (upSample upDiag : Word) :
    (linkUai s n upSample upDiag).quads = s.quads := by simp [linkUai]
@[simp] theorem linkDi_quads (s : State) (n : Fin 16) (ua : Int) : (linkDi s n ua).quads = s.quads := by simp [linkDi]
@[simp] theorem linkDo_quads (s : State) (n : Fin 8) (ma : Nat) (mv : Int) : (linkDo s n ma mv).quads = s.quads := by simp [linkDo]
@[simp] theorem linkFrame_quads (s : State) (ch : Fin 16) (upSample upDiag : Word) (doMa : List Nat) (doMv diUa : List Int) :
    (linkFrame s ch upSample upDiag doMa doMv diUa).quads = s.quads := by simp [linkFrame]
@[simp] theorem execLinkFrameReceive_quads (crcOk : Bool) (ch : Fin 16) (upSample upDiag : Word) (doMa : List Nat)
    (doMv diUa : List Int) (s : State) :
    (after (execLinkFrameReceive crcOk ch upSample upDiag doMa doMv diUa s) s).quads = s.quads := by simp [execLinkFrameReceive]

/-! The end of the start (R81, R136, R403). -/

@[simp] theorem sendImage_quads (s : State) : (sendImage s).quads = s.quads := by simp [sendImage]
@[simp] theorem queueRepair_quads (s : State) : (queueRepair s).quads = s.quads := by simp [queueRepair]
@[simp] theorem startDone_quads (s : State) (ph : Phase) : (startDone s ph).quads = s.quads := by simp [startDone]
@[simp] theorem checkComplete_quads (s : State) : (checkComplete s).quads = s.quads := by
  unfold checkComplete
  (repeat' split) <;> simp
@[simp] theorem flushAlarms_quads (s : State) (g : Nat) : (flushAlarms s g).quads = s.quads := by simp [flushAlarms]
@[simp] theorem becomeReady_quads (s : State) (fn idx : Nat) : (becomeReady s fn idx).quads = s.quads := by simp [becomeReady]

/-! The point replica (R91 to R93, R294, R401 to R407). -/

@[simp] theorem modPeer_quads (s : State) (n : Nat) (f : Peer → Peer) : (s.modPeer n f).quads = s.quads := by simp [State.modPeer]
@[simp] theorem refreshStale_quads (s : State) : (refreshStale s).quads = s.quads := by simp [refreshStale]
@[simp] theorem queueDelta_quads (s : State) (p : Nat) (refresh : Bool) : (queueDelta s p refresh).quads = s.quads := by
  unfold queueDelta
  split <;> simp
@[simp] theorem sendDelta_quads (s : State) : (sendDelta s).quads = s.quads := by simp [sendDelta]
@[simp] theorem publishDelta_quads (s : State) (p : Nat) : (publishDelta s p).quads = s.quads := by
  unfold publishDelta
  split <;> simp
@[simp] theorem execReplicaDeltaSend_quads (s : State) :
    (after (execReplicaDeltaSend s) s).quads = s.quads := by simp [execReplicaDeltaSend]
@[simp] theorem execReplicaRefresh_quads (p : BitVec 16) (s : State) : (after (execReplicaRefresh p s) s).quads = s.quads := by
  unfold execReplicaRefresh
  split <;> simp
@[simp] theorem takeRec_quads (s : State) (src : Nat) (r : PtRec) : (takeRec s src r).quads = s.quads := by simp [takeRec]
@[simp] theorem keepForStart_quads (s : State) (src : Nat) (r : PtRec) :
    (keepForStart s src r).quads = s.quads := by simp [keepForStart]
@[simp] theorem noteMergeRec_quads (s : State) (r : PtRec) : (noteMergeRec s r).quads = s.quads := by simp [noteMergeRec]
@[simp] theorem takePoint_quads (src : Nat) (s : State) (r : PtRec) : (takePoint src s r).quads = s.quads := by
  unfold takePoint
  (repeat' split) <;> simp
@[simp] theorem notePower_quads (s : State) : (notePower s).quads = s.quads := by simp [notePower]
@[simp] theorem takePoints_quads (s : State) (src : Nat) (ws : List Word) :
    (takePoints s src ws).quads = s.quads := by simp [takePoints]

@[simp] theorem noteSeq_quads (s : State) (src cls : Nat) (seq : Word) : (noteSeq s src cls seq).1.quads = s.quads := by
  unfold noteSeq
  dsimp only
  (repeat' split) <;> simp

@[simp] theorem sendAction_quads (s : State) (dest : Option Nat) (code : Nat) : (sendAction s dest code).quads = s.quads := by
  unfold sendAction
  dsimp only
  split <;> simp

@[simp] theorem requestGap_quads (s : State) (src : Nat) : (requestGap s src).quads = s.quads := by simp [requestGap]
@[simp] theorem takeDelta_quads (s : State) (src : Nat) (seq : Word) (ws : List Word) :
    (takeDelta s src seq ws).quads = s.quads := by simp [takeDelta]
@[simp] theorem execReplicaDeltaReceive_quads (src : Fin 64) (seq : Word) (payload : List Word) (s : State) :
    (after (execReplicaDeltaReceive src seq payload s) s).quads = s.quads := by simp [execReplicaDeltaReceive]
@[simp] theorem takeStored_quads (s : State) (src : Nat) : (takeStored s src).quads = s.quads := by simp [takeStored]
@[simp] theorem replicaReady_quads (s : State) (missing : Bool) :
    (replicaReady s missing).quads = s.quads := by simp [replicaReady]
@[simp] theorem checkAwait_quads (s : State) : (checkAwait s).quads = s.quads := by simp [checkAwait]
@[simp] theorem takeSnapPart_quads (s : State) (src : Nat) (ws : List Word) :
    (takeSnapPart s src ws).quads = s.quads := by simp [takeSnapPart]
@[simp] theorem sendSnapshot_quads (s : State) (mac : BitVec 48) (dest : Nat) :
    (sendSnapshot s mac dest).quads = s.quads := by simp [sendSnapshot]
@[simp] theorem takeImagePart_quads (s : State) (src : Nat) (ws : List Word) :
    (takeImagePart s src ws).quads = s.quads := by simp [takeImagePart]
@[simp] theorem takeSnapshot_quads (s : State) (src : Nat) (ws : List Word) : (takeSnapshot s src ws).quads = s.quads := by
  unfold takeSnapshot
  (repeat' split) <;> simp
@[simp] theorem execReplicaSnapshotReceive_quads (src : Fin 64) (payload : List Word) (s : State) :
    (after (execReplicaSnapshotReceive src payload s) s).quads = s.quads := by simp [execReplicaSnapshotReceive]

@[simp] theorem execReplicaStaleTimeout_quads (p : BitVec 16) (s : State) :
    (after (execReplicaStaleTimeout p s) s).quads = s.quads := by
  unfold execReplicaStaleTimeout
  split <;> simp

@[simp] theorem execMembershipListenEnd_quads (s : State) :
    (after (execMembershipListenEnd s) s).quads = s.quads := by simp [execMembershipListenEnd]

@[simp] theorem execSnapshotAnswerTimeout_quads (peer : Fin 64) (s : State) :
    (after (execSnapshotAnswerTimeout peer s) s).quads = s.quads := by
  unfold execSnapshotAnswerTimeout
  dsimp only
  split <;> simp

/-! Vibration (R210 to R229). -/

@[simp] theorem ringPut_quads (s : State) (n i : Nat) (w : Word) : (ringPut s n i w).quads = s.quads := by simp [ringPut]
@[simp] theorem writeSample_quads (s : State) (ch : Fin 16) (i : BitVec 64) (v : Pair) (lost : Bool) :
    (writeSample s ch i v lost).quads = s.quads := by simp [writeSample]
@[simp] theorem logEdge_quads (s : State) (ch : Fin 16) (tick : BitVec 64) :
    (logEdge s ch tick).quads = s.quads := by simp [logEdge]
@[simp] theorem frequencyEdge_quads (s : State) (ch : Fin 16) (tick : BitVec 64) (level : Word) (held : Nat) :
    (frequencyEdge s ch tick level held).quads = s.quads := by simp [frequencyEdge]
@[simp] theorem execFrequencyEdge_quads (ch : Fin 16) (tick : BitVec 64) (level : Word) (held : Nat) (s : State) :
    (after (execFrequencyEdge ch tick level held s) s).quads = s.quads := by simp [execFrequencyEdge]
@[simp] theorem modFeat_quads (s : State) (n : Fin 16) (k : Nat) (f : Feat → Feat) :
    (s.modFeat n k f).quads = s.quads := by simp [State.modFeat]
@[simp] theorem noteShed_quads (s : State) : (noteShed s).quads = s.quads := by simp [noteShed]
@[simp] theorem dropRec_quads (s : State) (n : Fin 16) (id : Word) : (dropRec s n id).quads = s.quads := by simp [dropRec]
@[simp] theorem recordCapture_quads (s : State) (n : Fin 16) (kind : BitVec 8) :
    (recordCapture s n kind).quads = s.quads := by simp [recordCapture]

@[simp] theorem trigger_quads (s : State) (n : Fin 16) (kind : BitVec 8) : (trigger s n kind).quads = s.quads := by
  unfold trigger
  dsimp only
  (repeat' split) <;> simp

@[simp] theorem execTriggerCapture_quads (ch : Fin 16) (s : State) :
    (after (execTriggerCapture ch s) s).quads = s.quads := by simp [execTriggerCapture]
@[simp] theorem execCaptureNow_quads (r : Req) (ch : Fin 16) (s : State) :
    (after (execCaptureNow r ch s) s).quads = s.quads := by simp [execCaptureNow]
@[simp] theorem execScheduledCapture_quads (ch : Fin 16) (s : State) :
    (after (execScheduledCapture ch s) s).quads = s.quads := by simp [execScheduledCapture]
@[simp] theorem closeWindow_quads (s : State) (n : Fin 16) : (closeWindow s n).quads = s.quads := by simp [closeWindow]
@[simp] theorem execCaptureWindowClose_quads (ch : Fin 16) (s : State) :
    (after (execCaptureWindowClose ch s) s).quads = s.quads := by simp [execCaptureWindowClose]
@[simp] theorem sampleIn_quads (s : State) (ch : Fin 16) (i : BitVec 64) (v : Pair) (lost : Bool) :
    (sampleIn s ch i v lost).quads = s.quads := by simp [sampleIn]

@[simp] theorem execWaveformSampleWrite_quads (ch : Fin 16) (tick : BitVec 64) (volts upset : Word) (lost : Bool) (s : State) :
    (after (execWaveformSampleWrite ch tick volts upset lost s) s).quads = s.quads := by
  obtain ⟨f, hf⟩ : ∃ f, f = sampleAt := ⟨_, rfl⟩
  obtain ⟨g, hg⟩ : ∃ g, g = execWaveformSampleWrite := ⟨_, rfl⟩
  rw [← hg]
  delta execWaveformSampleWrite at hg
  rw [← hf] at hg
  subst hg
  dsimp only
  split <;> simp

@[simp] theorem execCancelPending_quads (r : Req) (ch : Fin 16) (s : State) :
    (after (execCancelPending r ch s) s).quads = s.quads := by simp [execCancelPending]
@[simp] theorem resendCap_quads (s : State) (n : Fin 16) (id : Word) : (resendCap s n id).quads = s.quads := by
  unfold resendCap
  split <;> simp
@[simp] theorem execResendId_quads (r : Req) (ch : Fin 16) (id : Word) (s : State) :
    (after (execResendId r ch id s) s).quads = s.quads := by simp [execResendId]
@[simp] theorem refreshStream_quads (s : State) (n : Fin 16) : (refreshStream s n).quads = s.quads := by simp [refreshStream]
@[simp] theorem refreshStreams_quads (s : State) : (refreshStreams s).quads = s.quads := by simp [refreshStreams]
@[simp] theorem sendWave_quads (s : State) (macs : List (BitVec 48)) (ws : List Word) :
    (sendWave s macs ws).quads = s.quads := by simp [sendWave]

@[simp] theorem sendCapture_quads (s : State) (n : Fin 16) (i : Nat) (resends : Bool) :
    (sendCapture s n i resends).quads = s.quads := by
  unfold sendCapture
  dsimp only
  split <;> simp

@[simp] theorem sendStream_quads (s : State) (n : Fin 16) : (sendStream s n).quads = s.quads := by simp [sendStream]
@[simp] theorem sendNextWave_quads (s : State) : (sendNextWave s).quads = s.quads := by
  unfold sendNextWave
  (repeat' split) <;> simp
@[simp] theorem execWaveform_quads (s : State) : (after (execWaveform s) s).quads = s.quads := by simp [execWaveform]
@[simp] theorem publishFeat_quads (s : State) (n : Fin 16) (k : Nat) :
    (publishFeat s n k).quads = s.quads := by simp [publishFeat]
@[simp] theorem execFeatureUpdate_quads (ch : Fin 16) (k : Nat) (s : State) :
    (after (execFeatureUpdate ch k s) s).quads = s.quads := by simp [execFeatureUpdate]
@[simp] theorem execFeatureStaleTimeout_quads (ch : Fin 16) (k : Nat) (s : State) :
    (after (execFeatureStaleTimeout ch k s) s).quads = s.quads := by simp [execFeatureStaleTimeout]
@[simp] theorem resumeFeat_quads (s : State) (n : Fin 16) (k : Nat) : (resumeFeat s n k).quads = s.quads := by simp [resumeFeat]
@[simp] theorem shedFeats_quads (s : State) : (shedFeats s).quads = s.quads := by simp [shedFeats]

/-! What an evaluation does besides ending its tasks (R285 to R296), and ALARM as received. -/

@[simp] theorem commandOuts_quads (s : State) (p : Nat) (v : Word) (q : Nat) (fail : Bool) :
    (commandOuts s p v q fail).quads = s.quads := by simp [commandOuts]

@[simp] theorem putBounds_quads (s : State) (p : Nat) (v q : Word) : (putBounds s p v q).quads = s.quads := by
  unfold putBounds
  dsimp only
  split <;> simp

@[simp] theorem consume_quads (s : State) (p : Nat) : (consume s p).quads = s.quads := by
  unfold consume
  (repeat' split) <;> simp
@[simp] theorem inputFail_quads (s : State) (p : Nat) (r : SrcVal) : (inputFail s p r).quads = s.quads := by simp [inputFail]
@[simp] theorem publishState_quads (s : State) (p : Nat) : (publishState s p).quads = s.quads := by simp [publishState]
@[simp] theorem writeRecord_quads (s : State) (p : Nat) : (writeRecord s p).quads = s.quads := by simp [writeRecord]
@[simp] theorem takePoint'_quads (byDuty : Bool) (s : State) (p : Nat) :
    (takePoint' byDuty s p).quads = s.quads := by simp [takePoint']
@[simp] theorem putSetpoint_quads (s : State) (p : Nat) (v : Pair) : (putSetpoint s p v).quads = s.quads := by
  unfold putSetpoint
  split <;> simp
@[simp] theorem execSetpointWrite_quads (r : Req) (p : BitVec 16) (v : Pair) (s : State) :
    (after (execSetpointWrite r p v s) s).quads = s.quads := by simp [execSetpointWrite]
@[simp] theorem execMappedTimeout_quads (c : Fin 2) (e : Nat) (s : State) :
    (after (execMappedTimeout c e s) s).quads = s.quads := by simp [execMappedTimeout]
@[simp] theorem sysEntry_quads (s : State) (ws : List Word) : (sysEntry s ws).quads = s.quads := by simp [sysEntry]
@[simp] theorem takeAlarm_quads (s : State) (src : Nat) (ws : List Word) :
    (takeAlarm s src ws).quads = s.quads := by simp [takeAlarm]
@[simp] theorem execAlarmReceive_quads (src : Fin 64) (payload : List Word) (s : State) :
    (after (execAlarmReceive src payload s) s).quads = s.quads := by simp [execAlarmReceive]

/-! The fabric, Gauze, charges and the power level (R18 to R38, R64 to R72). -/

@[simp] theorem modEngPl_quads (s : State) (e : Fin 16) (f : EngPl → EngPl) :
    (s.modEngPl e f).quads = s.quads := by simp [State.modEngPl]
@[simp] theorem modQuadPl_quads (s : State) (q : Fin 4) (f : QuadPl → QuadPl) :
    (s.modQuadPl q f).quads = s.quads := by simp [State.modQuadPl]
@[simp] theorem roundSoon_quads (s : State) : (roundSoon s).quads = s.quads := by simp [roundSoon]
@[simp] theorem completeReq_quads (s : State) (r : FabReq) (absent : Bool) (data : List (Word × Bool)) :
    (completeReq s r absent data).quads = s.quads := by simp [completeReq]
@[simp] theorem poisonWords_quads (s : State) (l : List Nat) : (poisonWords s l).quads = s.quads := by simp [poisonWords]
@[simp] theorem dramWrite_quads (s : State) (a : Nat) (ws : List Word) : (dramWrite s a ws).quads = s.quads := by simp [dramWrite]
@[simp] theorem reqGone_quads (q : Fin 4) (s : State) (r : FabReq) : (reqGone q s r).quads = s.quads := by simp [reqGone]
@[simp] theorem fabricGone_quads (s : State) (q : Fin 4) : (fabricGone s q).quads = s.quads := by simp [fabricGone]
@[simp] theorem quadLeft_quads (s : State) (q : Fin 4) : (quadLeft s q).quads = s.quads := by simp [quadLeft]
@[simp] theorem sendProgress_quads (s : State) : (sendProgress s).quads = s.quads := by simp [sendProgress]
@[simp] theorem setFw_quads (s : State) (st : FwState) : (setFw s st).quads = s.quads := by simp [setFw]
@[simp] theorem invalidateCopy_quads (s : State) : (invalidateCopy s).quads = s.quads := by simp [invalidateCopy]
@[simp] theorem fwFailed_quads (s : State) (q : Fin 4) : (fwFailed s q).quads = s.quads := by simp [fwFailed]
@[simp] theorem clearWake_quads (s : State) (q : Fin 4) : (clearWake s q).quads = s.quads := by simp [clearWake]
@[simp] theorem goodBeat_quads (s : State) (u : FabUnit) : (goodBeat s u).quads = s.quads := by simp [goodBeat]
@[simp] theorem noteParity_quads (s : State) (src tgt : FabUnit) (addr n : Nat) :
    (noteParity s src tgt addr n).quads = s.quads := by simp [noteParity]
@[simp] theorem poisonBeat_quads (s : State) (src tgt : FabUnit) (addr : Nat) :
    (poisonBeat s src tgt addr).quads = s.quads := by simp [poisonBeat]
@[simp] theorem recoverWord_quads (s : State) (addr : Nat) : (recoverWord s addr).quads = s.quads := by simp [recoverWord]
@[simp] theorem dramError_quads (s : State) (addr : Nat) : (dramError s addr).quads = s.quads := by simp [dramError]
@[simp] theorem wakeMask_quads (s : State) (m : BitVec 4) (cls : List (BitVec 2)) :
    (wakeMask s m cls).quads = s.quads := by simp [wakeMask]
@[simp] theorem writeSlots_quads (s : State) : (writeSlots s).quads = s.quads := by simp [writeSlots]
@[simp] theorem slotFault_quads (s : State) (k : Fin 256) : (slotFault s k).quads = s.quads := by simp [slotFault]
@[simp] theorem execGauzeSlotDue_quads (k : Fin 256) (tick : Nat) (upsetA upsetB : BitVec 27) (s : State) :
    (after (execGauzeSlotDue k tick upsetA upsetB s) s).quads = s.quads := by simp [execGauzeSlotDue]
@[simp] theorem execGauzeBackstopWake_quads (s : State) :
    (after (execGauzeBackstopWake s) s).quads = s.quads := by simp [execGauzeBackstopWake]
@[simp] theorem withdraw_quads (s : State) (e : Fin 16) : (withdraw s e).quads = s.quads := by simp [withdraw]
@[simp] theorem chargeEngine_quads (s : State) (task : Nat) (e : Fin 16) :
    (chargeEngine s task e).quads = s.quads := by simp [chargeEngine]
@[simp] theorem modTask_quads (s : State) (n : Nat) (f : Task → Task) : (s.modTask n f).quads = s.quads := by simp [State.modTask]

@[simp] theorem execShadowExecution_quads (task : Nat) (ups : List Word) (s : State) :
    (after (execShadowExecution task ups s) s).quads = s.quads := by
  unfold execShadowExecution
  (repeat' split) <;> simp

@[simp] theorem execThirdRun_quads (task : Nat) (ups : List Word) (s : State) :
    (after (execThirdRun task ups s) s).quads = s.quads := by
  unfold execThirdRun
  (repeat' split) <;> simp

@[simp] theorem capCheck_quads (s : State) : (capCheck s).quads = s.quads := by simp [capCheck]

@[simp] theorem execEngineClockStepChange_quads (e : Fin 16) (s : State) :
    (after (execEngineClockStepChange e s) s).quads = s.quads := by
  unfold execEngineClockStepChange
  split <;> simp

@[simp] theorem putPowerLevel_quads (s : State) (w : Word) : (putPowerLevel s w).quads = s.quads := by simp [putPowerLevel]
@[simp] theorem execPowerLevelWrite_quads (r : Req) (w : Word) (s : State) :
    (after (execPowerLevelWrite r w s) s).quads = s.quads := by simp [execPowerLevelWrite]
@[simp] theorem execPowerLevelChange_quads (s : State) :
    (after (execPowerLevelChange s) s).quads = s.quads := by simp [execPowerLevelChange]

/-! The task list and spares (R379, R381, R400). -/

@[simp] theorem syncTasks_quads (s : State) : (syncTasks s).quads = s.quads := by simp [syncTasks]
@[simp] theorem setSpare_quads (s : State) (e : Fin 16) : (setSpare s e).quads = s.quads := by simp [setSpare]

@[simp] theorem ensureSpare_quads (s : State) (q : Fin 4) : (ensureSpare s q).quads = s.quads := by
  unfold ensureSpare
  dsimp only
  (repeat' split) <;> simp

@[simp] theorem ensureSpares_quads (s : State) : (ensureSpares s).quads = s.quads := by simp [ensureSpares]
@[simp] theorem rotateSpares_quads (s : State) : (rotateSpares s).quads = s.quads := by
  refine foldl_quads _ _ _ fun t q => ?_
  split <;> simp

/-! The ship-wide duties (R409 to R413). -/

@[simp] theorem givePoint_quads (s : State) (p : Nat) : (givePoint s p).quads = s.quads := by
  unfold givePoint
  split <;> simp
@[simp] theorem takePeer_quads (s : State) (x : Nat) : (takePeer s x).quads = s.quads := by simp [takePeer]
@[simp] theorem dropPeer_quads (s : State) (x : Nat) : (dropPeer s x).quads = s.quads := by simp [dropPeer]
@[simp] theorem canRestrict_quads (s : State) (c : Fin 2) : (canRestrict s c).quads = s.quads := by simp [canRestrict]
@[simp] theorem takeSeg_quads (s : State) (g : Fin 32) : (takeSeg s g).quads = s.quads := by simp [takeSeg]
@[simp] theorem dropSeg_quads (s : State) (g : Fin 32) : (dropSeg s g).quads = s.quads := by simp [dropSeg]
@[simp] theorem noteView_quads (s : State) : (noteView s).quads = s.quads := by simp [noteView]
@[simp] theorem sendDuty_quads (s : State) : (sendDuty s).quads = s.quads := by simp [sendDuty]
@[simp] theorem execDutySend_quads (s : State) : (after (execDutySend s) s).quads = s.quads := by simp [execDutySend]
@[simp] theorem passPeer_quads (old : DutyTab) (s : State) (x : Fin 64) : (passPeer old s x).quads = s.quads := by simp [passPeer]
@[simp] theorem passSeg_quads (old : DutyTab) (s : State) (g : Fin 32) : (passSeg old s g).quads = s.quads := by simp [passSeg]
@[simp] theorem passCall_quads (s : State) : (passCall s).quads = s.quads := by simp [passCall]
@[simp] theorem applyDuty_quads (s : State) (d : DutyTab) : (applyDuty s d).quads = s.quads := by simp [applyDuty]

/-! Placement rounds, engines, wear (R382 to R393, R399, R400). -/

@[simp] theorem sendPlacement_quads (s : State) : (sendPlacement s).quads = s.quads := by simp [sendPlacement]
@[simp] theorem notePlacement_quads (s : State) : (notePlacement s).quads = s.quads := by simp [notePlacement]
@[simp] theorem execPlacementPeriodic_quads (s : State) :
    (after (execPlacementPeriodic s) s).quads = s.quads := by simp [execPlacementPeriodic]
@[simp] theorem applyEngine_quads (p : Plan) (s : State) (e : Fin 16) :
    (applyEngine p s e).quads = s.quads := by simp [applyEngine]
@[simp] theorem applyFeature_quads (p : Plan) (s : State) (n : Nat) (t : Task) :
    (applyFeature p s n t).quads = s.quads := by simp [applyFeature]
@[simp] theorem applyFeatures_quads (p : Plan) (s : State) : (applyFeatures p s).quads = s.quads := by simp [applyFeatures]
@[simp] theorem applyPlan_quads (s : State) (p : Plan) : (applyPlan s p).quads = s.quads := by simp [applyPlan]
@[simp] theorem followDuty_quads (s : State) : (followDuty s).quads = s.quads := by
  refine foldl_quads _ _ _ fun t p => ?_
  split <;> simp
@[simp] theorem execTaskHandover_quads (task : Nat) (s : State) : (after (execTaskHandover task s) s).quads = s.quads := by
  unfold execTaskHandover
  split <;> simp
@[simp] theorem retryEngine_quads (s : State) (e : Fin 16) : (retryEngine s e).quads = s.quads := by simp [retryEngine]
@[simp] theorem execEngineRetry_quads (r : Req) (e : Fin 16) (s : State) :
    (after (execEngineRetry r e s) s).quads = s.quads := by simp [execEngineRetry]
@[simp] theorem rebalance_quads (s : State) : (rebalance s).quads = s.quads := by simp [rebalance]
@[simp] theorem execRebalance_quads (r : Req) (s : State) :
    (after (execRebalance r s) s).quads = s.quads := by simp [execRebalance]
@[simp] theorem execRotateNow_quads (r : Req) (s : State) :
    (after (execRotateNow r s) s).quads = s.quads := by simp [execRotateNow]
@[simp] theorem forget_quads (s : State) (n : Nat) : (forget s n).quads = s.quads := by simp [forget]
@[simp] theorem execForgetNode_quads (r : Req) (n : BitVec 8) (s : State) :
    (after (execForgetNode r n s) s).quads = s.quads := by simp [execForgetNode]
@[simp] theorem execSpareRotation_quads (s : State) :
    (after (execSpareRotation s) s).quads = s.quads := by simp [execSpareRotation]
@[simp] theorem readWear_quads (s : State) (e : Fin 16) (ppm : Word) : (readWear s e ppm).quads = s.quads := by simp [readWear]
@[simp] theorem execWearRead_quads (e : Fin 16) (hz tj : Word) (s : State) :
    (after (execWearRead e hz tj s) s).quads = s.quads := by simp [execWearRead]

/-! Firmware copies (R395 to R397). -/

@[simp] theorem modFw_quads (s : State) (f : Fw → Fw) : (s.modFw f).quads = s.quads := by simp [State.modFw]
@[simp] theorem fwBegin_quads (s : State) : (fwBegin s).quads = s.quads := by simp [fwBegin]
@[simp] theorem execFwBegin_quads (r : Req) (s : State) : (after (execFwBegin r s) s).quads = s.quads := by simp [execFwBegin]
@[simp] theorem execFwEraseComplete_quads (s : State) :
    (after (execFwEraseComplete s) s).quads = s.quads := by simp [execFwEraseComplete]
@[simp] theorem fwProgram_quads (s : State) (i : Nat) (w : Word) : (fwProgram s i w).quads = s.quads := by simp [fwProgram]
@[simp] theorem fwWindow_quads (s : State) (idx : Nat) (ws : List Word) :
    (fwWindow s idx ws).quads = s.quads := by simp [fwWindow]
@[simp] theorem execFwWindowWrite_quads (r : Req) (idx : BitVec 21) (ws : List Word) (s : State) :
    (after (execFwWindowWrite r idx ws s) s).quads = s.quads := by simp [execFwWindowWrite]
@[simp] theorem fwCommit_quads (s : State) : (fwCommit s).quads = s.quads := by simp [fwCommit]
@[simp] theorem execFwCommit_quads (r : Req) (s : State) : (after (execFwCommit r s) s).quads = s.quads := by simp [execFwCommit]
@[simp] theorem fwVerified_quads (s : State) : (fwVerified s).quads = s.quads := by simp [fwVerified]
@[simp] theorem execFwVerifyComplete_quads (s : State) :
    (after (execFwVerifyComplete s) s).quads = s.quads := by simp [execFwVerifyComplete]
@[simp] theorem fwCancel_quads (s : State) : (fwCancel s).quads = s.quads := by
  unfold fwCancel
  split <;> simp
@[simp] theorem execFwCancel_quads (r : Req) (s : State) : (after (execFwCancel r s) s).quads = s.quads := by simp [execFwCancel]
@[simp] theorem execFwReceiveTimeout_quads (s : State) :
    (after (execFwReceiveTimeout s) s).quads = s.quads := by simp [execFwReceiveTimeout]

/-! CONFIG_REPORT (R126). -/

@[simp] theorem noteSuspects_quads (s : State) : (noteSuspects s).quads = s.quads := by simp [noteSuspects]
@[simp] theorem sendReport_quads (s : State) (kind : Nat) (rejected : Bool) (seq : Pair) (es : List RepEntry) :
    (sendReport s kind rejected seq es).quads = s.quads := by simp [sendReport]
@[simp] theorem startReport_quads (s : State) : (startReport s).quads = s.quads := by simp [startReport]

/-! Slots and commits (R131 to R136). -/

@[simp] theorem putMarker_quads (s : State) (target : Bool) (seq : Word) :
    (putMarker s target seq).quads = s.quads := by simp [putMarker]
@[simp] theorem clearMarker_quads (s : State) : (clearMarker s).quads = s.quads := by simp [clearMarker]
@[simp] theorem refreshSlots_quads (s : State) : (refreshSlots s).quads = s.quads := by
  unfold refreshSlots
  rfl
@[simp] theorem program_quads (s : State) (a : Nat) (ws : List Word) : (program s a ws).quads = s.quads := by simp [program]
@[simp] theorem eraseNor_quads (s : State) (a n : Nat) : (eraseNor s a n).quads = s.quads := by simp [eraseNor]
@[simp] theorem enterStep_quads (s : State) (j : NorJob) (n : Nat) : (enterStep s j n).quads = s.quads := by
  unfold enterStep
  split <;> simp
@[simp] theorem commitFailed_quads (s : State) (why : CommitFor) : (commitFailed s why).quads = s.quads := by simp [commitFailed]
@[simp] theorem startCommit_quads (s : State) : (startCommit s).quads = s.quads := by
  unfold startCommit
  split <;> simp
@[simp] theorem execCommitStart_quads (s : State) : (after (execCommitStart s) s).quads = s.quads := by simp [execCommitStart]
@[simp] theorem slotCommitted_quads (s : State) (target : Bool) (seq : Word) (image repair : Bool) :
    (slotCommitted s target seq image repair).quads = s.quads := by simp [slotCommitted]
@[simp] theorem commitDone_quads (s : State) (j : NorJob) : (commitDone s j).quads = s.quads := by simp [commitDone]

@[simp] theorem execNorCommitStepComplete_quads (readBackOk : Bool) (s : State) :
    (after (execNorCommitStepComplete readBackOk s) s).quads = s.quads := by
  unfold execNorCommitStepComplete
  split <;> simp

/-! Membership and grants (R408, R413 to R417). -/

@[simp] theorem computeGrants_quads (s : State) : (computeGrants s).quads = s.quads := by simp [computeGrants]
@[simp] theorem execC3GrantCompute_quads (s : State) :
    (after (execC3GrantCompute s) s).quads = s.quads := by simp [execC3GrantCompute]
@[simp] theorem execHeartbeatSend_quads (s : State) :
    (after (execHeartbeatSend s) s).quads = s.quads := by simp [execHeartbeatSend]
@[simp] theorem peerRestarted_quads (s : State) (n : Nat) : (peerRestarted s n).quads = s.quads := by simp [peerRestarted]
@[simp] theorem nowCounted_quads (s : State) (n : Nat) : (nowCounted s n).quads = s.quads := by simp [nowCounted]
@[simp] theorem takeBeat_quads (s : State) (n : Nat) (ws : List Word) : (takeBeat s n ws).quads = s.quads := by simp [takeBeat]

@[simp] theorem execHeartbeatReceive_quads (mac : BitVec 48) (src : BitVec 8) (payload : List Word) (s : State) :
    (after (execHeartbeatReceive mac src payload s) s).quads = s.quads := by
  unfold execHeartbeatReceive
  dsimp only
  (repeat' split) <;> simp

@[simp] theorem nowAbsent_quads (s : State) (n : Nat) : (nowAbsent s n).quads = s.quads := by simp [nowAbsent]
@[simp] theorem execPeerAbsentTimeout_quads (n : Fin 64) (s : State) :
    (after (execPeerAbsentTimeout n s) s).quads = s.quads := by simp [execPeerAbsentTimeout]
@[simp] theorem takeDuty_quads (s : State) (n : Nat) (ws : List Word) : (takeDuty s n ws).quads = s.quads := by simp [takeDuty]
@[simp] theorem execDutyReceive_quads (src : Fin 64) (payload : List Word) (s : State) :
    (after (execDutyReceive src payload s) s).quads = s.quads := by simp [execDutyReceive]

/-! CAN (R463 to R487). -/

@[simp] theorem canSetUp_quads (s : State) (c : Fin 2) : (canSetUp s c).quads = s.quads := by simp [canSetUp]
@[simp] theorem toNormal_quads (s : State) (c : Fin 2) : (toNormal s c).quads = s.quads := by simp [toNormal]
@[simp] theorem execCanBusIdleDetect_quads (c : Fin 2) (s : State) :
    (after (execCanBusIdleDetect c s) s).quads = s.quads := by simp [execCanBusIdleDetect]
@[simp] theorem execCanNormalEntry_quads (c : Fin 2) (s : State) :
    (after (execCanNormalEntry c s) s).quads = s.quads := by simp [execCanNormalEntry]
@[simp] theorem canConds_quads (s : State) : (canConds s).quads = s.quads := by simp [canConds]
@[simp] theorem setCounts_quads (s : State) (c : Fin 2) (t r : Nat) : (setCounts s c t r).quads = s.quads := by simp [setCounts]
@[simp] theorem noteErr_quads (s : State) (c : Fin 2) (e : CanErr) (dataPhase : Bool) :
    (noteErr s c e dataPhase).quads = s.quads := by simp [noteErr]
@[simp] theorem execCanReceiveError_quads (c : Fin 2) (e : CanErr) (dataPhase eight : Bool) (s : State) :
    (after (execCanReceiveError c e dataPhase eight s) s).quads = s.quads := by simp [execCanReceiveError]
@[simp] theorem execCanBusOff_quads (c : Fin 2) (s : State) :
    (after (execCanBusOff c s) s).quads = s.quads := by simp [execCanBusOff]
@[simp] theorem busBack_quads (s : State) (c : Fin 2) : (busBack s c).quads = s.quads := by simp [busBack]

@[simp] theorem execCanBusOffRecovery_quads (c : Fin 2) (s : State) : (after (execCanBusOffRecovery c s) s).quads = s.quads := by
  unfold execCanBusOffRecovery
  dsimp only
  split <;> simp

@[simp] theorem execRecoverNow_quads (r : Req) (c : Fin 2) (s : State) :
    (after (execRecoverNow r c s) s).quads = s.quads := by simp [execRecoverNow]
@[simp] theorem execCanClearCounters_quads (r : Req) (c : Fin 2) (s : State) :
    (after (execCanClearCounters r c s) s).quads = s.quads := by simp [execCanClearCounters]

@[simp] theorem canIrq_quads (s : State) (c : Fin 2) (i : Nat) : (canIrq s c i).quads = s.quads := by
  unfold canIrq
  dsimp only
  split <;> simp

@[simp] theorem modBuf_quads (s : State) (c : Fin 2) (b : Fin 64) (f : CanBuf → CanBuf) :
    (modBuf s c b f).quads = s.quads := by simp [modBuf]
@[simp] theorem storeHp_quads (s : State) (c : Fin 2) (i : Fin 8) (b : CanBuf) :
    (storeHp s c i b).quads = s.quads := by simp [storeHp]

@[simp] theorem storeFifo_quads (s : State) (c : Fin 2) (b : CanBuf) : (storeFifo s c b).quads = s.quads := by
  unfold storeFifo
  dsimp only
  (repeat' split) <;> simp

@[simp] theorem rxCount_quads (s : State) (c : Fin 2) : (rxCount s c).quads = s.quads := by simp [rxCount]

@[simp] theorem execCanFrameReceive_quads (c : Fin 2) (f : CanFrame) (s : State) :
    (after (execCanFrameReceive c f s) s).quads = s.quads := by
  unfold execCanFrameReceive
  (repeat' split) <;> simp

@[simp] theorem execBufferLockLapse_quads (c : Fin 2) (b : Fin 48) (s : State) :
    (after (execBufferLockLapse c b s) s).quads = s.quads := by simp [execBufferLockLapse]

@[simp] theorem release_quads (s : State) (c : Fin 2) (n : Fin 48) : (release s c n).quads = s.quads := by
  unfold release
  dsimp only
  (repeat' split) <;> simp

@[simp] theorem mapFrame_quads (c : Fin 2) (b : CanBuf) (bUpset : Word) (s : State) (e : Nat) :
    (mapFrame c b bUpset s e).quads = s.quads := by simp [mapFrame]
@[simp] theorem foreignFrame_quads (s : State) (c : Fin 2) (node : Nat) :
    (foreignFrame s c node).quads = s.quads := by simp [foreignFrame]
@[simp] theorem panelFrame_quads (s : State) (c : Fin 2) (b : CanBuf) : (panelFrame s c b).quads = s.quads := by
  unfold panelFrame
  split <;> simp
@[simp] theorem handleFrame_quads (s : State) (c : Fin 2) (b : CanBuf) (bUpset : Word) :
    (handleFrame s c b bUpset).quads = s.quads := by simp [handleFrame]
@[simp] theorem execCanRxService_quads (c : Fin 2) (b : Fin 48) (midRead : Bool) (bUpset : Word) (s : State) :
    (after (execCanRxService c b midRead bUpset s) s).quads = s.quads := by simp [execCanRxService]
@[simp] theorem takeQueued_quads (s : State) (c : Nat) (f : CanFrame) : (takeQueued s c f).quads = s.quads := by simp [takeQueued]
@[simp] theorem execTxRequest_quads (c : Fin 2) (k : Fin 16) (f : CanFrame) (s : State) :
    (after (execTxRequest c k f s) s).quads = s.quads := by simp [execTxRequest]
@[simp] theorem execTxCancel_quads (c : Fin 2) (k : Fin 16) (p : TxPoint) (s : State) :
    (after (execTxCancel c k p s) s).quads = s.quads := by simp [execTxCancel]
@[simp] theorem endTx_quads (s : State) (c : Fin 2) (k : Fin 16) (v : BitVec 4) :
    (endTx s c k v).quads = s.quads := by simp [endTx]
@[simp] theorem txCount_quads (s : State) (c : Fin 2) (e : CanErr) (inBody : Bool) :
    (txCount s c e inBody).quads = s.quads := by simp [txCount]
@[simp] theorem txFails_quads (s : State) (c : Fin 2) (k : Fin 16) (e : CanErr) (dataPhase inBody : Bool) :
    (txFails s c k e dataPhase inBody).quads = s.quads := by simp [txFails]
@[simp] theorem execCanTxComplete_quads (c : Fin 2) (k : Fin 16) (loopDelay : BitVec 7) (s : State) :
    (after (execCanTxComplete c k loopDelay s) s).quads = s.quads := by simp [execCanTxComplete]

@[simp] theorem execCanTxError_quads (c : Fin 2) (k : Fin 16) (e : TxErr) (s : State) :
    (after (execCanTxError c k e s) s).quads = s.quads := by
  unfold execCanTxError
  split <;> simp

/-! The history store (R488 to R519). -/

@[simp] theorem modLinen_quads (s : State) (f : Linen → Linen) : (s.modLinen f).quads = s.quads := by simp [State.modLinen]
@[simp] theorem modNand_quads (s : State) (f : Nand → Nand) : (s.modNand f).quads = s.quads := by simp [State.modNand]
@[simp] theorem countErase_quads (s : State) : (countErase s).quads = s.quads := by simp [countErase]
theorem openBlock_quads (s : State) (recs : List (Word × Rec)) (pages : Nat) :
    ∀ t ∈ openBlock s recs pages, t.quads = s.quads := by simp [openBlock]
@[simp] theorem putLog_quads (s : State) (trend : Bool) (l : List TierBlock) :
    (putLog s trend l).quads = s.quads := by simp [putLog]
theorem openTier_quads (s : State) (trend : Bool) (pages : Nat) :
    ∀ t ∈ openTier s trend pages, t.quads = s.quads := by simp [openTier]

theorem programTier_quads (s : State) (trend : Bool) : ∀ t ∈ programTier s trend, t.quads = s.quads := by
  have opened : ∀ t ∈ (openTier s trend 1).map fun u => perfAdd u 0x5000 1, t.quads = s.quads := by
    intro t ht
    obtain ⟨u, hu, rfl⟩ := Option.map_eq_some_iff.mp ht
    simp [openTier_quads s trend 1 u hu]
  unfold programTier
  split
  · split
    · simp
    · exact opened
  · exact opened

@[simp] theorem recycle_quads (s : State) : (recycle s).quads = s.quads := by simp [recycle]
@[simp] theorem permCheck_quads (s : State) : (permCheck s).quads = s.quads := by simp [permCheck]
@[simp] theorem wearCheck_quads (s : State) : (wearCheck s).quads = s.quads := by simp [wearCheck]
@[simp] theorem commitRecs_quads (s : State) (rs : List (Word × Rec)) : (commitRecs s rs).quads = s.quads := by simp [commitRecs]

@[simp] theorem retireOpen_quads (s : State) : (retireOpen s).quads = s.quads := by
  obtain ⟨f, hf, opened⟩ : ∃ f, f = openBlock ∧ ∀ s l n, ∀ t ∈ f s l n, t.quads = s.quads :=
    ⟨_, rfl, openBlock_quads⟩
  unfold retireOpen
  rw [← hf]
  split
  · rfl
  · dsimp only
    split
    · next h => simp [opened _ _ _ _ h]
    · simp

@[simp] theorem endDropping_quads (s : State) : (endDropping s).quads = s.quads := by simp [endDropping]

@[simp] theorem programPage_quads (s : State) : (programPage s).quads = s.quads := by
  have h := getD_quads (programTier_quads s false) rfl
  simp only [programPage, recycle_quads, wearCheck_quads, endDropping_quads, perfAdd_frame, modLinen_quads, commitRecs_quads]
  split <;> simp [h]

@[simp] theorem execNandSegmentProgram_quads (ok : Bool) (s : State) :
    (after (execNandSegmentProgram ok s) s).quads = s.quads := by
  have opened : ∀ t ∈ if hasPage s then some s else openBlock s [] 0, t.quads = s.quads := by
    split
    · simp
    · exact openBlock_quads s [] 0
  unfold execNandSegmentProgram
  split
  · simp
  · next h => simp [opened _ h]

@[simp] theorem refreshTier_quads (s : State) (trend : Bool) (b : TierBlock) : (refreshTier s trend b).quads = s.quads := by
  unfold refreshTier
  split
  · rfl
  · next h => simp [openTier_quads _ _ _ _ h]

@[simp] theorem refreshMain_quads (s : State) (b : NandBlock) : (refreshMain s b).quads = s.quads := by
  obtain ⟨f, hf, opened⟩ : ∃ f, f = openBlock ∧ ∀ s l n, ∀ t ∈ f s l n, t.quads = s.quads :=
    ⟨_, rfl, openBlock_quads⟩
  obtain ⟨g, hg⟩ : ∃ g, g = refreshMain := ⟨_, rfl⟩
  rw [← hg]
  delta refreshMain at hg
  rw [← hf] at hg
  subst hg
  dsimp only
  split
  · simp
  · next h => simp [opened _ _ _ _ h]

@[simp] theorem execNandBlockRefresh_quads (block corrected : Nat) (s : State) :
    (after (execNandBlockRefresh block corrected s) s).quads = s.quads := by
  unfold execNandBlockRefresh
  split <;> simp

@[simp] theorem scanDone_quads (s : State) (i : NandInfo) : (scanDone s i).quads = s.quads := by simp [scanDone]
@[simp] theorem restoreDamask_quads (s : State) : (restoreDamask s).quads = s.quads := by simp [restoreDamask]
@[simp] theorem execNandScanComplete_quads (info : NandInfo) (s : State) :
    (after (execNandScanComplete info s) s).quads = s.quads := by simp [execNandScanComplete]
@[simp] theorem restamp_quads (s : State) (all : Bool) (cycle : BitVec 24) (oldT0 newT0 : Nat) :
    (restamp s all cycle oldT0 newT0).quads = s.quads := by simp [restamp]
@[simp] theorem timeReady_quads (s : State) : (timeReady s).quads = s.quads := by simp [timeReady]
@[simp] theorem resumeTime_quads (s : State) : (resumeTime s).quads = s.quads := by simp [resumeTime]
@[simp] theorem noteEvents_quads (s : State) : (noteEvents s).quads = s.quads := by simp [noteEvents]

@[simp] theorem copyKept_quads (s : State) : (copyKept s).quads = s.quads := by
  unfold copyKept
  split
  · rfl
  · split
    · rfl
    · next t h =>
      have kept := getD_quads (programTier_quads t false) rfl
      dsimp only
      split <;> simp [kept, openBlock_quads _ _ _ _ h]

@[simp] theorem histStart_quads (s0 : State) : (histStart s0).quads = s0.quads := by simp [histStart]
@[simp] theorem execIndexBuildComplete_quads (s : State) :
    (after (execIndexBuildComplete s) s).quads = s.quads := by simp [execIndexBuildComplete]
@[simp] theorem execRecorderCheckpoint_quads (s : State) :
    (after (execRecorderCheckpoint s) s).quads = s.quads := by simp [execRecorderCheckpoint]
@[simp] theorem stageAsP_quads (s : State) (r : Rec) : (stageAsP s r).quads = s.quads := by
  unfold stageAsP
  (repeat' split) <;> simp
@[simp] theorem execRecordsDroppedReport_quads (s : State) :
    (after (execRecordsDroppedReport s) s).quads = s.quads := by simp [execRecordsDroppedReport]
@[simp] theorem releaseCursor_quads (s : State) (c : Fin 8) : (releaseCursor s c).quads = s.quads := by simp [releaseCursor]
@[simp] theorem claimCursor_quads (s : State) (r : Req) (c : Fin 8) : (claimCursor s r c).quads = s.quads := by simp [claimCursor]
@[simp] theorem execCursorClaim_quads (r : Req) (c : Fin 8) (s : State) :
    (after (execCursorClaim r c s) s).quads = s.quads := by simp [execCursorClaim]
@[simp] theorem execCursorRelease_quads (r : Req) (c : Fin 8) (s : State) :
    (after (execCursorRelease r c s) s).quads = s.quads := by simp [execCursorRelease]
@[simp] theorem execCursorIdleTimeout_quads (c : Fin 8) (s : State) :
    (after (execCursorIdleTimeout c s) s).quads = s.quads := by simp [execCursorIdleTimeout]
@[simp] theorem startFill_quads (s : State) (c : Fin 8) (hi lo : Word) :
    (startFill s c hi lo).quads = s.quads := by simp [startFill]
@[simp] theorem execPositionLowWrite_quads (r : Req) (c : Fin 8) (w : Word) (s : State) :
    (after (execPositionLowWrite r c w s) s).quads = s.quads := by simp [execPositionLowWrite]
@[simp] theorem advanceCursor_quads (s : State) (c : Fin 8) : (advanceCursor s c).quads = s.quads := by simp [advanceCursor]
@[simp] theorem execCursorAdvance_quads (r : Req) (c : Fin 8) (s : State) :
    (after (execCursorAdvance r c s) s).quads = s.quads := by simp [execCursorAdvance]

@[simp] theorem seekOldestCursor_quads (s : State) (c : Fin 8) : (seekOldestCursor s c).quads = s.quads := by
  unfold seekOldestCursor
  dsimp only
  split <;> simp

@[simp] theorem seekNewestCursor_quads (s : State) (c : Fin 8) : (seekNewestCursor s c).quads = s.quads := by
  unfold seekNewestCursor
  dsimp only
  split <;> simp

@[simp] theorem execSeekOldest_quads (r : Req) (c : Fin 8) (s : State) :
    (after (execSeekOldest r c s) s).quads = s.quads := by simp [execSeekOldest]
@[simp] theorem execSeekNewest_quads (r : Req) (c : Fin 8) (s : State) :
    (after (execSeekNewest r c s) s).quads = s.quads := by simp [execSeekNewest]
@[simp] theorem writeCursorControl_quads (s : State) (c : Fin 8) (w : Word) :
    (writeCursorControl s c w).quads = s.quads := by simp [writeCursorControl]
@[simp] theorem endFill_quads (s : State) (c : Fin 8) (f : Fill) (skip : Nat) :
    (endFill s c f skip).quads = s.quads := by simp [endFill]

@[simp] theorem noteBad_quads (s : State) (bad : List (Word × Word)) : (noteBad s bad).quads = s.quads := by
  refine foldl_quads _ _ _ fun t p => ?_
  dsimp only
  split <;> simp

@[simp] theorem fillMain_quads (s : State) (c : Fin 8) : (fillMain s c).quads = s.quads := by simp [fillMain]
@[simp] theorem fillPerm_quads (s : State) (c : Fin 8) : (fillPerm s c).quads = s.quads := by simp [fillPerm]
@[simp] theorem fillTrend_quads (s : State) (c : Fin 8) : (fillTrend s c).quads = s.quads := by simp [fillTrend]

@[simp] theorem execWindowFillComplete_quads (c : Fin 8) (bad : List (Word × Word)) (s : State) :
    (after (execWindowFillComplete c bad s) s).quads = s.quads := by
  unfold execWindowFillComplete
  dsimp only
  split <;> simp

@[simp] theorem modTrend_quads (s : State) (p : Nat) (f : Trend → Trend) :
    (s.modTrend p f).quads = s.quads := by simp [State.modTrend]
@[simp] theorem trendStep_quads (s : State) (e : Nat × LocalPt) : (trendStep s e).quads = s.quads := by simp [trendStep]
@[simp] theorem execTrendSample_quads (s : State) : (after (execTrendSample s) s).quads = s.quads := by simp [execTrendSample]
@[simp] theorem recycleTrend_quads (s : State) : (recycleTrend s).quads = s.quads := by simp [recycleTrend]

@[simp] theorem flushTrend_quads : ∀ (f : Nat) (s : State), (flushTrend f s).quads = s.quads
  | 0, _ => rfl
  | f + 1, s => by
    have opened := programTier_quads s true
    unfold flushTrend
    split
    · split
      · next t h => simp [flushTrend_quads f, opened t h]
      · rfl
    · rfl

@[simp] theorem archiveAll_quads (s : State) (l : List (Nat × LocalPt)) (start : Nat) :
    (archiveAll s l start).quads = s.quads := by simp [archiveAll]
@[simp] theorem execTrendArchive_quads (s : State) : (after (execTrendArchive s) s).quads = s.quads := by simp [execTrendArchive]

/-! Time and the backup domain (R520 to R544). -/

@[simp] theorem modBkup_quads (s : State) (f : Bkup → Bkup) : (s.modBkup f).quads = s.quads := by simp [State.modBkup]
@[simp] theorem setQuality_quads (s : State) (q : TimeQ) : (setQuality s q).quads = s.quads := by simp [setQuality]
@[simp] theorem clockStep_quads (s : State) (cause : Nat) (sec : Word) (sub : BitVec 15) :
    (clockStep s cause sec sub).quads = s.quads := by simp [clockStep]
@[simp] theorem execBackupSupplyChangeover_quads (toVbat : Bool) (s : State) :
    (after (execBackupSupplyChangeover toVbat s) s).quads = s.quads := by simp [execBackupSupplyChangeover]
@[simp] theorem execBrownoutLatchSet_quads (lost : Bool) (s : State) :
    (after (execBrownoutLatchSet lost s) s).quads = s.quads := by simp [execBrownoutLatchSet]
@[simp] theorem execVbatTest_quads (mv : BitVec 12) (s : State) :
    (after (execVbatTest mv s) s).quads = s.quads := by simp [execVbatTest]
@[simp] theorem loadRoll_quads (s : State) : (loadRoll s).quads = s.quads := by simp [loadRoll]
@[simp] theorem execOpMsIncrement_quads (s : State) :
    (after (execOpMsIncrement s) s).quads = s.quads := by simp [execOpMsIncrement]
@[simp] theorem applyShift_quads (s : State) (n : Int) : (applyShift s n).quads = s.quads := by simp [applyShift]

@[simp] theorem qualityStep_quads (s : State) (off : Int) : (qualityStep s off).quads = s.quads := by
  unfold qualityStep
  dsimp only
  split <;> simp

@[simp] theorem compareRtc_quads (s : State) (ptpNs : Int) : (compareRtc s ptpNs).quads = s.quads := by simp [compareRtc]
@[simp] theorem rollover_quads (s : State) : (rollover s).quads = s.quads := by simp [rollover]
@[simp] theorem execRtcRolloverComparison_quads (ptpNs : Int) (s : State) :
    (after (execRtcRolloverComparison ptpNs s) s).quads = s.quads := by simp [execRtcRolloverComparison]
@[simp] theorem stageWords_quads (s : State) (sec sub : Option Word) :
    (stageWords s sec sub).quads = s.quads := by simp [stageWords]
@[simp] theorem execStageWrite_quads (r : Req) (sec sub : Option Word) (s : State) :
    (after (execStageWrite r sec sub s) s).quads = s.quads := by simp [execStageWrite]
@[simp] theorem commitStage_quads (s : State) : (commitStage s).quads = s.quads := by simp [commitStage]
@[simp] theorem execRtcCommit_quads (r : Req) (s : State) :
    (after (execRtcCommit r s) s).quads = s.quads := by simp [execRtcCommit]
@[simp] theorem execCancelStage_quads (r : Req) (s : State) :
    (after (execCancelStage r s) s).quads = s.quads := by simp [execCancelStage]
@[simp] theorem execStageLapse_quads (s : State) : (after (execStageLapse s) s).quads = s.quads := by simp [execStageLapse]
@[simp] theorem writeShift_quads (s : State) (w : Word) : (writeShift s w).quads = s.quads := by simp [writeShift]
@[simp] theorem execRtcShiftWrite_quads (r : Req) (w : Word) (s : State) :
    (after (execRtcShiftWrite r w s) s).quads = s.quads := by simp [execRtcShiftWrite]
@[simp] theorem execShiftComplete_quads (s : State) :
    (after (execShiftComplete s) s).quads = s.quads := by simp [execShiftComplete]
@[simp] theorem writeTrim_quads (s : State) (w : Word) : (writeTrim s w).quads = s.quads := by simp [writeTrim]
@[simp] theorem execRtcTrimCodeWrite_quads (r : Req) (w : Word) (s : State) :
    (after (execRtcTrimCodeWrite r w s) s).quads = s.quads := by simp [execRtcTrimCodeWrite]
@[simp] theorem execAutoTrimAdjust_quads (s : State) :
    (after (execAutoTrimAdjust s) s).quads = s.quads := by simp [execAutoTrimAdjust]
@[simp] theorem execTimePeriodic_quads (s : State) : (after (execTimePeriodic s) s).quads = s.quads := by simp [execTimePeriodic]
@[simp] theorem startShutdown_quads (s : State) : (startShutdown s).quads = s.quads := by simp [startShutdown]
@[simp] theorem execShutdown_quads (r : Req) (s : State) : (after (execShutdown r s) s).quads = s.quads := by simp [execShutdown]
@[simp] theorem execPwronOff_quads (s : State) : (after (execPwronOff s) s).quads = s.quads := by
  unfold execPwronOff
  split <;> simp
@[simp] theorem execWakenLow_quads (s : State) : (after (execWakenLow s) s).quads = s.quads := by simp [execWakenLow]
@[simp] theorem execWakeAtMatch_quads (s : State) : (after (execWakeAtMatch s) s).quads = s.quads := by simp [execWakeAtMatch]
@[simp] theorem execOscillatorStart_quads (s : State) :
    (after (execOscillatorStart s) s).quads = s.quads := by simp [execOscillatorStart]
@[simp] theorem execTapInstruction_quads (ins : TapIns) (s : State) :
    (after (execTapInstruction ins s) s).quads = s.quads := by simp [execTapInstruction]

/-! The start and readiness (R77 to R102). -/

@[simp] theorem manualEnds_quads (s : State) : (manualEnds s).quads = s.quads := by simp [manualEnds]
@[simp] theorem checkBackup_quads (s : State) : (checkBackup s).quads = s.quads := by simp [checkBackup]
@[simp] theorem execPornRelease_quads (norMib : Option Nat) (s : State) :
    (after (execPornRelease norMib s) s).quads = s.quads := by simp [execPornRelease]
@[simp] theorem loadTrim_quads (s : State) : (loadTrim s).quads = s.quads := by simp [loadTrim]
@[simp] theorem lostClockMsg_quads (s : State) : (lostClockMsg s).quads = s.quads := by simp [lostClockMsg]
@[simp] theorem loadIfLinked_quads (s : State) : (loadIfLinked s).quads = s.quads := by simp [loadIfLinked]

@[simp] theorem readPhase0_quads (s : State) : (readPhase0 s).quads = s.quads := by
  obtain ⟨f, hf⟩ : ∃ f, f = chosenSlot := ⟨_, rfl⟩
  obtain ⟨k, hk⟩ : ∃ k, k = readTypes := ⟨_, rfl⟩
  obtain ⟨g, hg⟩ : ∃ g, g = readPhase0 := ⟨_, rfl⟩
  rw [← hg]
  delta readPhase0 at hg
  rw [← hf, ← hk] at hg
  subst hg
  dsimp only
  split
  · simp
  · split
    · split <;> simp
    · simp

@[simp] theorem readPhase1_quads (s : State) : (readPhase1 s).quads = s.quads := by
  obtain ⟨f, hf⟩ : ∃ f, f = firmwareCopy := ⟨_, rfl⟩
  obtain ⟨g, hg⟩ : ∃ g, g = readPhase1 := ⟨_, rfl⟩
  rw [← hg]
  delta readPhase1 at hg
  rw [← hf] at hg
  subst hg
  dsimp only
  split
  · rfl
  · simp

@[simp] theorem readRest_quads (s : State) : (readRest s).quads = s.quads := by simp [readRest]
@[simp] theorem startPoints_quads (s : State) : (startPoints s).quads = s.quads := by simp [startPoints]
@[simp] theorem readPhase2_quads (s : State) : (readPhase2 s).quads = s.quads := by simp [readPhase2]

@[simp] theorem execNorReadPhaseComplete_quads (phase : Fin 3) (s : State) :
    (after (execNorReadPhaseComplete phase s) s).quads = s.quads := by
  unfold execNorReadPhaseComplete
  split <;> simp

@[simp] theorem ringStart_quads (s : State) : (ringStart s).quads = s.quads := by simp [ringStart]
@[simp] theorem timeStart_quads (s : State) : (timeStart s).quads = s.quads := by simp [timeStart]
@[simp] theorem loadSampler_quads (s : State) (k : Fin 16) : (loadSampler s k).quads = s.quads := by simp [loadSampler]
@[simp] theorem startSampler_quads (s : State) (k : Fin 16) : (startSampler s k).quads = s.quads := by simp [startSampler]
@[simp] theorem vibStart_quads (s : State) : (vibStart s).quads = s.quads := by simp [vibStart]
@[simp] theorem fnStart_quads (s : State) (fn idx : Nat) : (fnStart s fn idx).quads = s.quads := by
  unfold fnStart
  (repeat' split) <;> simp
@[simp] theorem fnFollow_quads (s : State) (fn idx : Nat) : (fnFollow s fn idx).quads = s.quads := by
  unfold fnFollow
  (repeat' split) <;> simp
@[simp] theorem execFunctionReady_quads (fn : BitVec 8) (idx : BitVec 16) (s : State) :
    (after (execFunctionReady fn idx s) s).quads = s.quads := by simp [execFunctionReady]
@[simp] theorem markPoint_quads (s : State) (p : Nat) : (markPoint s p).quads = s.quads := by
  unfold markPoint
  split <;> simp
@[simp] theorem markGroup_quads (s : State) (g : Nat) : (markGroup s g).quads = s.quads := by simp [markGroup]
@[simp] theorem lateRec_quads (s : State) (k : Nat) : (lateRec s k).quads = s.quads := by simp [lateRec]
@[simp] theorem execReadyDeadlineExpiry_quads (s : State) :
    (after (execReadyDeadlineExpiry s) s).quads = s.quads := by simp [execReadyDeadlineExpiry]

/-! Amendments and images (R128 to R138). -/

@[simp] theorem closeAmend_quads (s : State) : (closeAmend s).quads = s.quads := by simp [closeAmend]
@[simp] theorem noteOwner_quads (s : State) (r : Req) : (noteOwner s r).quads = s.quads := by simp [noteOwner]
@[simp] theorem openAmend_quads (s : State) (r : Req) : (openAmend s r).quads = s.quads := by simp [openAmend]
@[simp] theorem execAmendOpen_quads (r : Req) (s : State) :
    (after (execAmendOpen r s) s).quads = s.quads := by simp [execAmendOpen]
@[simp] theorem abortAmend_quads (s : State) (r : Req) : (abortAmend s r).quads = s.quads := by simp [abortAmend]
@[simp] theorem execAmendAbort_quads (r : Req) (s : State) :
    (after (execAmendAbort r s) s).quads = s.quads := by simp [execAmendAbort]
@[simp] theorem execAmendOpenTimeout_quads (s : State) :
    (after (execAmendOpenTimeout s) s).quads = s.quads := by simp [execAmendOpenTimeout]
@[simp] theorem applyAmend_quads (s : State) (r : Req) : (applyAmend s r).quads = s.quads := by simp [applyAmend]
@[simp] theorem execAmendApply_quads (r : Req) (s : State) :
    (after (execAmendApply r s) s).quads = s.quads := by simp [execAmendApply]
@[simp] theorem writeAmendLen_quads (s : State) (r : Req) (w : Word) :
    (writeAmendLen s r w).quads = s.quads := by simp [writeAmendLen]
@[simp] theorem writeAmendBuffer_quads (s : State) (r : Req) (i : Nat) (ws : List Word) :
    (writeAmendBuffer s r i ws).quads = s.quads := by simp [writeAmendBuffer]
@[simp] theorem liveRota_quads (s : State) (r : AmRec) : (liveRota s r).quads = s.quads := by simp [liveRota]
@[simp] theorem dropOwed_quads (s : State) : (dropOwed s).quads = s.quads := by simp [dropOwed]
@[simp] theorem liveDamask_quads (was : Nat → Word) (s : State) (r : AmRec) :
    (liveDamask was s r).quads = s.quads := by simp [liveDamask]
@[simp] theorem liveFeat_quads (s : State) (r : AmRec) : (liveFeat s r).quads = s.quads := by simp [liveFeat]
@[simp] theorem liveApply_quads (damask : Nat → Word) (s : State) (rs : List AmRec) :
    (liveApply damask s rs).quads = s.quads := by simp [liveApply]
@[simp] theorem endCheck_quads (s : State) : (endCheck s).quads = s.quads := by simp [endCheck]
@[simp] theorem execAmendCheckComplete_quads (s : State) :
    (after (execAmendCheckComplete s) s).quads = s.quads := by simp [execAmendCheckComplete]
@[simp] theorem askRepair_quads (s : State) : (askRepair s).quads = s.quads := by simp [askRepair]
@[simp] theorem imageStart_quads (s : State) : (imageStart s).quads = s.quads := by simp [imageStart]
@[simp] theorem execImageBegin_quads (r : Req) (s : State) :
    (after (execImageBegin r s) s).quads = s.quads := by simp [execImageBegin]
@[simp] theorem execImageEraseComplete_quads (s : State) :
    (after (execImageEraseComplete s) s).quads = s.quads := by simp [execImageEraseComplete]
@[simp] theorem imageWord_quads (s : State) (i : Nat) (w : Word) : (imageWord s i w).quads = s.quads := by simp [imageWord]
@[simp] theorem imageWrite_quads (s : State) (i : Nat) (ws : List Word) :
    (imageWrite s i ws).quads = s.quads := by simp [imageWrite]
@[simp] theorem execImageWindowWrite_quads (r : Req) (idx : BitVec 23) (ws : List Word) (s : State) :
    (after (execImageWindowWrite r idx ws s) s).quads = s.quads := by simp [execImageWindowWrite]
@[simp] theorem imageCommit_quads (s : State) : (imageCommit s).quads = s.quads := by simp [imageCommit]
@[simp] theorem execImageCommit_quads (r : Req) (s : State) :
    (after (execImageCommit r s) s).quads = s.quads := by simp [execImageCommit]
@[simp] theorem imageDrop_quads (s : State) : (imageDrop s).quads = s.quads := by simp [imageDrop]
@[simp] theorem execImageCancel_quads (r : Req) (s : State) :
    (after (execImageCancel r s) s).quads = s.quads := by simp [execImageCancel]
@[simp] theorem execImageReceiveTimeout_quads (s : State) :
    (after (execImageReceiveTimeout s) s).quads = s.quads := by simp [execImageReceiveTimeout]
@[simp] theorem endVerify_quads (s : State) : (endVerify s).quads = s.quads := by simp [endVerify]
@[simp] theorem execImageVerifyComplete_quads (s : State) :
    (after (execImageVerifyComplete s) s).quads = s.quads := by simp [execImageVerifyComplete]

/-! The ring ports and precision time (R426 to R442). -/

@[simp] theorem refill_quads (s : State) (c : Fin 4) : (refill s c).quads = s.quads := by simp [refill]
@[simp] theorem discardFrame_quads (s : State) (c : Fin 4) : (discardFrame s c).quads = s.quads := by simp [discardFrame]
@[simp] theorem putFrame_quads (s : State) (p : Fin 3) (c : Fin 4) : (putFrame s p c).quads = s.quads := by simp [putFrame]
@[simp] theorem clearWire_quads (s : State) : (clearWire s).quads = s.quads := by simp [clearWire]
@[simp] theorem putOnRing_quads (s : State) (c : Fin 4) : (putOnRing s c).quads = s.quads := by simp [putOnRing]
@[simp] theorem linkLost_quads (s : State) (p : Fin 3) (was : LinkSt) : (linkLost s p was).quads = s.quads := by simp [linkLost]
@[simp] theorem execPortLinkChange_quads (p : Fin 3) (synced negotiated verified : Bool) (speed : BitVec 2) (s : State) :
    (after (execPortLinkChange p synced negotiated verified speed s) s).quads = s.quads := by simp [execPortLinkChange]

@[simp] theorem toReceive_quads (s : State) (c : Fin 4) (src : BitVec 48) (bytes : Nat) :
    (toReceive s c src bytes).quads = s.quads := by
  unfold toReceive
  (repeat' split) <;> simp

@[simp] theorem noteOcc_quads (c : Fin 4) (f : RingFrame) (s : State) : (noteOcc c f s).quads = s.quads := by simp [noteOcc]
@[simp] theorem forward_quads (s : State) (o : Fin 2) (c : Fin 4) (f : RingFrame) :
    (forward s o c f).quads = s.quads := by simp [forward]
@[simp] theorem putDup_quads (s : State) (d : HsrDup) : (putDup s d).quads = s.quads := by simp [putDup]
@[simp] theorem ownReturns_quads (s : State) (p : Fin 2) : (ownReturns s p).quads = s.quads := by simp [ownReturns]
@[simp] theorem ringFrame_quads (s : State) (p : Fin 2) (c : Fin 4) (f : RingFrame) :
    (ringFrame s p c f).quads = s.quads := by simp [ringFrame]
@[simp] theorem addLoad_quads (s : State) (p : Fin 2) (c : Fin 4) (bytes : Nat) :
    (addLoad s p c bytes).quads = s.quads := by simp [addLoad]
@[simp] theorem ringIn_quads (s : State) (p : Fin 2) (f : RingFrame) : (ringIn s p f).quads = s.quads := by simp [ringIn]
@[simp] theorem execRingFrameReceive_quads (p : Fin 2) (f : RingFrame) (s : State) :
    (after (execRingFrameReceive p f s) s).quads = s.quads := by simp [execRingFrameReceive]

theorem learn_quads (s : State) (m : BitVec 48) : ∀ t ∈ learn s m, t.quads = s.quads := by
  unfold learn
  dsimp only
  split <;> simp

@[simp] theorem stationOut_quads (s : State) (c : Fin 4) (f : RingFrame) :
    (stationOut s c f).quads = s.quads := by simp [stationOut]

@[simp] theorem stationIn_quads (s : State) (f : RingFrame) : (stationIn s f).quads = s.quads := by
  unfold stationIn
  dsimp only
  split
  · simp
  · split
    · simp
    · split
      · simp
      · next h => simp [learn_quads _ _ _ h]

@[simp] theorem execStationFrameReceive_quads (f : RingFrame) (s : State) :
    (after (execStationFrameReceive f s) s).quads = s.quads := by simp [execStationFrameReceive]
@[simp] theorem execHsrSupervisionSend_quads (s : State) :
    (after (execHsrSupervisionSend s) s).quads = s.quads := by simp [execHsrSupervisionSend]
@[simp] theorem execProxyEntryExpiry_quads (k : Fin 8) (s : State) :
    (after (execProxyEntryExpiry k s) s).quads = s.quads := by simp [execProxyEntryExpiry]
@[simp] theorem ringOpenStep_quads (s : State) : (ringOpenStep s).quads = s.quads := by simp [ringOpenStep]
@[simp] theorem execRingOpenTimeout_quads (s : State) :
    (after (execRingOpenTimeout s) s).quads = s.quads := by simp [execRingOpenTimeout]
@[simp] theorem sendPause_quads (s : State) (on : Bool) : (sendPause s on).quads = s.quads := by simp [sendPause]
@[simp] theorem pauseStep_quads (s : State) : (pauseStep s).quads = s.quads := by simp [pauseStep]
@[simp] theorem execPauseRefresh_quads (s : State) : (after (execPauseRefresh s) s).quads = s.quads := by simp [execPauseRefresh]
@[simp] theorem modDup_quads (s : State) (mac : BitVec 48) (seq : BitVec 16) (f : HsrDup → HsrDup) :
    (modDup s mac seq f).quads = s.quads := by simp [modDup]

@[simp] theorem recoverFrame_quads (s : State) (c : Fin 4) (what : FrameCopy) (src : BitVec 48) (seq : BitVec 16) :
    (recoverFrame s c what src seq).quads = s.quads := by
  unfold recoverFrame
  split <;> simp

@[simp] theorem execFrameBufferEccError_quads (cls : Fin 4) (what : FrameCopy) (src : BitVec 48) (seq : BitVec 16) (s : State) :
    (after (execFrameBufferEccError cls what src seq s) s).quads = s.quads := by simp [execFrameBufferEccError]
@[simp] theorem ptpQuality_quads (s : State) : (ptpQuality s).quads = s.quads := by simp [ptpQuality]
@[simp] theorem takeAnnounce_quads (s : State) (g : GmData) (utc : BitVec 16) (valid : Bool) :
    (takeAnnounce s g utc valid).quads = s.quads := by simp [takeAnnounce]
@[simp] theorem takeSync_quads (s : State) (seconds : Nat) (offset : Word) :
    (takeSync s seconds offset).quads = s.quads := by simp [takeSync]

@[simp] theorem execPtpMessageReceive_quads (p : Fin 3) (m : PtpMsg) (s : State) :
    (after (execPtpMessageReceive p m s) s).quads = s.quads := by
  unfold execPtpMessageReceive
  split <;> simp

@[simp] theorem execPtpPeerDelayMeasure_quads (p : Fin 2) (ns : Word) (s : State) :
    (after (execPtpPeerDelayMeasure p ns s) s).quads = s.quads := by simp [execPtpPeerDelayMeasure]

@[simp] theorem noAnnounce_quads (s : State) : (noAnnounce s).quads = s.quads := by
  unfold noAnnounce
  dsimp only
  split <;> simp

@[simp] theorem execPtpAnnounceTimeout_quads (s : State) :
    (after (execPtpAnnounceTimeout s) s).quads = s.quads := by simp [execPtpAnnounceTimeout]

/-! Performance counters (R549 to R563). -/

@[simp] theorem execSamplerWrap_quads (k : Fin 16) (extra : Word) (src : SampleSrc) (s : State) :
    (after (execSamplerWrap k extra src s) s).quads = s.quads := by
  unfold execSamplerWrap
  split <;> simp

@[simp] theorem writeSelect_quads (s : State) (k : Fin 16) (w : Word) :
    (writeSelect s k w).quads = s.quads := by simp [writeSelect]
@[simp] theorem execSamplerSelectWrite_quads (r : Req) (k : Fin 16) (w : Word) (s : State) :
    (after (execSamplerSelectWrite r k w s) s).quads = s.quads := by simp [execSamplerSelectWrite]
@[simp] theorem writeCount_quads (s : State) (k : Fin 16) (ws : List Word) : (writeCount s k ws).quads = s.quads := by
  unfold writeCount
  (repeat' split) <;> simp
@[simp] theorem execCountWrite_quads (r : Req) (k : Fin 16) (ws : List Word) (s : State) :
    (after (execCountWrite r k ws s) s).quads = s.quads := by simp [execCountWrite]
@[simp] theorem clearWrapsAll_quads (s : State) : (clearWrapsAll s).quads = s.quads := by simp [clearWrapsAll]
@[simp] theorem execClearWraps_quads (r : Req) (s : State) :
    (after (execClearWraps r s) s).quads = s.quads := by simp [execClearWraps]
@[simp] theorem execDumpPeriodic_quads (s : State) : (after (execDumpPeriodic s) s).quads = s.quads := by simp [execDumpPeriodic]
@[simp] theorem execDumpNow_quads (r : Req) (s : State) : (after (execDumpNow r s) s).quads = s.quads := by simp [execDumpNow]
@[simp] theorem sendDumpFeed_quads (s : State) (payload : List Word) :
    (sendDumpFeed s payload).quads = s.quads := by simp [sendDumpFeed]
@[simp] theorem sendDump_quads (s : State) (d : Dump) : (sendDump s d).quads = s.quads := by simp [sendDump]
@[simp] theorem execCounterDump_quads (s : State) : (after (execCounterDump s) s).quads = s.quads := by
  unfold execCounterDump
  (repeat' split) <;> simp
@[simp] theorem resend_quads (s : State) (seq : Word) : (resend s seq).quads = s.quads := by
  unfold resend
  split <;> simp
@[simp] theorem execResendDump_quads (r : Req) (seq : Word) (s : State) :
    (after (execResendDump r seq s) s).quads = s.quads := by simp [execResendDump]

/-! Writes to the object space that name no quad (R8 to R12, R451). -/

@[simp] theorem writeChannelControl_quads (s : State) (r : Req) (n : Fin 16) (w : Word) :
    (writeChannelControl s r n w).quads = s.quads := by
  unfold writeChannelControl
  split <;> simp

@[simp] theorem writeAoControl_quads (s : State) (r : Req) (n : Fin 4) (w : Word) : (writeAoControl s r n w).quads = s.quads := by
  unfold writeAoControl
  split <;> simp
@[simp] theorem writeDoControl_quads (s : State) (r : Req) (n : Fin 8) (w : Word) : (writeDoControl s r n w).quads = s.quads := by
  unfold writeDoControl
  split <;> simp
@[simp] theorem writeTrimRef_quads (s : State) (r : Req) (n : Fin 16) (v : Pair) :
    (writeTrimRef s r n v).quads = s.quads := by simp [writeTrimRef]

@[simp] theorem writeField_quads (s : State) (r : Req) (a : Nat) (w : Word) (ws : List Word) :
    (writeField s r a w ws).1.quads = s.quads := by
  unfold writeField
  dsimp only
  (repeat' split) <;> simp

@[simp] theorem writePoint_quads (s : State) (r : Req) (a : Nat) (w : Word) (ws : List Word) :
    (writePoint s r a w ws).1.quads = s.quads := by
  unfold writePoint
  dsimp only
  (repeat' split) <;> simp

@[simp] theorem writeAlarms_quads (s : State) (r : Req) (a : Nat) (w : Word) : (writeAlarms s r a w).quads = s.quads := by
  unfold writeAlarms
  (repeat' split) <;> simp
@[simp] theorem writeCan_quads (s : State) (r : Req) (a : Nat) (w : Word) : (writeCan s r a w).quads = s.quads := by
  unfold writeCan
  (repeat' split) <;> simp
@[simp] theorem clearRingCounters_quads (s : State) : (clearRingCounters s).quads = s.quads := by simp [clearRingCounters]
@[simp] theorem execRingClearCounters_quads (r : Req) (s : State) :
    (after (execRingClearCounters r s) s).quads = s.quads := by simp [execRingClearCounters]
@[simp] theorem ringPeaks_quads (s : State) : (ringPeaks s).quads = s.quads := by simp [ringPeaks]
@[simp] theorem execClearPeaks_quads (r : Req) (s : State) :
    (after (execClearPeaks r s) s).quads = s.quads := by simp [execClearPeaks]
@[simp] theorem writeRing_quads (s : State) (r : Req) (a : Nat) (w : Word) :
    (writeRing s r a w).quads = s.quads := by simp [writeRing]

@[simp] theorem cursorActOf_quads (s : State) (r : Req) (c : Fin 8) (w : Word) (i : Nat) :
    (cursorActOf s r c w i).quads = s.quads := by
  unfold cursorActOf
  (repeat' split) <;> simp

@[simp] theorem writeHistory_quads (s : State) (r : Req) (a : Nat) (w : Word) : (writeHistory s r a w).quads = s.quads := by
  unfold writeHistory
  (repeat' split) <;> simp

@[simp] theorem writeTime_quads (s : State) (r : Req) (a : Nat) (w : Word) (ws : List Word) :
    (writeTime s r a w ws).1.quads = s.quads := by
  unfold writeTime
  dsimp only
  (repeat' split) <;> simp

@[simp] theorem writeCounters_quads (s : State) (r : Req) (a : Nat) (w : Word) (ws : List Word) :
    (writeCounters s r a w ws).1.quads = s.quads := by
  unfold writeCounters
  (repeat' split) <;> simp

@[simp] theorem writeConfig_quads (s : State) (r : Req) (a : Nat) (w : Word) (ws : List Word) :
    (writeConfig s r a w ws).1.quads = s.quads := by
  unfold writeConfig
  (repeat' split) <;> simp

@[simp] theorem writeVib_quads (s : State) (r : Req) (a : Nat) (w : Word) : (writeVib s r a w).quads = s.quads := by
  unfold writeVib
  split <;> simp

/-! Requests, replies and sending (R437, R450 to R456). -/

@[simp] theorem noteReport_quads (s : State) (q : Subs) (ws : List Word) :
    (noteReport s q ws).quads = s.quads := by simp [noteReport]

@[simp] theorem atLeaving_quads (s : State) (m : Msg) : (atLeaving s m).1.quads = s.quads := by
  unfold atLeaving
  dsimp only
  (repeat' split) <;> simp

@[simp] theorem countKib_quads (s : State) (c : Fin 4) (bytes : Nat) : (countKib s c bytes).quads = s.quads := by simp [countKib]

@[simp] theorem admitWaiting_quads : ∀ (f : Nat) (s : State), (admitWaiting f s).quads = s.quads
  | 0, _ => rfl
  | f + 1, s => by
    unfold admitWaiting
    split
    · rfl
    · split
      · simp [admitWaiting_quads f]
      · rfl

@[simp] theorem sendFront_quads (s : State) (c : Fin 4) (m : Msg) (rest : List Msg) :
    (sendFront s c m rest).quads = s.quads := by simp [sendFront]

@[simp] theorem sendNext_quads (s : State) (c : Fin 4) : (sendNext s c).quads = s.quads := by
  unfold sendNext
  dsimp only
  (repeat' split) <;> simp

@[simp] theorem execOriginationSend_quads (cls : Fin 4) (s : State) :
    (after (execOriginationSend cls s) s).quads = s.quads := by simp [execOriginationSend]
@[simp] theorem endRequester_quads (s : State) (r : Req) : (endRequester s r).quads = s.quads := by simp [endRequester]

@[simp] theorem noteRequester_quads (s : State) (r : Req) : (noteRequester s r).quads = s.quads := by
  unfold noteRequester
  dsimp only
  (repeat' split) <;> simp

@[simp] theorem resendReply_quads (s : State) (k : Kept) : (resendReply s k).quads = s.quads := by
  unfold resendReply
  split <;> simp
@[simp] theorem keepReq_quads (s : State) (q : Rq) (type : BitVec 6) (reply : Option Msg) :
    (keepReq s q type reply).quads = s.quads := by simp [keepReq]

theorem serve_quads_cases (s : State) (q : Rq) (type : BitVec 6) (addr : Word) (count : BitVec 16)
    (f : State → State × Option (BitVec 16 × List Word)) :
    (serve s q type addr count f).quads = s.quads ∨
      (serve s q type addr count f).quads = (f (noteRequester s (rqReq q))).1.quads := by
  unfold serve
  dsimp only
  split
  · left; simp
  · split
    · left; simp
    · right; split <;> simp

@[simp] theorem serve_quads (s : State) (q : Rq) (type : BitVec 6) (addr : Word) (count : BitVec 16)
    (f : State → State × Option (BitVec 16 × List Word)) (h : ∀ t, (f t).1.quads = t.quads) :
    (serve s q type addr count f).quads = s.quads := by
  obtain e | e := serve_quads_cases s q type addr count f
  · exact e
  · simp [e, h]

@[simp] theorem windowRefill_quads (s : State) : (windowRefill s).quads = s.quads := by simp [windowRefill]
@[simp] theorem windowTake_quads (s : State) (addr : Word) (n : Nat) :
    (windowTake s addr n).quads = s.quads := by simp [windowTake]
@[simp] theorem touchCursors_quads (s : State) (r : Req) (addr : Word) (n : Nat) :
    (touchCursors s r addr n).quads = s.quads := by simp [touchCursors]
@[simp] theorem discardMsg_quads (s : State) (cause : Fin 8) : (discardMsg s cause).quads = s.quads := by simp [discardMsg]
@[simp] theorem readRange_quads (s : State) (r : Req) (addr : Word) (n : Nat) : (readRange s r addr n).1.quads = s.quads := by
  unfold readRange
  split <;> simp
@[simp] theorem execBerebRead_quads (q : Rq) (addr : Word) (count : BitVec 16) (s : State) :
    (after (execBerebRead q addr count s) s).quads = s.quads := by simp [execBerebRead]

@[simp] theorem subscribe_quads (s : State) (q : Rq) (addr : Word) (n : Nat) (w : Word) :
    (subscribe s q addr n w).1.quads = s.quads := by
  unfold subscribe
  dsimp only
  (repeat' split) <;> simp

@[simp] theorem execBerebSubscribe_quads (q : Rq) (addr : Word) (count : BitVec 16) (w : Word) (s : State) :
    (after (execBerebSubscribe q addr count w s) s).quads = s.quads := by simp [execBerebSubscribe]
@[simp] theorem execBerebUnsubscribe_quads (q : Rq) (s : State) :
    (after (execBerebUnsubscribe q s) s).quads = s.quads := by simp [execBerebUnsubscribe]
@[simp] theorem checkSub_quads (s : State) (u : Subs) : (checkSub s u).quads = s.quads := by simp [checkSub]
@[simp] theorem execSubscriptionCheck_quads (s : State) :
    (after (execSubscriptionCheck s) s).quads = s.quads := by simp [execSubscriptionCheck]
@[simp] theorem execSubscriptionLapse_quads (mac : BitVec 48) (s : State) :
    (after (execSubscriptionLapse mac s) s).quads = s.quads := by simp [execSubscriptionLapse]

@[simp] theorem execSnapshotRequest_quads (q : Rq) (s : State) : (after (execSnapshotRequest q s) s).quads = s.quads := by
  rw [execSnapshotRequest, after_doIf, ite_quads, serve_quads, ite_self]
  intro t
  split <;> simp

@[simp] theorem execIdentify_quads (q : Rq) (s : State) : (after (execIdentify q s) s).quads = s.quads := by simp [execIdentify]
@[simp] theorem execEndSession_quads (q : Rq) (s : State) :
    (after (execEndSession q s) s).quads = s.quads := by simp [execEndSession]
@[simp] theorem otherAction_quads (s : State) (q : Rq) : (otherAction s q).quads = s.quads := by simp [otherAction]
@[simp] theorem sendEvent_quads (s : State) (part : List (Word × Rec)) : (sendEvent s part).quads = s.quads := by simp [sendEvent]
@[simp] theorem sendEvents_quads (s : State) : (sendEvents s).quads = s.quads := by simp [sendEvents]
@[simp] theorem execEventSend_quads (s : State) : (after (execEventSend s) s).quads = s.quads := by simp [execEventSend]

/-! Bereb reception (R443 to R457). -/

@[simp] theorem takeAction_quads (s : State) (q : Rq) (ws : List Word) : (takeAction s q ws).quads = s.quads := by
  unfold takeAction
  dsimp only
  (repeat' split) <;> simp

@[simp] theorem takePlacement_quads (s : State) (ws : List Word) : (takePlacement s ws).quads = s.quads := by simp [takePlacement]
@[simp] theorem takeMsg_quads (s : State) (n : Fin 64) (m : Msg) : (takeMsg s n m).quads = s.quads := by
  unfold takeMsg
  split <;> simp
@[simp] theorem handOver_quads (s : State) (n : Fin 64) (m : Msg) : (handOver s n m).quads = s.quads := by simp [handOver]
@[simp] theorem setHeld_quads (s : State) (n : Fin 64) (c : Nat) (l : List Msg) :
    (setHeld s n c l).quads = s.quads := by simp [setHeld]
@[simp] theorem flushHeld_quads (s : State) (n : Fin 64) (c : Nat) : (flushHeld s n c).quads = s.quads := by simp [flushHeld]

@[simp] theorem drainHeld_quads (n : Fin 64) (c : Nat) : ∀ (f : Nat) (s : State), (drainHeld n c f s).quads = s.quads
  | 0, _ => rfl
  | f + 1, s => by
    unfold drainHeld
    split <;> simp [drainHeld_quads n c f]

@[simp] theorem inOrder_quads (s : State) (n : Fin 64) (m : Msg) : (inOrder s n m).quads = s.quads := by
  unfold inOrder
  dsimp only
  split <;> simp

@[simp] theorem noteSession_quads (s : State) (n : Nat) (sess : BitVec 16) : (noteSession s n sess).quads = s.quads := by
  unfold noteSession
  (repeat' split) <;> simp
@[simp] theorem takeFromNode_quads (s : State) (n : Fin 64) (m : Msg) :
    (takeFromNode s n m).quads = s.quads := by simp [takeFromNode]
@[simp] theorem takeOut_quads (s : State) (m : Msg) (words : Nat) : (takeOut s m words).quads = s.quads := by simp [takeOut]
@[simp] theorem dropMsg_quads (s : State) (m : Msg) (ws : List Word) (c : Fin 8) :
    (dropMsg s m ws c).quads = s.quads := by simp [dropMsg]
@[simp] theorem execSequenceHoldExpiry_quads (src : Fin 64) (cls : Fin 4) (s : State) :
    (after (execSequenceHoldExpiry src cls s) s).quads = s.quads := by simp [execSequenceHoldExpiry]

end Sys2Proof.Machine
end

section
/-! The epochs of the quads (R19): what each command does to the state and the epoch of every quad. -/

namespace Sys2Proof.Machine
open Sys2Proof

/-! The state and the epoch of every quad. -/

/-- The state and the epoch of each quad: what R19 speaks of. -/
def quadMarks (v : Vector Quad 4) : Vector (QuadState × BitVec 16) 4 := v.map fun x => (x.st, x.epoch)

theorem marks_at {s t : State} (h : quadMarks t.quads = quadMarks s.quads) (q : Fin 4) :
    (quadAt t q).st = (quadAt s q).st ∧ (quadAt t q).epoch = (quadAt s q).epoch := by
  have e := congrArg (vat · q) h
  simpa [quadMarks, quadAt] using e

theorem quadMarks_vmod (v : Vector Quad 4) (q : Fin 4) (f : Quad → Quad)
    (h : ∀ x, (f x).st = x.st ∧ (f x).epoch = x.epoch) : quadMarks (vmod v q f) = quadMarks v := by
  ext i hi
  · by_cases e : q.val = i <;> simp [quadMarks, vmod, e, h]
  · by_cases e : q.val = i <;> simp [quadMarks, vmod, e, h]

@[simp] theorem endTasks_marks (s : State) (l : List Nat) : quadMarks (endTasks s l).quads = quadMarks s.quads := by
  simp [quadMarks, endTasks, Function.comp_def]

@[simp] theorem noteTask_marks (s : State) (p cls : Nat) (ev : EvalIn) :
    quadMarks (noteTask s p cls ev).quads = quadMarks s.quads := by
  simp [noteTask]

@[simp] theorem evalRun_marks (s : State) (p : Nat) (l : LocalPt) (ev : EvalIn) :
    quadMarks (evalRun s p l ev).quads = quadMarks s.quads := by
  simp [evalRun]

@[simp] theorem evalPoint_marks (s : State) (p : Nat) (ev : EvalIn) :
    quadMarks (evalPoint s p ev).quads = quadMarks s.quads := by
  unfold evalPoint
  split <;> split <;> simp

@[simp] theorem evalHeld_marks (p tick : Nat) : ∀ (n : Nat) (s : State),
    quadMarks (evalHeld p tick n s).quads = quadMarks s.quads
  | 0, _ => rfl
  | n + 1, s => by
    unfold evalHeld
    split
    · rfl
    · rw [evalHeld_marks p tick n]
      split <;> simp

@[simp] theorem evalTurn_marks (ev : EvalIn) : ∀ (f : Nat) (early : Bool) (p : Nat) (s : State),
    quadMarks (evalTurn ev f early p s).quads = quadMarks s.quads
  | 0, _, _, _ => rfl
  | f + 1, early, p, s => by
    simp [evalTurn, foldl_keeps (fun s => quadMarks s.quads) _ fun s x => evalTurn_marks ev f true x s]

@[simp] theorem evalDue_marks (s : State) (p : Nat) (ev : EvalIn) : quadMarks (evalDue s p ev).quads = quadMarks s.quads := by
  unfold evalDue
  split
  · simp
  · split <;> simp

@[simp] theorem actPoint_marks (s : State) (p : Nat) (a : AlarmAct) (ev : EvalIn) :
    quadMarks (actPoint s p a ev).quads = quadMarks s.quads := by
  simp [actPoint]

@[simp] theorem ite_marks (c : Prop) [Decidable c] (u v : Vector Quad 4) :
    quadMarks (if c then u else v) = if c then quadMarks u else quadMarks v := apply_ite ..

@[simp] theorem execPointEvaluation_marks (p : BitVec 16) (ev : EvalIn) (s : State) :
    quadMarks (after (execPointEvaluation p ev s) s).quads = quadMarks s.quads := by
  simp [execPointEvaluation]

@[simp] theorem execDelayExpiry_marks (p : BitVec 16) (cond : Fin 7) (ev : EvalIn) (s : State) :
    quadMarks (after (execDelayExpiry p cond ev s) s).quads = quadMarks s.quads := by
  unfold execDelayExpiry
  split <;> simp

@[simp] theorem execReleaseDelayExpiry_marks (p : BitVec 16) (ev : EvalIn) (s : State) :
    quadMarks (after (execReleaseDelayExpiry p ev s) s).quads = quadMarks s.quads := by
  unfold execReleaseDelayExpiry
  split <;> simp

@[simp] theorem execSuppressHoldExpiry_marks (p : BitVec 16) (ev : EvalIn) (s : State) :
    quadMarks (after (execSuppressHoldExpiry p ev s) s).quads = quadMarks s.quads := by
  unfold execSuppressHoldExpiry
  split <;> simp

@[simp] theorem execAck_marks (r : Req) (p seq : BitVec 16) (ev : EvalIn) (s : State) :
    quadMarks (after (execAck r p seq ev s) s).quads = quadMarks s.quads := by
  simp [execAck]

@[simp] theorem execShelve_marks (r : Req) (p : BitVec 16) (minutes : BitVec 12) (ev : EvalIn) (s : State) :
    quadMarks (after (execShelve r p minutes ev s) s).quads = quadMarks s.quads := by
  simp [execShelve]

@[simp] theorem execUnshelve_marks (r : Req) (p : BitVec 16) (ev : EvalIn) (s : State) :
    quadMarks (after (execUnshelve r p ev s) s).quads = quadMarks s.quads := by
  simp [execUnshelve]

@[simp] theorem execOosOn_marks (r : Req) (p : BitVec 16) (ev : EvalIn) (s : State) :
    quadMarks (after (execOosOn r p ev s) s).quads = quadMarks s.quads := by
  simp [execOosOn]

@[simp] theorem execOosOff_marks (r : Req) (p : BitVec 16) (ev : EvalIn) (s : State) :
    quadMarks (after (execOosOff r p ev s) s).quads = quadMarks s.quads := by
  simp [execOosOff]

@[simp] theorem execAdaptRestart_marks (r : Req) (p : BitVec 16) (ev : EvalIn) (s : State) :
    quadMarks (after (execAdaptRestart r p ev s) s).quads = quadMarks s.quads := by
  simp [execAdaptRestart]

@[simp] theorem fabWrite_marks (s : State) (r : FabReq) : quadMarks (fabWrite s r).quads = quadMarks s.quads := by
  unfold fabWrite
  split
  · exact quadMarks_vmod _ _ _ fun _ => ⟨rfl, rfl⟩
  · simp
  · rfl

@[simp] theorem deliver_marks (s : State) (r : FabReq) : quadMarks (deliver s r).quads = quadMarks s.quads := by
  simp [deliver]

@[simp] theorem execFabricRequest_marks (src tgt : FabUnit) (wr : Option (List Word)) (count addr : Nat) (accept : Bool)
    (s : State) :
    quadMarks (after (execFabricRequest src tgt wr count addr accept s) s).quads = quadMarks s.quads := by
  simp [execFabricRequest]

@[simp] theorem execFabricReplyDelivery_marks (id : Nat) (s : State) :
    quadMarks (after (execFabricReplyDelivery id s) s).quads = quadMarks s.quads := by
  unfold execFabricReplyDelivery
  split <;> simp

@[simp] theorem execScrubPass_marks (mem : MemUnit) (s : State) :
    quadMarks (after (execScrubPass mem s) s).quads = quadMarks s.quads := by
  have scrubbed (q : Fin 4) : quadMarks (s.modQuad q fun x => { x with scrubbedAt := now s }).quads = quadMarks s.quads :=
    quadMarks_vmod _ _ _ fun _ => ⟨rfl, rfl⟩
  cases mem <;> simp [execScrubPass, scrubbed]

/-! The rule of R19 for one quad. -/

/-- The epoch moves on when the quad enters RESET, UPDATE or OFF, and stands through every other change (R19). -/
def EpochRule (x y : Quad) : Prop :=
  (entersGone x.st y.st → y.epoch = nextEpoch x.epoch) ∧ (¬ entersGone x.st y.st → y.epoch = x.epoch)

theorem EpochRule.of_stays {x y : Quad} (hs : y.st = x.st) (he : y.epoch = x.epoch) : EpochRule x y :=
  ⟨fun h => absurd hs h.1, fun _ => he⟩

theorem EpochRule.of_enters {x y : Quad} (h : entersGone x.st y.st) (he : y.epoch = nextEpoch x.epoch) : EpochRule x y :=
  ⟨fun _ => he, fun n => absurd h n⟩

/-- Every quad keeps the rule of R19 from one state to another. -/
structure EpochsFollow (s t : State) : Prop where
  rule : ∀ q, EpochRule (quadAt s q) (quadAt t q)

theorem EpochsFollow.of_marks {s t : State} (h : quadMarks t.quads = quadMarks s.quads) : EpochsFollow s t :=
  ⟨fun q => .of_stays (marks_at h q).1 (marks_at h q).2⟩

theorem EpochsFollow.of_quads {s t : State} (h : t.quads = s.quads) : EpochsFollow s t := .of_marks (congrArg quadMarks h)

theorem quadAt_of_quads {s t : State} (h : t.quads = s.quads) (q : Fin 4) : quadAt t q = quadAt s q := congrArg (vat · q) h

/-- One quad keeps the rule, and the others are as they were. -/
theorem EpochsFollow.modQuad {s : State} {q : Fin 4} {f : Quad → Quad} (h : EpochRule (quadAt s q) (f (quadAt s q))) :
    EpochsFollow s (s.modQuad q f) where
  rule k := by
    by_cases e : k = q
    · subst e; rwa [quadAt_modQuad]
    · rw [quadAt_modQuad_ne _ _ _ _ e]; exact .of_stays rfl rfl

/-- What leaves the quads alone may follow. -/
theorem EpochsFollow.then_quads {s t u : State} (h : EpochsFollow s t) (e : u.quads = t.quads) : EpochsFollow s u where
  rule q := quadAt_of_quads e q ▸ h.rule q

/-- What leaves the quads alone may go before. -/
theorem EpochsFollow.after_quads {s t u : State} (h : EpochsFollow t u) (e : t.quads = s.quads) : EpochsFollow s u where
  rule q := quadAt_of_quads e q ▸ h.rule q

/-- A guarded command keeps the rule where its effect does. -/
theorem EpochsFollow.of_doIf {b : Bool} {s t : State} (h : b = true → EpochsFollow s t) :
    EpochsFollow s (after (doIf b s t) s) := by
  cases b with
  | false => exact .of_quads rfl
  | true => exact h rfl

/-! Changes of quads that may follow one another in one command. -/

/-- What the parts of one command may do to a quad one after another: its state and epoch stand, or it moves among SLEEP, RUN and
DRAIN with its epoch, or it leaves OFF or FAILED for RESET with the next one (R19, R25). -/
def Quad.Eases (x y : Quad) : Prop :=
  (y.epoch = x.epoch ∧ (y.st = x.st ∨ (x.st.counts = true ∧ y.st.counts = true))) ∨
  ((x.st = .off ∨ x.st = .failed) ∧ y.st = .reset ∧ y.epoch = nextEpoch x.epoch)

/-- Nothing of this chain takes a quad on from RESET, so that at most one of its links changes the epoch. -/
theorem Quad.Eases.trans {x y z : Quad} (h : x.Eases y) (k : y.Eases z) : x.Eases z := by
  obtain ⟨he, hs⟩ | ⟨hx, hy, he⟩ := h <;> obtain ⟨ke, ks⟩ | ⟨ky, kz, ke⟩ := k
  · refine .inl ⟨ke.trans he, ?_⟩
    obtain hs | ⟨hx, hy⟩ := hs <;> obtain ks | ⟨ky, kz⟩ := ks <;> simp_all
  · obtain hs | ⟨hx, hy⟩ := hs
    · exact .inr ⟨hs ▸ ky, kz, he ▸ ke⟩
    · obtain ky | ky := ky <;> simp [ky, QuadState.counts] at hy
  · obtain ks | ⟨ky, kz⟩ := ks
    · exact .inr ⟨hx, ks.trans hy, ke.trans he⟩
    · simp [hy, QuadState.counts] at ky
  · obtain ky | ky := ky <;> simp [ky] at hy

theorem Quad.Eases.epochRule {x y : Quad} (h : x.Eases y) : EpochRule x y := by
  obtain ⟨he, hs | ⟨-, hy⟩⟩ | ⟨hx, hy, he⟩ := h
  · exact .of_stays hs he
  · refine ⟨fun g => ?_, fun _ => he⟩
    obtain ⟨-, g | g | g⟩ := g <;> simp [g, QuadState.counts] at hy
  · refine .of_enters ⟨?_, .inl hy⟩ he
    obtain hx | hx := hx <;> simp [hx, hy]

theorem Quad.Eases.of_counts {x y : Quad} (hx : x.st.counts = true) (hy : y.st.counts = true) (he : y.epoch = x.epoch) :
    x.Eases y :=
  .inl ⟨he, .inr ⟨hx, hy⟩⟩

theorem Quad.Eases.toReset {x : Quad} (h : x.st = .off ∨ x.st = .failed) : x.Eases x.toReset := .inr ⟨h, rfl, rfl⟩

theorem counts_of_inService {x : QuadState} (h : x.inService = true) : x.counts = true := by
  cases x <;> simp [QuadState.inService, QuadState.counts] at h ⊢

/-- Every quad does. -/
structure QuadsEase (s t : State) : Prop where
  eases : ∀ q, (quadAt s q).Eases (quadAt t q)

theorem QuadsEase.epochsFollow {s t : State} (h : QuadsEase s t) : EpochsFollow s t := ⟨fun q => (h.eases q).epochRule⟩

theorem QuadsEase.of_quads {s t : State} (h : t.quads = s.quads) : QuadsEase s t where
  eases q := by rw [quadAt_of_quads h]; exact .inl ⟨rfl, .inl rfl⟩

theorem QuadsEase.refl (s : State) : QuadsEase s s := .of_quads rfl

theorem QuadsEase.trans {s t u : State} (h : QuadsEase s t) (k : QuadsEase t u) : QuadsEase s u :=
  ⟨fun q => (h.eases q).trans (k.eases q)⟩

theorem QuadsEase.modQuad {s : State} {q : Fin 4} {f : Quad → Quad} (h : (quadAt s q).Eases (f (quadAt s q))) :
    QuadsEase s (s.modQuad q f) where
  eases k := by
    by_cases e : k = q
    · subst e; rwa [quadAt_modQuad]
    · rw [quadAt_modQuad_ne _ _ _ _ e]; exact (QuadsEase.refl s).eases k

/-- What leaves the quads alone may follow. -/
theorem QuadsEase.then_quads {s t u : State} (h : QuadsEase s t) (e : u.quads = t.quads) : QuadsEase s u := h.trans (.of_quads e)

theorem QuadsEase.foldl {α : Type} {g : State → α → State} (h : ∀ s a, QuadsEase s (g s a)) :
    ∀ (l : List α) (s : State), QuadsEase s (l.foldl g s)
  | [], s => .refl s
  | a :: l, s => (h s a).trans (QuadsEase.foldl h l (g s a))

theorem QuadsEase.of_doIf {b : Bool} {s t : State} (h : b = true → QuadsEase s t) : QuadsEase s (after (doIf b s t) s) := by
  cases b with
  | false => exact .refl s
  | true => exact h rfl

/-! Drains, rounds and updates (R385 to R398). -/

theorem startDrain_eases {s : State} {q : Fin 4} (d : DrainTo) (hold : Bool) (h : (quadAt s q).st.inService = true) :
    QuadsEase s (startDrain s q d hold) :=
  (QuadsEase.modQuad (.of_counts (counts_of_inService h) rfl rfl)).then_quads (roundSoon_quads _)

theorem mayDrain_inService {s : State} {q : Fin 4} (h : mayDrain s q = true) : (quadAt s q).st.inService = true := by
  simp only [mayDrain, Bool.and_eq_true] at h
  exact h.1.1

theorem chargeQuad_eases (s : State) (q : Fin 4) : QuadsEase s (chargeQuad s q) := by
  unfold chargeQuad
  dsimp only
  split
  · next h => exact (QuadsEase.of_quads (by simp)).trans (startDrain_eases _ _ h.2)
  · exact .of_quads (by simp)

theorem runRound_eases (s : State) (late differ bad : BitVec 4) : QuadsEase s (runRound s late differ bad) := by
  unfold runRound
  refine (QuadsEase.of_quads ?_).trans (.foldl chargeQuad_eases _ _)
  simp

theorem drainOff_eases (s : State) (q : Fin 4) : QuadsEase s (drainOff s q) := by
  unfold drainOff
  split
  · next h => exact startDrain_eases _ _ (mayDrain_inService h)
  · exact .refl s

theorem resumeQuad_eases (s : State) (q : Fin 4) : QuadsEase s (resumeQuad s q) := by
  unfold resumeQuad
  split
  · next h =>
    have counts : (quadAt s q).st.counts = true := by rw [eq_of_beq h]; rfl
    exact (QuadsEase.modQuad (.of_counts counts rfl rfl)).then_quads (roundSoon_quads _)
  · exact .refl s

theorem retryQuad_eases (s : State) (q : Fin 4) : QuadsEase s (retryQuad s q) := by
  unfold retryQuad
  split
  · next h => exact .modQuad (.toReset (by simpa [or_comm] using h))
  · exact .refl s

theorem fwNext_eases (s : State) : QuadsEase s (fwNext s) := by
  unfold fwNext
  dsimp only
  split
  · split <;> exact .of_quads (by simp)
  · split
    · next q _ h =>
      have serves := mayDrain_inService h
      refine QuadsEase.then_quads ?_ (sendProgress_quads _)
      exact (QuadsEase.of_quads (by simp)).trans (startDrain_eases _ _ serves)
    · exact .of_quads (by simp)

theorem fwApply_eases (s : State) : QuadsEase s (fwApply s) := by
  unfold fwApply
  split
  · exact (QuadsEase.of_quads (by simp)).trans (fwNext_eases _)
  · exact .refl s

theorem execPlacementRound_eases (late differ badPair : BitVec 4) (s : State) :
    QuadsEase s (after (execPlacementRound late differ badPair s) s) := .of_doIf fun _ => runRound_eases ..

theorem execDrainOff_eases (r : Req) (q : Fin 4) (s : State) : QuadsEase s (after (execDrainOff r q s) s) :=
  .of_doIf fun _ => drainOff_eases s q

theorem execResume_eases (r : Req) (q : Fin 4) (s : State) : QuadsEase s (after (execResume r q s) s) :=
  .of_doIf fun _ => resumeQuad_eases s q

theorem execQuadRetry_eases (r : Req) (q : Fin 4) (s : State) : QuadsEase s (after (execQuadRetry r q s) s) :=
  .of_doIf fun _ => retryQuad_eases s q

theorem execFwApply_eases (r : Req) (s : State) : QuadsEase s (after (execFwApply r s) s) := .of_doIf fun _ => fwApply_eases s

theorem execFwQuadStepComplete_eases (s : State) : QuadsEase s (after (execFwQuadStepComplete s) s) :=
  .of_doIf fun _ => fwNext_eases s

theorem execQuadPowerOn_eases (q : Fin 4) (s : State) : QuadsEase s (after (execQuadPowerOn q s) s) :=
  .of_doIf fun h => .modQuad (.toReset (.inl (by simp_all)))

theorem execQuadRetryInterval_eases (q : Fin 4) (s : State) : QuadsEase s (after (execQuadRetryInterval q s) s) := by
  refine .of_doIf fun h => .modQuad (.toReset ?_)
  simp only [Bool.and_eq_true, Bool.or_eq_true, beq_iff_eq] at h
  obtain ⟨⟨-, hf | ⟨⟨ho, -⟩, -⟩⟩, -⟩ := h
  · exact .inr hf
  · exact .inl ho

theorem execQuadWake_eases (q : Fin 4) (s : State) : QuadsEase s (after (execQuadWake q s) s) := by
  refine .of_doIf fun h => ?_
  simp only [Bool.and_eq_true, Bool.or_eq_true, beq_iff_eq] at h
  have counts : (quadAt s q).st.counts = true := by obtain ⟨-, h | h⟩ := h <;> rw [h] <;> rfl
  refine QuadsEase.then_quads ?_ (clearWake_quads _ _)
  exact ⟨(QuadsEase.modQuad (.of_counts counts rfl rfl)).eases⟩

theorem execQuadIdleSleep_eases (q : Fin 4) (tick : Nat) (s : State) : QuadsEase s (after (execQuadIdleSleep q tick s) s) := by
  refine .of_doIf fun h => ?_
  simp only [Bool.and_eq_true, beq_iff_eq] at h
  obtain ⟨⟨⟨⟨⟨-, runs⟩, -⟩, -⟩, -⟩, -⟩ := h
  have counts : (quadAt s q).st.counts = true := by rw [runs]; rfl
  exact QuadsEase.then_quads (t := s.modQuad q fun x => { x with st := .sleep, pllLock := false })
    (.modQuad (.of_counts counts rfl rfl)) (by simp)

/-! Writes to the object space: RETRY, DRAIN_OFF, RESUME and APPLY one after another (R422 to R425, R451). -/

theorem writeQuads_eases (s : State) (r : Req) (a : Nat) (w : Word) : QuadsEase s (writeQuads s r a w) := by
  unfold writeQuads
  split
  · split
    · split
      · exact .of_quads (by simp)
      · exact .refl s
    · exact .refl s
  · split
    · exact .refl s
    · split
      · split
        · split
          · exact execDrainOff_eases ..
          · exact execResume_eases ..
          · exact execQuadRetry_eases ..
          · exact .refl s
        · exact .refl s
      · exact .refl s

theorem writePlacement_eases (s : State) (r : Req) (a : Nat) (w : Word) (ws : List Word) :
    QuadsEase s (writePlacement s r a w ws).1 := by
  unfold writePlacement
  split
  · split <;> exact .of_quads (by simp)
  · split
    · split
      · exact .of_quads (by simp)
      · exact .of_quads (by simp)
      · exact .of_quads (by simp)
      · exact execFwApply_eases ..
      · exact .refl s
    · split <;> exact .of_quads (by simp)

theorem writeObj_eases (s : State) (r : Req) (addr : Word) (ws : List Word) : QuadsEase s (writeObj s r addr ws).1 := by
  unfold writeObj
  dsimp only
  split
  case h_2 => exact writeQuads_eases ..
  case h_12 => exact writePlacement_eases ..
  case h_1 => exact .of_quads (by split <;> simp)
  all_goals exact .of_quads (by simp)

theorem writeFrom_eases (r : Req) : ∀ (ws : List Word) (a : Word) (skip : Nat) (s : State), QuadsEase s (writeFrom r ws a skip s)
  | [], _, _, s => .refl s
  | w :: t, a, 0, s => (writeObj_eases s r a (w :: t)).trans (writeFrom_eases r t ..)
  | _ :: t, a, k + 1, s => writeFrom_eases r t (a + 1) k s

theorem execRegisterWrite_eases (r : Req) (addr : Word) (ws : List Word) (s : State) :
    QuadsEase s (after (execRegisterWrite r addr ws s) s) := by
  unfold execRegisterWrite
  dsimp only
  rw [after_doIf]
  refine (QuadsEase.of_quads (noteOwner_quads s r)).trans ?_
  split
  · exact writeFrom_eases ..
  · exact .refl _

theorem execBerebWrite_eases (q : Rq) (addr : Word) (ws : List Word) (s : State) :
    QuadsEase s (after (execBerebWrite q addr ws s) s) := by
  refine .of_doIf fun _ => ?_
  split
  · obtain h | h := serve_quads_cases s q 0x02 addr (BitVec.ofNat 16 ws.length)
      fun s => (writeObjs s (rqReq q) addr ws, some (0, []))
    · exact .of_quads h
    · exact (QuadsEase.of_quads (noteRequester_quads ..)).trans ((writeFrom_eases ..).trans (.of_quads h))
  · exact .of_quads (by simp)

theorem takeRequest_eases (s : State) (m : Msg) : QuadsEase s (takeRequest s m) := by
  unfold takeRequest
  dsimp only
  split
  case h_2 => exact execBerebWrite_eases ..
  all_goals exact .of_quads (by simp)

theorem takeChecked_eases (s : State) (m : Msg) : QuadsEase s (takeChecked s m) := by
  unfold takeChecked
  split
  · split
    · split
      · exact (QuadsEase.of_quads (by split <;> simp)).trans (takeRequest_eases ..)
      · exact takeRequest_eases ..
    · exact takeRequest_eases ..
  · split <;> exact .of_quads (by simp)

theorem execBerebReceive_eases (mac : BitVec 48) (ws : List Word) (s : State) :
    QuadsEase s (after (execBerebReceive mac ws s) s) := by
  refine .of_doIf fun _ => ?_
  unfold receiveMsg
  dsimp only
  split
  · exact .of_quads (by simp)
  · exact (QuadsEase.of_quads (by simp)).trans (takeChecked_eases ..)

/-! Quads that leave service, and those that leave RESET (R23, R25, R71). -/

theorem EpochRule.toReset {x : Quad} (h : x.st ≠ .reset) : EpochRule x x.toReset := .of_enters ⟨h.symm, .inl rfl⟩ rfl

theorem EpochRule.toReset_of_counts {x : Quad} (h : x.st.counts = true) : EpochRule x x.toReset :=
  .toReset fun e => by simp [e, QuadState.counts] at h

/-- Quads taken to RESET one after another, no quad twice: those of the list and no others. -/
theorem quadAt_foldl_toReset (q : Fin 4) : ∀ (l : List (Fin 4)) (s : State), l.Nodup →
    quadAt (l.foldl (fun s q => sysRaise (quadLeft (s.modQuad q Quad.toReset) q) 0x09) s) q =
      if q ∈ l then (quadAt s q).toReset else quadAt s q
  | [], _, _ => rfl
  | k :: l, s, hl => by
    obtain ⟨hk, hl⟩ := List.nodup_cons.mp hl
    have step : quadAt (sysRaise (quadLeft (s.modQuad k Quad.toReset) k) 0x09) q = quadAt (s.modQuad k Quad.toReset) q :=
      quadAt_of_quads (by simp) q
    rw [List.foldl_cons, quadAt_foldl_toReset q l _ hl, step]
    by_cases e : q = k
    · subst e; simp [hk]
    · simp [e, quadAt_modQuad_ne _ _ _ _ e]

theorem faultQuads_epochs (s : State) {l : List (Fin 4)} (hl : l.Nodup) : EpochsFollow s (faultQuads s l) := by
  unfold faultQuads
  dsimp only
  split
  · exact .of_quads rfl
  · refine EpochsFollow.then_quads ⟨fun q => ?_⟩ (captureDump_frame _ _).2.2.2.2.2.2.1
    rw [quadAt_foldl_toReset q _ s (hl.filter _)]
    split
    · next h => exact .toReset_of_counts (List.mem_filter.mp h).2
    · exact .of_stays rfl rfl

theorem faultQuad_epochs (s : State) (q : Fin 4) : EpochsFollow s (faultQuad s q) := faultQuads_epochs s (List.pairwise_singleton _ q)

theorem execQuadFaultReset_epochs (q : Fin 4) (s : State) : EpochsFollow s (after (execQuadFaultReset q s) s) :=
  .of_doIf fun _ => faultQuad_epochs s q

theorem execQuadReplyTimeout_epochs (id : Nat) (s : State) : EpochsFollow s (after (execQuadReplyTimeout id s) s) := by
  unfold execQuadReplyTimeout
  split
  · split
    · exact .of_doIf fun _ => faultQuad_epochs ..
    · exact .of_quads rfl
  · exact .of_quads rfl

theorem execMemoryEccError_epochs (mem : MemUnit) (addr : Nat) (correctable : Bool) (s : State) :
    EpochsFollow s (after (execMemoryEccError mem addr correctable s) s) := by
  refine .of_doIf fun _ => ?_
  split
  case h_3 | h_4 | h_6 => exact faultQuad_epochs ..
  all_goals exact .of_quads (by simp)

theorem nodup_eraseDups {α : Type} [DecidableEq α] : ∀ l : List α, l.eraseDups.Nodup
  | [] => by simp
  | a :: l => by
    rw [List.eraseDups_cons, List.nodup_cons]
    exact ⟨by simp [List.mem_eraseDups], nodup_eraseDups _⟩
termination_by l => l.length
decreasing_by
  have := List.length_filter_le (fun b => !b == a) l
  simp only [List.length_cons]
  omega

/-- A beat between a quad and itself names the quad once. -/
theorem execFabricParityError_epochs (src tgt : FabUnit) (addr : Nat) (s : State) :
    EpochsFollow s (after (execFabricParityError src tgt addr s) s) := by
  refine .of_doIf fun _ => ?_
  split
  · exact .of_quads (by simp)
  · split
    · exact (faultQuads_epochs _ (nodup_eraseDups _)).after_quads (by simp)
    · exact .of_quads (by simp)

theorem execQuadIsolate_epochs (q : Fin 4) (s : State) : EpochsFollow s (after (execQuadIsolate q s) s) := by
  refine .of_doIf fun h => ?_
  have powered : (quadAt s q).st ≠ .off := by simp_all
  have isolated : EpochsFollow s (s.modQuad q fun x => { x.toOff (now s) with isolated := true }) :=
    .modQuad (.of_enters ⟨powered.symm, .inr (.inl rfl)⟩ rfl)
  split
  · exact isolated.then_quads (quadLeft_quads _ _)
  · exact isolated.then_quads (fabricGone_quads _ _)

theorem execDrainComplete_epochs (q : Fin 4) (s : State) : EpochsFollow s (after (execDrainComplete q s) s) := by
  refine .of_doIf fun h => EpochsFollow.then_quads ?_ (quadLeft_quads _ _)
  have drained : (quadAt s q).st = .drain := by simp_all
  split
  · exact .modQuad (.of_enters ⟨by simp [drained], .inr (.inr rfl)⟩ rfl)
  · exact .modQuad (.of_enters ⟨by simp [drained, Quad.toOff], .inr (.inl rfl)⟩ rfl)

theorem execUpdateLoaded_epochs (q : Fin 4) (s : State) : EpochsFollow s (after (execUpdateLoaded q s) s) :=
  .of_doIf fun h => .modQuad (.toReset (by simp_all))

/-- A quad in RESET goes to SLEEP, stays, or goes to FAILED: none of these is RESET, UPDATE or OFF entered. -/
theorem execQuadSelfCheckComplete_epochs (q : Fin 4) (pass : Bool) (s : State) :
    EpochsFollow s (after (execQuadSelfCheckComplete q pass s) s) := by
  refine .of_doIf fun _ => ?_
  split
  · refine EpochsFollow.then_quads (t := s.modQuad q fun x => { x with st := .sleep, tries := 0, fwSeq := (quadFirmware s q).1 })
      (.modQuad ⟨?_, fun _ => rfl⟩) (by simp)
    rintro ⟨-, e | e | e⟩ <;> cases e
  · split
    · exact .modQuad (.of_stays rfl rfl)
    · refine EpochsFollow.then_quads (t := s.modQuad q fun x => { x with st := .failed, tries := 0, faultAt := now s })
        (.modQuad ⟨?_, fun _ => rfl⟩) (by simp)
      rintro ⟨-, e | e | e⟩ <;> cases e

/-! Every command. -/

/-- A command whose footprint does not name the quads leaves them as they were. -/
theorem exec_quads (c : Instr) (s : State) (h : Part.quads ∉ footprint c) : (after (exec c s) s).quads = s.quads := by
  cases c <;> simp [exec, footprint, effects] at h ⊢

/-- R19 holds of every command but the assertion of the logic reset: those that name no quad, those that change a quad's tasks,
memory or scrub time, those whose parts may follow one another, and those that take quads out of service or out of RESET. -/
theorem exec_epochs (c : Instr) (s : State) (hc : ∀ cause cut, c ≠ .logicResetAssert cause cut) :
    EpochsFollow s (after (exec c s) s) := by
  by_cases hq : Part.quads ∈ footprint c
  case neg => exact .of_quads (exec_quads c s hq)
  cases c with
  | logicResetAssert cause cut => exact absurd rfl (hc cause cut)
  | pointEvaluation p ev => exact .of_marks (execPointEvaluation_marks p ev s)
  | delayExpiry p cond ev => exact .of_marks (execDelayExpiry_marks p cond ev s)
  | releaseDelayExpiry p ev => exact .of_marks (execReleaseDelayExpiry_marks p ev s)
  | suppressHoldExpiry p ev => exact .of_marks (execSuppressHoldExpiry_marks p ev s)
  | ack r p seq ev => exact .of_marks (execAck_marks r p seq ev s)
  | shelve r p minutes ev => exact .of_marks (execShelve_marks r p minutes ev s)
  | unshelve r p ev => exact .of_marks (execUnshelve_marks r p ev s)
  | oosOn r p ev => exact .of_marks (execOosOn_marks r p ev s)
  | oosOff r p ev => exact .of_marks (execOosOff_marks r p ev s)
  | adaptRestart r p ev => exact .of_marks (execAdaptRestart_marks r p ev s)
  | fabricRequest src tgt wr count addr accept => exact .of_marks (execFabricRequest_marks src tgt wr count addr accept s)
  | fabricReplyDelivery id => exact .of_marks (execFabricReplyDelivery_marks id s)
  | scrubPass mem => exact .of_marks (execScrubPass_marks mem s)
  | quadPowerOn q => exact (execQuadPowerOn_eases q s).epochsFollow
  | quadWake q => exact (execQuadWake_eases q s).epochsFollow
  | quadIdleSleep q tick => exact (execQuadIdleSleep_eases q tick s).epochsFollow
  | quadRetryInterval q => exact (execQuadRetryInterval_eases q s).epochsFollow
  | quadRetry r q => exact (execQuadRetry_eases r q s).epochsFollow
  | placementRound late differ bad => exact (execPlacementRound_eases late differ bad s).epochsFollow
  | drainOff r q => exact (execDrainOff_eases r q s).epochsFollow
  | resume r q => exact (execResume_eases r q s).epochsFollow
  | fwApply r => exact (execFwApply_eases r s).epochsFollow
  | fwQuadStepComplete => exact (execFwQuadStepComplete_eases s).epochsFollow
  | registerWrite r addr ws => exact (execRegisterWrite_eases r addr ws s).epochsFollow
  | berebWrite q addr ws => exact (execBerebWrite_eases q addr ws s).epochsFollow
  | berebReceive mac ws => exact (execBerebReceive_eases mac ws s).epochsFollow
  | quadFaultReset q => exact execQuadFaultReset_epochs q s
  | quadReplyTimeout id => exact execQuadReplyTimeout_epochs id s
  | quadIsolate q => exact execQuadIsolate_epochs q s
  | quadSelfCheckComplete q pass => exact execQuadSelfCheckComplete_epochs q pass s
  | drainComplete q => exact execDrainComplete_epochs q s
  | updateLoaded q => exact execUpdateLoaded_epochs q s
  | fabricParityError src tgt addr => exact execFabricParityError_epochs src tgt addr s
  | memoryEccError mem addr correctable => exact execMemoryEccError_epochs mem addr correctable s
  | _ => exact absurd hq (by simp [footprint, effects, Sys2Proof.announce])

/-- The logic reset gives every quad the epoch 1 (R19, R78). -/
theorem execLogicResetAssert_epoch {cause : BitVec 2} {cut : Option Nat} {s t : State} (hu : up s = true)
    (h : exec (.logicResetAssert cause cut) s = .next t) (q : Fin 4) : (quadAt t q).epoch = 1 := by
  have e : t = resetLogic s cause cut := by
    simpa [exec, execLogicResetAssert, doIf, hu] using h.symm
  subst e
  simp [quadAt, resetLogic, vat]

end Sys2Proof.Machine

namespace Sys2Proof
open Sys2Proof.Machine

/-- Settles O54: by the kinds of command (R19). -/
theorem quadEpochs : Obligations.QuadEpochs := by
  unfold Obligations.QuadEpochs
  refine ⟨fun q => by simp [quadAt, State.reset, vat], fun cause cut s t q hu h => execLogicResetAssert_epoch hu h q,
    fun c s t q hc h => ?_⟩
  have follows := exec_epochs c s hc
  rw [h] at follows
  exact follows.rule q

end Sys2Proof
end

section
/-! SUPPORT. What keeps R334 true of FLTn: one lemma per operation and per command, in the order of the model. R334 speaks of the
phase of the start, FLTn and the SYSTEM conditions alone, so an update of other parts keeps it (`frame`), and an operation keeps
it where each of its parts does; one that changes a SYSTEM condition ends in FLTn's update (`fltUpdate`). In a few of the lemmas
an operation is made a variable before the one that calls it is unfolded, as above. -/

namespace Sys2Proof.Machine
open Sys2Proof

/-- FLTn follows the node's own SYSTEM conditions once the start is complete (R334). -/
def FltFollows (s : State) : Prop :=
  startComplete s = true → s.pins.fltn = !(List.finRange 64).any fun k => sysActive s k && decide (2 ≤ sysPrio k.val)

namespace FltFollows
variable {s t : State}

/-- R334 speaks of nothing but the phase of the start, FLTn, and the SYSTEM conditions. -/
protected theorem congr (h : FltFollows s) (phase : t.sys.phase = s.sys.phase) (pin : t.pins.fltn = s.pins.fltn)
    (conds : t.alarms.sysc = s.alarms.sysc) : FltFollows t := by
  simpa only [FltFollows, startComplete, sysActive, phase, pin, conds] using h

section
variable {q c x0 x1 x2 x3 x4 x5 x6 x7 x8 x9 x10 x11 x12 x13 x14 x15 x16 x17 x18 x19 x20 x21 x22 x23 x24 x25}

/-- A record update of other parts. -/
protected theorem frame (h : FltFollows s) :
    FltFollows ⟨q, c, s.sys, s.pins, x0, x1, x2, x3, x4, x5, x6, x7, x8, x9, x10, x11, x12, x13, x14, x15, x16, s.alarms,
      x17, x18, x19, x20, x21, x22, x23, x24, x25⟩ :=
  h.congr rfl rfl rfl

/-- A record update that keeps the phase of the start. -/
protected theorem frame_sys {y : Sys} (h : FltFollows s) (phase : y.phase = s.sys.phase) :
    FltFollows ⟨q, c, y, s.pins, x0, x1, x2, x3, x4, x5, x6, x7, x8, x9, x10, x11, x12, x13, x14, x15, x16, s.alarms,
      x17, x18, x19, x20, x21, x22, x23, x24, x25⟩ :=
  h.congr phase rfl rfl

/-- A record update that keeps the SYSTEM conditions. -/
protected theorem frame_alarms {a : Alarms} (h : FltFollows s) (conds : a.sysc = s.alarms.sysc) :
    FltFollows ⟨q, c, s.sys, s.pins, x0, x1, x2, x3, x4, x5, x6, x7, x8, x9, x10, x11, x12, x13, x14, x15, x16, a,
      x17, x18, x19, x20, x21, x22, x23, x24, x25⟩ :=
  h.congr rfl rfl conds

end

/-- Before the start is complete R334 asks nothing. -/
protected theorem of_start (e : startComplete s = false) : FltFollows s := fun h => by simp [e] at h

protected theorem ite {c : Prop} [Decidable c] (h : FltFollows s) (ht : FltFollows t) : FltFollows (if c then s else t) := by
  split <;> assumption

/-- A step made only under a condition. -/
protected theorem stepIf {c : Prop} [Decidable c] (h : FltFollows s) (ht : FltFollows s → FltFollows t) :
    FltFollows (if c then t else s) := .ite (ht h) h

/-- A step left out under a condition. -/
protected theorem stepUnless {c : Prop} [Decidable c] (h : FltFollows s) (ht : FltFollows s → FltFollows t) :
    FltFollows (if c then s else t) := .ite h (ht h)

/-- One of two steps. -/
protected theorem branch {c : Prop} [Decidable c] {u : State} (h : FltFollows s) (ht : FltFollows s → FltFollows t)
    (hu : FltFollows s → FltFollows u) : FltFollows (if c then t else u) := .ite (ht h) (hu h)

protected theorem foldl {α : Type} {g : State → α → State} {l : List α} (h : FltFollows s)
    (hg : ∀ s a, FltFollows s → FltFollows (g s a)) : FltFollows (l.foldl g s) := by
  induction l generalizing s with
  | nil => exact h
  | cons a l ih => exact ih (hg s a h)

protected theorem getD {o : Option State} (ho : ∀ t ∈ o, FltFollows t) (h : FltFollows s) : FltFollows (o.getD s) := by
  cases o with
  | none => exact h
  | some t => exact ho t rfl

protected theorem dite {c : Prop} [Decidable c] {f : c → State} {g : ¬c → State} (hf : ∀ h, FltFollows (f h))
    (hg : ∀ h, FltFollows (g h)) : FltFollows (if h : c then f h else g h) := by
  split
  · exact hf _
  · exact hg _

protected theorem doIf {b : Bool} {u : State} (h : FltFollows s) (ht : FltFollows t) : FltFollows (after (doIf b s t) u) := by
  cases b <;> assumption

/-- A command that has one outcome or another. -/
protected theorem choose {c : Prop} [Decidable c] {o p : Host.Outcome State Fault Refusal} (ho : FltFollows (after o s))
    (hp : FltFollows (after p s)) : FltFollows (after (if c then o else p) s) := by
  split <;> assumption

protected theorem fltUpdate : FltFollows (fltUpdate s) := by
  intro h
  replace h : startComplete s = true := h
  simp only [fltUpdate, h, Bool.true_and]
  rfl

protected theorem sysEvent {k : Fin 64} {st : SysSt} {ev : Nat} : FltFollows (sysEvent s k st ev) := .fltUpdate

/-! Parts of the state. -/

protected theorem draw (h : FltFollows s) : FltFollows (draw s).2 := h.frame
protected theorem modQuad {q : Fin 4} {f : Quad → Quad} (h : FltFollows s) : FltFollows (s.modQuad q f) := h.frame
protected theorem modEngine {e : Fin 16} {f : Engine → Engine} (h : FltFollows s) : FltFollows (s.modEngine e f) := h.frame
protected theorem modUai {n : Fin 16} {f : Uai → Uai} (h : FltFollows s) : FltFollows (s.modUai n f) := h.frame
protected theorem modHart {c : Fin 20} {f : HartDev → HartDev} (h : FltFollows s) : FltFollows (s.modHart c f) := h.frame
protected theorem modPort {p : Fin 20} {f : Port → Port} (h : FltFollows s) : FltFollows (s.modPort p f) := h.frame
protected theorem modFelt {o : Fin 12} {f : FeltCmd → FeltCmd} (h : FltFollows s) : FltFollows (s.modFelt o f) := h.frame
protected theorem modAo {n : Fin 4} {f : Ao → Ao} (h : FltFollows s) : FltFollows (s.modAo n f) := h.frame
protected theorem modDi {n : Fin 16} {f : Di → Di} (h : FltFollows s) : FltFollows (s.modDi n f) := h.frame
protected theorem modDo {n : Fin 8} {f : Do → Do} (h : FltFollows s) : FltFollows (s.modDo n f) := h.frame
protected theorem modVib {n : Fin 16} {f : VibCh → VibCh} (h : FltFollows s) : FltFollows (s.modVib n f) := h.frame
protected theorem modPoint {p : Nat} {f : LocalPt → LocalPt} (h : FltFollows s) : FltFollows (s.modPoint p f) := h.frame
protected theorem modRingPort {p : Fin 3} {f : RingPort → RingPort} (h : FltFollows s) : FltFollows (s.modRingPort p f) := h.frame
protected theorem modClass {c : Fin 4} {f : ClassSt → ClassSt} (h : FltFollows s) : FltFollows (s.modClass c f) := h.frame
protected theorem modCan {c : Fin 2} {f : CanCtl → CanCtl} (h : FltFollows s) : FltFollows (s.modCan c f) := h.frame
protected theorem modCursor {c : Fin 8} {f : Cursor → Cursor} (h : FltFollows s) : FltFollows (s.modCursor c f) := h.frame
protected theorem mapTasks {f : Task → Task} (h : FltFollows s) : FltFollows (s.mapTasks f) := h.frame

/-! Counting (R545 to R557). -/

protected theorem modSampler {k : Fin 16} {f : Sampler → Sampler} (h : FltFollows s) : FltFollows (s.modSampler k f) := h.frame
protected theorem takeSample {k : Fin 16} {ev m : Nat} {src : SampleSrc} (h : FltFollows s) :
    FltFollows (takeSample s k ev m src) := h.frame
protected theorem samplerWrapAt {k : Fin 16} {ev : Nat} {extra : Word} {src : SampleSrc} (h : FltFollows s) :
    FltFollows (samplerWrapAt s k ev extra src) := .stepIf (.ite h.modSampler.modSampler h.modSampler) (·.takeSample)

protected theorem samplerAdd {k : Fin 16} {ev n : Nat} (h : FltFollows s) : FltFollows (samplerAdd s k ev n) := by
  unfold samplerAdd
  dsimp only
  split
  · exact .ite h.modSampler.modSampler h.samplerWrapAt
  · exact .ite h.modSampler h.samplerWrapAt

protected theorem perfAdd {e n : Nat} (h : FltFollows s) :
    FltFollows (perfAdd s e n) := h.frame.foldl fun _ _ h => .ite h.samplerAdd h
protected theorem captureDump {cause : BitVec 8} (h : FltFollows s) : FltFollows (captureDump s cause) := h.frame

/-! Panels (R363 to R376). -/

protected theorem modPanel {k : Nat} {f : Panel → Panel} (h : FltFollows s) : FltFollows (s.modPanel k f) := h.frame
protected theorem queueFrame {c : Nat} {f : PanelFrame} (h : FltFollows s) : FltFollows (queueFrame s c f) := h.frame
protected theorem panelStep {force : Bool} {k : Nat} (h : FltFollows s) :
    FltFollows (panelStep force s k) := .ite (.ite h.modPanel.queueFrame h.modPanel) h
protected theorem panelsRefresh {force : Bool} (h : FltFollows s) :
    FltFollows (panelsRefresh force s) := h.foldl fun _ _ h => h.panelStep
protected theorem panelAlarmAt {ws : List Word} {k : Nat} (h : FltFollows s) :
    FltFollows (panelAlarmAt ws s k) := .ite (.stepIf (.ite h.queueFrame h) (·.modPanel)) h
protected theorem panelsAlarm {ws : List Word} (h : FltFollows s) :
    FltFollows (panelsAlarm s ws) := .panelsRefresh (h.foldl fun _ _ h => h.panelAlarmAt)

/-! Recording, sending, and the SYSTEM conditions (R332 to R334, R490). -/

protected theorem noteEvent {seq : Word} {r : Rec} (h : FltFollows s) : FltFollows (noteEvent s seq r) := .ite h.frame h
protected theorem pushRec {r : Rec} (h : FltFollows s) : FltFollows (pushRec s r) := .ite h.noteEvent.frame h.frame

protected theorem stage0 {r : Rec} (h : FltFollows s) : FltFollows (stage0 s r) := by
  unfold stage0
  dsimp only
  refine .ite h.pushRec ?_
  refine .ite h.frame ?_
  refine .ite h.pushRec ?_
  split
  · exact h.frame.pushRec
  · exact h.pushRec

protected theorem pushMsg {m : Msg} (h : FltFollows s) : FltFollows (pushMsg s m) := h.modClass
protected theorem enqueue {m : Msg} (h : FltFollows s) :
    FltFollows (enqueue s m) := .ite (.ite h.frame h.pushMsg) (.ite h.pushMsg h)
protected theorem bcast {cls : BitVec 2} {type : BitVec 6} {payload : List Word} (h : FltFollows s) :
    FltFollows (bcast s cls type payload) := h.enqueue

protected theorem sendTo {mac : BitVec 48} {dest : BitVec 8} {cls : BitVec 2} {type : BitVec 6} {payload : List Word} (h :
    FltFollows s) : FltFollows (sendTo s mac dest cls type payload) :=
  h.enqueue

protected theorem modGroup {g : Nat} {f : GroupSt → GroupSt} (h : FltFollows s) :
    FltFollows (s.modGroup g f) := h.frame_alarms rfl
protected theorem refreshGroup {g : Nat} (h : FltFollows s) : FltFollows (refreshGroup s g) := .ite h.modGroup h
protected theorem noteFirstOut {ws : List Word} (h : FltFollows s) : FltFollows (noteFirstOut s ws) := .ite h.modGroup h
protected theorem noteJoin {ws : List Word} (h : FltFollows s) : FltFollows (noteJoin s ws) := .ite h.frame h
protected theorem alarmEffects {ws : List Word} (h : FltFollows s) :
    FltFollows (alarmEffects s ws) := h.noteFirstOut.noteJoin.panelsAlarm.refreshGroup
protected theorem alarmOut {ws : List Word} (h : FltFollows s) : FltFollows (alarmOut s ws) := h.bcast.stage0.alarmEffects

protected theorem modSys_lastEvent {k : Fin 64} {ms : Nat} (h : FltFollows s) :
    FltFollows (s.modSys k fun c => { c with lastEvent := ms }) := by
  have active : sysActive (s.modSys k fun c => { c with lastEvent := ms }) = sysActive s := by
    funext j
    by_cases e : j = k
    · subst e; simp [sysActive, State.modSys]
    · simp [sysActive, State.modSys, vat_vmod_ne _ _ e]
  intro start
  simp only [active]
  exact h start

protected theorem sysRaise0 {k : Fin 64} (h : FltFollows s) : FltFollows (sysRaise0 s k) := by
  unfold sysRaise0
  dsimp only
  split
  · exact .sysEvent
  · exact .sysEvent
  · exact h.modSys_lastEvent

protected theorem followUps {s0 : State} (h : FltFollows s) :
    FltFollows (followUps s0 s) := .stepIf (.ite h.sysRaise0 h) (·.sysRaise0)
protected theorem sysRaise {k : Fin 64} (h : FltFollows s) : FltFollows (sysRaise s k) := h.sysRaise0.followUps

protected theorem sysClear {k : Fin 64} (h : FltFollows s) : FltFollows (sysClear s k) := by
  unfold sysClear
  split
  · exact FltFollows.sysEvent.followUps
  · exact FltFollows.sysEvent.followUps
  · exact h

protected theorem sysSet {k : Fin 64} {on : Bool} (h : FltFollows s) :
    FltFollows (sysSet s k on) := .ite (.ite h h.sysRaise) h.sysClear
protected theorem linenCheck {r : Rec} (h : FltFollows s) : FltFollows (linenCheck s r) := .ite h h.perfAdd.stage0.sysRaise
protected theorem stage {r : Rec} (h : FltFollows s) : FltFollows (stage s r) := h.stage0.linenCheck.followUps
protected theorem sendAlarm {ws : List Word} (h : FltFollows s) : FltFollows (sendAlarm s ws) := h.alarmOut.linenCheck.followUps
protected theorem pairFail {c : Nat} {subject : Word} {ps : List Pair} (h : FltFollows s) :
    FltFollows (pairFail s c subject ps) := h.perfAdd.stage0.sysRaise

/-! Alarm actions (R325, R326, R333). -/

protected theorem queueAct {p : Nat} {a : AlarmAct} (h : FltFollows s) : FltFollows (queueAct s p a) := h.modPoint

protected theorem ackSys {k : Fin 64} {seq : BitVec 16} (h : FltFollows s) : FltFollows (ackSys s k seq) := by
  unfold ackSys
  dsimp only
  refine .ite ?_ h
  split
  · exact FltFollows.sysEvent.followUps
  · exact FltFollows.sysEvent.followUps
  · exact h

protected theorem writeTo {n : Nat} {addr : Word} {ws : List Word} (h : FltFollows s) : FltFollows (writeTo s n addr ws) := by
  unfold writeTo
  dsimp only
  split
  · exact h
  · exact h.frame.enqueue

protected theorem forwardAck {subject : Word} {seq : BitVec 16} (h : FltFollows s) : FltFollows (forwardAck s subject seq) := by
  unfold forwardAck
  dsimp only
  split
  · exact .ite h.queueAct h.writeTo
  · exact .ite h.ackSys h.writeTo
  · exact h

/-! Functions that become READY (R83 to R90). -/

protected theorem modFn {k : Nat} {f : FnState → FnState} (h : FltFollows s) : FltFollows (s.modFn k f) := h.frame_sys rfl
protected theorem sendFn {k st : Nat} (h : FltFollows s) : FltFollows (sendFn s k st) := h.bcast.stage
protected theorem announce {k : Nat} (h : FltFollows s) : FltFollows (announce s k) := .ite h.sendFn.modFn h
protected theorem announceAll (h : FltFollows s) : FltFollows (announceAll s) := h.foldl fun _ _ h => h.announce
protected theorem setReady {fn idx : Nat} (h : FltFollows s) :
    FltFollows (setReady s fn idx) := .ite h.modFn.announceAll h.modFn.announce
protected theorem setLost {fn idx : Nat} (h : FltFollows s) :
    FltFollows (setLost s fn idx) := .ite (.ite h.modFn.sendFn h.modFn) h

/-! The alarm engine (R312 to R349). -/

protected theorem oweObservations {r o : Nat} {wall : Option (BitVec 64)} (h : FltFollows s) :
    FltFollows (oweObservations r o wall s) := h.frame
protected theorem noteTrigger {p : Nat} (h : FltFollows s) : FltFollows (noteTrigger s p) := h.frame

protected theorem emitAlarm {p : Nat} {t : Stamp} {kept : Bool} {e : AEv} (h : FltFollows s) :
    FltFollows (emitAlarm p t kept s e) := by
  unfold emitAlarm
  dsimp only
  split
  · exact .modPoint (.ite h.noteTrigger h)
  · exact .branch (.stepIf (.modPoint (.ite h.noteTrigger h)) (·.modGroup)) (fun h => h.frame_alarms rfl) (·.sendAlarm)

protected theorem emitAlarms {p : Nat} {t : Stamp} {kept : Bool} {es : List AEv} (h : FltFollows s) :
    FltFollows (emitAlarms p t kept es s) := by
  unfold emitAlarms
  dsimp only
  split
  · exact h
  · exact .modPoint (h.foldl fun _ _ h => h.emitAlarm)

protected theorem alarmEval {p : Nat} {e : EvalRes} {first fail : Bool} (h : FltFollows s) :
    FltFollows (alarmEval s p e first fail) := by
  unfold alarmEval
  dsimp only
  split
  · exact h
  · exact .ite h.modPoint.emitAlarms (.refreshGroup (.emitAlarms (.modGroup (.frame
    (.ite h.modPoint.oweObservations h.modPoint)))))

protected theorem publishAlarm {p : Nat} {r : AlarmSt × List AEv} (h : FltFollows s) : FltFollows (publishAlarm s p r) := by
  unfold publishAlarm
  dsimp only
  split
  · exact h.modPoint
  · exact h.modPoint.modPoint.emitAlarms.refreshGroup

protected theorem execShelveExpiry {p : BitVec 16} (h : FltFollows s) : FltFollows (after (execShelveExpiry p s) s) := by
  unfold execShelveExpiry
  split
  · exact h
  · exact h.doIf h.publishAlarm

protected theorem engineCount {p v : Nat} (h : FltFollows s) : FltFollows (engineCount s p v) := by
  unfold engineCount
  split
  · exact h.perfAdd
  · exact h

protected theorem pathsDisagree {p : Nat} {ps : List Pair} (h : FltFollows s) :
    FltFollows (pathsDisagree s p ps) := .sysRaise (.stage0 (.engineCount (.mapTasks (h.frame_alarms rfl))))

protected theorem execAdaptEstimate {p : BitVec 16} {bUpset : Word} (h : FltFollows s) :
    FltFollows (after (execAdaptEstimate p bUpset s) s) := by
  unfold execAdaptEstimate
  dsimp only
  split
  · exact h
  · exact h.doIf (.ite h.pathsDisagree h.modPoint)

protected theorem execSysAck {r : Req} {code : BitVec 8} {seq : BitVec 16} (h : FltFollows s) :
    FltFollows (after (execSysAck r code seq s) s) := by
  unfold execSysAck
  split
  · exact h.doIf h.ackSys
  · exact h

protected theorem ackAllOf {g : Nat} (h : FltFollows s) : FltFollows (ackAllOf s g) := h.foldl fun _ _ h => h.queueAct
protected theorem execAckAll {r : Req} {g : BitVec 8} (h : FltFollows s) :
    FltFollows (after (execAckAll r g s) s) := h.doIf h.ackAllOf
protected theorem clearDamask {g : Nat} (h : FltFollows s) : FltFollows (clearDamask s g) := h.frame
protected theorem execDamaskClear {r : Req} {g : BitVec 8} (h : FltFollows s) :
    FltFollows (after (execDamaskClear r g s) s) := h.doIf h.clearDamask
protected theorem clearTimed {k : Fin 64} (h : FltFollows s) : FltFollows (clearTimed s k) := .sysClear (.ite h.frame h)

protected theorem execDamaskObservation {p root : BitVec 16} (h : FltFollows s) :
    FltFollows (after (execDamaskObservation p root s) s) := by
  unfold execDamaskObservation
  dsimp only
  split
  · exact h.doIf h.modPoint
  · exact h

protected theorem checkpointDamask (h : FltFollows s) :
    FltFollows (checkpointDamask s) := .frame_alarms (h.foldl fun _ _ h => h.stage) rfl

/-! Calling the engineer and panels (R351 to R378). -/

protected theorem modCall {f : Call → Call} (h : FltFollows s) : FltFollows (s.modCall f) := h.frame
protected theorem applyReq {q : CallReq} (h : FltFollows s) : FltFollows (applyReq s q) := h.modCall
protected theorem applyWaiting (h : FltFollows s) : FltFollows (applyWaiting s) := h.modCall.foldl fun _ _ h => h.applyReq
protected theorem request {src : CallFrom} {code : Nat} {q : CallReq} (h : FltFollows s) :
    FltFollows (after (request s src code q) s) := h.doIf h.applyWaiting.applyReq
protected theorem queueReq {q : CallReq} (h : FltFollows s) : FltFollows (queueReq s q) := h.modCall

protected theorem writeCallAction {r : Req} {w : Word} (h : FltFollows s) : FltFollows (writeCallAction s r w) := by
  unfold writeCallAction
  dsimp only
  split
  · exact .ite h.queueReq h
  · exact h

protected theorem stageTimer {st : CallSt} (h : FltFollows s) : FltFollows (stageTimer st s) := .ite h.modCall h
protected theorem handoverTimer (h : FltFollows s) : FltFollows (handoverTimer s) := .ite h.modCall h

protected theorem prewarnTimer (h : FltFollows s) : FltFollows (prewarnTimer s) := by
  unfold prewarnTimer
  split
  · exact .ite h.modCall h
  · exact h

protected theorem deadTimer (h : FltFollows s) : FltFollows (deadTimer s) := .ite h.modCall h
protected theorem mannedNote (h : FltFollows s) : FltFollows (mannedNote s) := h.modCall
protected theorem mannedTimer (h : FltFollows s) : FltFollows (mannedTimer s) := .ite h.modCall h
protected theorem callTimers (h : FltFollows s) : FltFollows (callTimers s) :=
  .mannedTimer (.deadTimer (.prewarnTimer (.handoverTimer (.ite h.stageTimer (.ite h.stageTimer h.stageTimer)))))
protected theorem timerStep {f : State → State} (h : FltFollows s) (hf : ∀ {s}, FltFollows s → FltFollows (f s)) :
    FltFollows (after (timerStep s f) s) := h.doIf (hf h.applyWaiting)
protected theorem sendCallState (h : FltFollows s) : FltFollows (sendCallState s) := h.modCall.modCall.bcast.panelsRefresh

protected theorem callChecks (h : FltFollows s) : FltFollows (callChecks s) := by
  unfold callChecks
  extract_lets cs c s1 s2
  clear_value cs
  have h1 : FltFollows s1 := by
    refine .ite ?_ (.ite h.modCall h)
    split
    · exact h
    · exact h.modCall
  exact .mannedNote (.ite h1.modCall h1)

protected theorem mergeCall (h : FltFollows s) : FltFollows (mergeCall s) := h.modCall
protected theorem takeCallDuty (h : FltFollows s) : FltFollows (takeCallDuty s) := .ite h h.modCall
protected theorem dropCallDuty (h : FltFollows s) : FltFollows (dropCallDuty s) := h.modCall
protected theorem takeCallState {ws : List Word} (h : FltFollows s) :
    FltFollows (takeCallState s ws) := .ite h.modCall.sysSet (.ite h h.modCall.sysClear.sysSet.panelsRefresh)
protected theorem panelConds (h : FltFollows s) : FltFollows (panelConds s) := .sysSet (.ite h h.sysClear)
protected theorem execCallStateReceive {src : Fin 64} {payload : List Word} (h : FltFollows s) :
    FltFollows (after (execCallStateReceive src payload s) s) := h.doIf (.ite h.takeCallState h.pairFail)

protected theorem execCallRequestReceive {src : Fin 64} {payload : List Word} (h : FltFollows s) :
    FltFollows (after (execCallRequestReceive src payload s) s) := by
  unfold execCallRequestReceive
  dsimp only
  refine h.doIf ?_
  refine .ite ?_ h.pairFail
  split
  · exact .ite h h.queueReq
  · exact h

protected theorem modTwins {c p : Nat} {f : Panel → Panel} (h : FltFollows s) :
    FltFollows (modTwins s c p f) := h.foldl fun _ _ h => h.modPanel
protected theorem execPanelAckFrame {c : Fin 2} {panel : Fin 64} {ws : List Word} (h : FltFollows s) :
    FltFollows (after (execPanelAckFrame c panel ws s) s) := h.doIf (.ite (.ite h h.forwardAck) h.pairFail)
protected theorem execPanelSilenceFrame {c : Fin 2} {panel : Fin 64} {ws : List Word} (h : FltFollows s) :
    FltFollows (after (execPanelSilenceFrame c panel ws s) s) := h.doIf h.modTwins.panelsRefresh

protected theorem forwardReq {c p code : Nat} {arg : BitVec 8} {id : BitVec 16} (h : FltFollows s) :
    FltFollows (forwardReq s c p code arg id) := by
  unfold forwardReq
  dsimp only
  split
  · split
    · exact h.queueReq
    · exact h
  · split
    · exact h
    · exact h.sendTo

protected theorem execPanelRequestFrame {c : Fin 2} {panel : Fin 64} {code : BitVec 8} {ws : List Word} (h : FltFollows s) :
    FltFollows (after (execPanelRequestFrame c panel code ws s) s) := h.doIf (.ite (.ite h.forwardReq h) h.pairFail)
protected theorem execPanelHeartbeat {c : Fin 2} {panel : Fin 64} {ws : List Word} (h : FltFollows s) :
    FltFollows (after (execPanelHeartbeat c panel ws s) s) := h.doIf (.panelConds (.ite h.modTwins.modPanel h.frame))
protected theorem nodeBeat {c : Nat} (h : FltFollows s) : FltFollows (nodeBeat s c) := .ite h.queueFrame h

/-! What each output carries (R211, R239, R269). -/

protected theorem refreshAo {n : Fin 4} (h : FltFollows s) : FltFollows (refreshAo s n) := .ite (.ite h.modAo h) h.modAo
protected theorem acqReach {tick : BitVec 64} (h : FltFollows s) : FltFollows (acqReach s tick) := .ite h.frame h
protected theorem refreshDo {n : Fin 8} (h : FltFollows s) : FltFollows (refreshDo s n) := h.modDo
protected theorem refreshOuts (h : FltFollows s) :
    FltFollows (refreshOuts s) := .foldl (h.foldl fun _ _ h => h.refreshAo) fun _ _ h => h.refreshDo
protected theorem refreshOut {o : Fin 12} (h : FltFollows s) :
    FltFollows (refreshOut s o) := .dite (fun _ => h.refreshAo) fun _ => h.refreshDo
protected theorem keepBefore (h : FltFollows s) :
    FltFollows (keepBefore s) := .foldl (h.foldl fun _ _ h => h.modAo) fun _ _ h => h.modDo
protected theorem dieSafenTo {low : Bool} (h : FltFollows s) : FltFollows (dieSafenTo s low) := .frame (.ite h.keepBefore h)

protected theorem wakePoint {p : Nat} (h : FltFollows s) : FltFollows (wakePoint s p) := by
  unfold wakePoint
  dsimp only
  split
  · split
    · exact h.frame
    · exact h
  · exact h

/-! The field die, its ports and Felt (R62, R63, R95 to R98, R155 to R168). -/

protected theorem energyRec {p : Fin 20} (h : FltFollows s) : FltFollows (energyRec s p) := .ite h.stage h
protected theorem lockedCond (h : FltFollows s) : FltFollows (lockedCond s) := .ite h.sysSet h
protected theorem refreshPort {p : Fin 20} (h : FltFollows s) :
    FltFollows (refreshPort s p) := .dite (fun _ => h.refreshAo) fun _ => h
protected theorem portTo {p : Fin 20} {f : Port → Port} (h : FltFollows s) :
    FltFollows (portTo s p f) := .refreshPort (.lockedCond (.ite h.modPort h.modPort.energyRec))
protected theorem startPort {p : Fin 20} (h : FltFollows s) : FltFollows (startPort s p) := .ite h.portTo h
protected theorem tripPort {p : Fin 20} {cause : TripCause} (h : FltFollows s) :
    FltFollows (tripPort s p cause) := .ite h.portTo.portTo h.portTo
protected theorem tripFlag {p : Fin 20} (h : FltFollows s) :
    FltFollows (tripFlag s p) := .dite (fun _ => .ite (h.modUai.foldl fun _ _ h => h.wakePoint) h.modUai) fun _ => h

protected theorem execDetectorTrip {port : Fin 20} {cause : TripCause} (h : FltFollows s) :
    FltFollows (after (execDetectorTrip port cause s) s) := by
  unfold execDetectorTrip
  split
  · exact h.tripPort.tripFlag
  · exact h.doIf h.portTo.tripFlag
  · exact h

protected theorem execProbeStart {port : Fin 20} (h : FltFollows s) : FltFollows (after (execProbeStart port s) s) := by
  unfold execProbeStart
  split
  · exact h.doIf h.portTo
  · exact h.doIf h.modPort
  · exact h

protected theorem probeEnd {port : Fin 20} {ua mv pf : Nat} {switchOk : Bool} (h : FltFollows s) :
    FltFollows (probeEnd s port ua mv pf switchOk) := .ite h.portTo (.ite h.portTo (.ite h.portTo h.modPort))
protected theorem lockSelfTest {port : Fin 20} (h : FltFollows s) : FltFollows (lockSelfTest s port) := h.portTo
protected theorem touchManual {o : Fin 12} (h : FltFollows s) :
    FltFollows (touchManual s o) := .dite (fun _ => h.modAo) fun _ => h.modDo
protected theorem touchPort {p : Fin 20} (h : FltFollows s) :
    FltFollows (touchPort s p) := .dite (fun _ => h.touchManual) fun _ => h
protected theorem restoreEnergy {port : Fin 20} {selfTest : Bool} (h : FltFollows s) :
    FltFollows (restoreEnergy s port selfTest) := .ite (.ite h.touchPort.portTo h.touchPort.modPort) h.touchPort.modPort
protected theorem execRestoreEnergy {r : Req} {port : Fin 20} {selfTest : Bool} (h : FltFollows s) :
    FltFollows (after (execRestoreEnergy r port selfTest s) s) := h.doIf h.restoreEnergy
protected theorem loadPort {p : Fin 20} (h : FltFollows s) : FltFollows (loadPort s p) := .startPort (.modPort (.ite h.portTo h))

protected theorem spareStart (h : FltFollows s) : FltFollows (spareStart s) := by
  unfold spareStart
  dsimp only
  refine .ite h ?_
  split
  · exact h
  · exact h.frame

protected theorem loadUai {n : Fin 16} (h : FltFollows s) : FltFollows (loadUai s n) := .ite h h.modUai.loadPort
protected theorem loadDi {n : Fin 16} (h : FltFollows s) : FltFollows (loadDi s n) := .ite h h.modDi
protected theorem loadOut {o : Fin 12} (h : FltFollows s) :
    FltFollows (loadOut s o) := .dite (fun _ => .modAo (.ite h.modFelt h.modFelt.loadPort)) fun _ => h.modFelt.modDo

protected theorem loadField (h : FltFollows s) : FltFollows (loadField s) :=
  .ite h (.spareStart (.frame (.foldl (.foldl (.foldl (.foldl (h.foldl fun _ _ h => h.loadUai) fun _ _ h => h.loadDi) fun _ _ h
    => h.modUai) fun _ _ h => h.loadOut) fun _ _ h => h.modPort)))

protected theorem takeCmd {o : Fin 12} {p : Pair} (h : FltFollows s) :
    FltFollows (takeCmd s o p) := .ite h.modFelt (.modFelt (.ite h.perfAdd h.pairFail))

protected theorem strikeSafe {o : Fin 12} {upset : Word} (h : FltFollows s) : FltFollows (strikeSafe s o upset) := by
  unfold strikeSafe
  dsimp only
  split
  · exact h
  · exact .ite h.modFelt.pairFail h.modFelt

protected theorem feltFrame {out : Fin 12} {upCmd upSafe : Word} (h : FltFollows s) :
    FltFollows (feltFrame s out upCmd upSafe) := by
  unfold feltFrame
  dsimp only
  refine FltFollows.refreshOuts ?_
  refine h.loadField.strikeSafe.dieSafenTo.foldl fun s a h => ?_
  split
  · exact h.takeCmd
  · exact h

protected theorem vfldConds (h : FltFollows s) :
    FltFollows (vfldConds s) := .ite (.stepIf (.ite h.sysSet.sysRaise h.sysSet) (·.sysRaise)) h
protected theorem suppliesOff (h : FltFollows s) :
    FltFollows (suppliesOff s) := .refreshOuts (h.frame.foldl fun _ _ h => h.portTo)
protected theorem noteDip (h : FltFollows s) : FltFollows (noteDip s) := h.frame
protected theorem vfldCross {mv : Nat} (h : FltFollows s) :
    FltFollows (vfldCross s mv) := .vfldConds (.branch (.ite h.frame.noteDip h.frame) (·.suppliesOff) (·.refreshOuts))
protected theorem resettle (h : FltFollows s) : FltFollows (resettle s) := h.frame

protected theorem vfldRestore {mv : Nat} (h : FltFollows s) : FltFollows (vfldRestore s mv) := by
  have started {t : State} (h : FltFollows t) : FltFollows ((List.finRange 20).foldl startPort (resettle t)) :=
    .foldl h.resettle fun _ _ h => h.startPort
  unfold vfldRestore
  exact .ite (started h.frame).frame.refreshOuts.sysSet.sysClear.sysClear (started h.frame).frame.refreshOuts

protected theorem fieldDieReset {f : FieldDie} (h : FltFollows s) : FltFollows (fieldDieReset s f) := h.frame
protected theorem dieConds (h : FltFollows s) : FltFollows (dieConds s) := .ite h.sysClear.sysClear.sysClear.lockedCond h
protected theorem dieStart (h : FltFollows s) : FltFollows (dieStart s) := h.fieldDieReset.dieConds.stepIf (·.sysClear.sysClear)
protected theorem hartOff (h : FltFollows s) : FltFollows (hartOff s) := h.frame
protected theorem fieldLost (h : FltFollows s) :
    FltFollows (fieldLost s) := .hartOff (.frame (h.setLost.foldl fun _ _ h => h.setLost))

/-! Process inputs and trim (R174 to R198). -/

protected theorem sampleUai {n : Fin 16} {m : Meas} (h : FltFollows s) : FltFollows (sampleUai s n m) := h.modUai
protected theorem tcTest {n : Fin 16} {ohms : Nat} (h : FltFollows s) : FltFollows (tcTest s n ohms) := h.modUai
protected theorem phaseRec {c : Fin 16} (h : FltFollows s) : FltFollows (phaseRec s c) := .ite h.stage h
protected theorem retireSpare (h : FltFollows s) : FltFollows (retireSpare s) := .ite h.frame.sysRaise h.frame
protected theorem visitNext {c : Fin 16} (h : FltFollows s) : FltFollows (visitNext s c) := h.frame.spareStart
protected theorem visitAgain (h : FltFollows s) : FltFollows (visitAgain s) := h.frame
protected theorem convFailed {c : Fin 16} (h : FltFollows s) :
    FltFollows (convFailed s c) := .ite (.visitNext (.ite h.frame.sysRaise h.frame)) h.modUai.visitNext

protected theorem visitPhase {c : Fin 16} {pass : Bool} (h : FltFollows s) : FltFollows (visitPhase s c pass) := by
  unfold visitPhase
  dsimp only
  split
  · exact .ite h.frame h.phaseRec.retireSpare
  · exact .frame (.ite h h.phaseRec)
  · exact .ite (.ite (.ite h.retireSpare h.frame.visitAgain) h.visitNext) (.ite h.phaseRec.convFailed h.phaseRec.frame.visitAgain)

protected theorem refMeasure {ppm : Word} (h : FltFollows s) : FltFollows (refMeasure s ppm) := .ite h.frame.sysSet h.frame

protected theorem execSpareVisitPhaseEnd {refs : List (Fin 3 × Int)} {diffs : List Int} {ppm : Option Word} (h : FltFollows s) :
    FltFollows (after (execSpareVisitPhaseEnd refs diffs ppm s) s) := by
  unfold execSpareVisitPhaseEnd
  dsimp only
  split
  · refine h.doIf ?_
    refine FltFollows.visitPhase ?_
    split
    · exact h.refMeasure
    · exact h
  · exact h

protected theorem refRecord (h : FltFollows s) : FltFollows (refRecord s) := h.stage.refMeasure.frame.sysSet
protected theorem spareConds (h : FltFollows s) : FltFollows (spareConds s) := .ite h.sysSet.sysSet.sysSet h
protected theorem putTrim {n fld : Nat} {p : Pair} (h : FltFollows s) : FltFollows (putTrim s n fld p) := h.frame
protected theorem queueTrim (h : FltFollows s) : FltFollows (queueTrim s) := h.frame
protected theorem startTrim {n : Fin 16} {k : TrimKind} (h : FltFollows s) : FltFollows (startTrim s n k) := .ite h h.modUai
protected theorem clearTrim {n : Fin 16} (h : FltFollows s) : FltFollows (clearTrim s n) := h.putTrim.putTrim.queueTrim
protected theorem execTrimZero {r : Req} {ch : Fin 16} (h : FltFollows s) :
    FltFollows (after (execTrimZero r ch s) s) := h.doIf h.startTrim
protected theorem execTrimSpan {r : Req} {ch : Fin 16} (h : FltFollows s) :
    FltFollows (after (execTrimSpan r ch s) s) := h.doIf h.startTrim
protected theorem execTrimClear {r : Req} {ch : Fin 16} (h : FltFollows s) :
    FltFollows (after (execTrimClear r ch s) s) := h.doIf h.clearTrim
protected theorem endTrim {n : Fin 16} {k : TrimKind} {bUpset : Word} (h : FltFollows s) :
    FltFollows (endTrim s n k bUpset) := .ite h.stage.modUai.putTrim.queueTrim h.stage.modUai
protected theorem trimTake {n : Fin 16} (h : FltFollows s) : FltFollows (trimTake s n) := .ite h.modUai h

protected theorem execTrimCaptureEnd {ch : Fin 16} {bUpset : Word} (h : FltFollows s) :
    FltFollows (after (execTrimCaptureEnd ch bUpset s) s) := by
  unfold execTrimCaptureEnd
  split
  · exact h.doIf h.endTrim
  · exact h

protected theorem trimPress {n : Fin 16} {k : TrimKind} {ticks : Nat} (h : FltFollows s) :
    FltFollows (trimPress s n k ticks) := .ite h (.ite h.startTrim h.clearTrim)

protected theorem trimButton {n : Fin 16} {span : Bool} (h : FltFollows s) : FltFollows (trimButton s n span) := by
  unfold trimButton
  dsimp only
  refine .dite (fun _ => ?_) fun _ => h
  split
  · exact .ite h h.modDi.trimPress
  · exact h

/-! HART (R199 to R203, R208, R247). -/

protected theorem modModem {k : Fin 4} {f : Modem → Modem} (h : FltFollows s) : FltFollows (s.modModem k f) := h.frame

protected theorem execHartTransactionStart {c : Fin 20} (h : FltFollows s) :
    FltFollows (after (execHartTransactionStart c s) s) := by
  unfold execHartTransactionStart
  dsimp only
  split
  · exact h
  · exact h.doIf h.modHart.modModem

protected theorem hartRecs {c : Fin 20} {r : HartResp} (h : FltFollows s) :
    FltFollows (hartRecs s c r) := .stepIf (.ite (.stage (.ite h.stage h)) (.ite h.stage h)) (·.stage)

protected theorem execHartTransactionEnd {c : Fin 20} {resp : Option HartResp} {other : Bool} (h : FltFollows s) :
    FltFollows (after (execHartTransactionEnd c resp other s) s) := by
  unfold execHartTransactionEnd
  dsimp only
  split
  · exact h
  · refine h.doIf ?_
    split
    · exact h.modModem.modHart.stepUnless (·.modHart)
    · exact h.modModem.modHart.hartRecs.modHart

protected theorem rediscover {c : Fin 20} (h : FltFollows s) : FltFollows (rediscover s c) := h.touchPort.modHart
protected theorem execHartRediscover {r : Req} {c : Fin 20} (h : FltFollows s) :
    FltFollows (after (execHartRediscover r c s) s) := h.doIf h.rediscover

/-! Loop outputs (R230 to R253). -/

protected theorem formAo {n : Fin 4} {v : Word} {q : Nat} (h : FltFollows s) : FltFollows (formAo s n v q) := h.modAo
protected theorem failAo {n : Fin 4} (h : FltFollows s) : FltFollows (failAo s n) := h.modAo
protected theorem formDo {n : Fin 8} {v : Word} {q : Nat} (h : FltFollows s) : FltFollows (formDo s n v q) := h.modDo
protected theorem failDo {n : Fin 8} (h : FltFollows s) : FltFollows (failDo s n) := h.modDo
protected theorem linkAo {n : Fin 4} {ma volts upset : Word} (h : FltFollows s) :
    FltFollows (linkAo s n ma volts upset) := .ite h.modAo h
protected theorem aoSample {n : Fin 4} {ma volts : Word} {atCap : Bool} {upset : Word} (h : FltFollows s) :
    FltFollows (aoSample s n ma volts atCap upset) := h.modAo.linkAo
protected theorem openTest {n : Fin 4} {ma : Word} {atCap : Bool} (h : FltFollows s) :
    FltFollows (openTest s n ma atCap) := h.modAo
protected theorem putManual {o : Fin 12} {b : Bool} (h : FltFollows s) :
    FltFollows (putManual s o b) := .dite (fun _ => h.modAo) fun _ => h.modDo
protected theorem setManual {o : Fin 12} {b : Bool} (h : FltFollows s) :
    FltFollows (setManual s o b) := .ite h.touchManual h.putManual.stage.sysSet
protected theorem execManualOn {r : Req} {out : Fin 12} (h : FltFollows s) :
    FltFollows (after (execManualOn r out s) s) := h.doIf (.ite h.setManual h.touchManual)
protected theorem execManualOff {r : Req} {out : Fin 12} (h : FltFollows s) :
    FltFollows (after (execManualOff r out s) s) := h.doIf h.setManual
protected theorem putManualValue {o : Fin 12} {v : Pair} (h : FltFollows s) :
    FltFollows (putManualValue s o v) := .ite h.touchManual (.dite (fun _ => h.touchManual.modAo) fun _ => h.touchManual.modDo)
protected theorem execManualValueWrite {r : Req} {out : Fin 12} {v : Pair} (h : FltFollows s) :
    FltFollows (after (execManualValueWrite r out v s) s) := h.doIf (.ite h.putManualValue h.pairFail)

/-! Discrete inputs and outputs (R254 to R282). -/

protected theorem diTurn {n : Fin 16} {on : Bool} {tick : BitVec 64} (h : FltFollows s) :
    FltFollows (diTurn s n on tick) := h.modDi.acqReach.stepIf (fun h => .wakePoint (.wakePoint (.ite h.modDi h)))
protected theorem diSample {n : Fin 16} {on : Bool} {tick : BitVec 64} (h : FltFollows s) :
    FltFollows (diSample s n on tick) := .ite h.modDi.diTurn h.modDi

protected theorem diSamples {n : Fin 16} {rs : List Bool} {tick : BitVec 64} (h : FltFollows s) :
    FltFollows (diSamples n rs tick s) := by
  induction rs generalizing tick s with
  | nil => exact h
  | cons r rs ih => exact ih h.diSample

protected theorem diFlip {n : Fin 16} (h : FltFollows s) : FltFollows (diFlip s n) := h.modDi.diTurn
protected theorem execTotalPreset {r : Req} {n : Fin 16} {v : Pair} (h : FltFollows s) :
    FltFollows (after (execTotalPreset r n v s) s) := h.doIf (.ite h.modDi h.pairFail)

protected theorem applyPreset {n : Fin 16} {edge : Bool} (h : FltFollows s) : FltFollows (applyPreset s n edge) := by
  unfold applyPreset
  dsimp only
  split
  · exact h
  · exact .stepIf (.ite h.modDi.stage h.modDi) (·.diFlip)

protected theorem clearWrap {n : Fin 16} {edge : Bool} (h : FltFollows s) :
    FltFollows (clearWrap s n edge) := .ite h.modDi.diFlip h.modDi
protected theorem execClearWrap {r : Req} {n : Fin 16} {edge : Bool} (h : FltFollows s) :
    FltFollows (after (execClearWrap r n edge s) s) := h.doIf h.clearWrap
protected theorem restoreTotal {n : Fin 16} (h : FltFollows s) : FltFollows (restoreTotal s n) := .ite h.modDi.stage h.modDi
protected theorem latchedCond (h : FltFollows s) : FltFollows (latchedCond s) := .ite h.sysSet h
protected theorem cutOff {n : Fin 8} (h : FltFollows s) :
    FltFollows (cutOff s n) := .ite (.latchedCond (h.modDo.modDo.refreshDo.stepIf (·.stage))) h.modDo.refreshDo
protected theorem resetLatch {n : Fin 8} (h : FltFollows s) :
    FltFollows (resetLatch s n) := .ite h.touchManual.modDo.refreshDo.latchedCond h.touchManual
protected theorem execResetLatch {r : Req} {n : Fin 8} (h : FltFollows s) :
    FltFollows (after (execResetLatch r n s) s) := h.doIf h.resetLatch

protected theorem groupShed {ma : Nat} (h : FltFollows s) : FltFollows (groupShed s ma) := by
  unfold groupShed
  dsimp only
  split
  · exact .ite h.frame.modDo.cutOff h.frame
  · exact h.frame

protected theorem execDoShedRestart (h : FltFollows s) : FltFollows (after (execDoShedRestart s) s) := by
  unfold execDoShedRestart
  split
  · exact h
  · exact h.doIf h.modDo.refreshDo

protected theorem execDoStaggeredRestart (h : FltFollows s) : FltFollows (after (execDoStaggeredRestart s) s) := by
  unfold execDoStaggeredRestart
  split
  · exact h
  · exact h.doIf h.modDo.refreshDo

protected theorem safenTo {low : Bool} (h : FltFollows s) :
    FltFollows (safenTo s low) := .ite h.frame.stage.dieSafenTo.refreshOuts h.frame.stage

protected theorem boundWakePoint {p : Nat} (h : FltFollows s) : FltFollows (boundWakePoint s p) := by
  unfold boundWakePoint
  split
  · exact h.perfAdd.perfAdd.wakePoint
  · exact h

protected theorem gauzeSample {n : Fin 16} (h : FltFollows s) :
    FltFollows (gauzeSample s n) := .ite h (.stepIf (.ite h h.pairFail) (fun h => h.foldl fun _ _ h => h.boundWakePoint))
protected theorem linkUai {n : Fin 16} {upSample upDiag : Word} (h : FltFollows s) :
    FltFollows (linkUai s n upSample upDiag) := .ite h.modUai.frame.modVib.trimTake.perfAdd.gauzeSample h
protected theorem linkDi {n : Fin 16} {ua : Int} (h : FltFollows s) : FltFollows (linkDi s n ua) := h.modDi
protected theorem linkDo {n : Fin 8} {ma : Nat} {mv : Int} (h : FltFollows s) :
    FltFollows (linkDo s n ma mv) := .ite h.modDo.modDo.wakePoint h.modDo.modDo

protected theorem linkFrame {ch : Fin 16} {upSample upDiag : Word} {doMa : List Nat} {doMv diUa : List Int} (h : FltFollows s)
    : FltFollows (linkFrame s ch upSample upDiag doMa doMv diUa) :=
  .frame (.foldl (.foldl (h.perfAdd.foldl fun _ _ h => .ite h.linkUai h.linkUai) fun _ _ h => h.linkDi) fun _ _ h => h.linkDo)

/-! The end of the start (R81, R136, R403). -/

protected theorem sendImage (h : FltFollows s) : FltFollows (sendImage s) := .ite h (h.foldl fun _ _ h => h.bcast)
protected theorem queueRepair (h : FltFollows s) : FltFollows (queueRepair s) := .ite h.frame h
/-- The end of the start makes FLTn follow (R81, R334). -/
protected theorem startDone {ph : Phase} : FltFollows (startDone s ph) := FltFollows.fltUpdate.queueRepair.sendImage

protected theorem checkComplete (h : FltFollows s) : FltFollows (checkComplete s) := by
  unfold checkComplete
  refine .ite ?_ h
  split
  · exact FltFollows.startDone
  · exact .ite h.sysClear h

protected theorem flushAlarms {g : Nat} (h : FltFollows s) :
    FltFollows (flushAlarms s g) := .foldl (h.frame_alarms rfl) fun _ _ h => h.sendAlarm
protected theorem becomeReady {fn idx : Nat} (h : FltFollows s) :
    FltFollows (becomeReady s fn idx) := .checkComplete (.frame_sys (.ite h.setReady.flushAlarms h.setReady) rfl)

/-! The point replica (R91 to R93, R294, R401 to R407). -/

protected theorem modPeer {n : Nat} {f : Peer → Peer} (h : FltFollows s) : FltFollows (s.modPeer n f) := h.frame
protected theorem refreshStale (h : FltFollows s) : FltFollows (refreshStale s) := h.frame

protected theorem queueDelta {p : Nat} {refresh : Bool} (h : FltFollows s) : FltFollows (queueDelta s p refresh) := by
  unfold queueDelta
  dsimp only
  split
  · exact h
  · exact h.modPoint.frame

protected theorem sendDelta (h : FltFollows s) : FltFollows (sendDelta s) := .ite h h.frame.bcast

protected theorem publishDelta {p : Nat} (h : FltFollows s) : FltFollows (publishDelta s p) := by
  unfold publishDelta
  dsimp only
  split
  · exact h
  · exact .ite (.ite h.queueDelta.sendDelta h.queueDelta) h

protected theorem execReplicaRefresh {p : BitVec 16} (h : FltFollows s) : FltFollows (after (execReplicaRefresh p s) s) := by
  unfold execReplicaRefresh
  dsimp only
  split
  · exact h
  · exact h.doIf (.ite h.queueDelta.sendDelta h.queueDelta)

protected theorem takeRec {src : Nat} {r : PtRec} (h : FltFollows s) :
    FltFollows (takeRec s src r) := .panelsRefresh (.refreshGroup (.ite h.frame.pairFail h.frame))
protected theorem keepForStart {src : Nat} {r : PtRec} (h : FltFollows s) : FltFollows (keepForStart s src r) := h.frame
protected theorem noteMergeRec {r : PtRec} (h : FltFollows s) : FltFollows (noteMergeRec s r) := .ite h h.frame

protected theorem takePoint {src : Nat} {r : PtRec} (h : FltFollows s) : FltFollows (takePoint src s r) := by
  unfold takePoint
  refine .ite h.pairFail ?_
  refine .ite h.modPeer.sysRaise ?_
  split
  · exact .ite h.keepForStart (.ite h.noteMergeRec (.ite h.keepForStart h))
  · exact .ite h.takeRec h

protected theorem notePower (h : FltFollows s) : FltFollows (notePower s) := h.frame
protected theorem takePoints {src : Nat} {ws : List Word} (h : FltFollows s) :
    FltFollows (takePoints s src ws) := .notePower (h.foldl fun _ _ h => h.takePoint)

protected theorem noteSeq {src cls : Nat} {seq : Word} (h : FltFollows s) : FltFollows ((noteSeq s src cls seq).1) := by
  unfold noteSeq
  dsimp only
  split
  · exact h.frame
  · split
    · exact h.frame
    · split
      · exact h
      · exact h.frame

protected theorem sendAction {dest : Option Nat} {code : Nat} (h : FltFollows s) : FltFollows (sendAction s dest code) := by
  unfold sendAction
  dsimp only
  split
  · exact h
  · exact h.frame.enqueue

protected theorem requestGap {src : Nat} (h : FltFollows s) : FltFollows (requestGap s src) := .ite h.sendAction.modPeer h
protected theorem takeDelta {src : Nat} {seq : Word} {ws : List Word} (h : FltFollows s) : FltFollows (takeDelta s src seq ws) :=
  .branch (.ite h.noteSeq.requestGap h.noteSeq) (·.pairFail) (fun h => .ite h.modPeer (.ite h.takePoints h))
protected theorem execReplicaDeltaReceive {src : Fin 64} {seq : Word} {payload : List Word} (h : FltFollows s) :
    FltFollows (after (execReplicaDeltaReceive src seq payload s) s) := h.doIf h.takeDelta
protected theorem takeStored {src : Nat} (h : FltFollows s) :
    FltFollows (takeStored s src) := h.modPeer.foldl fun _ _ h => h.takePoints
protected theorem replicaReady {missing : Bool} (h : FltFollows s) :
    FltFollows (replicaReady s missing) := .ite h (.becomeReady (.modFn (.foldl (h.frame_sys rfl) fun _ _ h => h.takeStored)))
protected theorem checkAwait (h : FltFollows s) : FltFollows (checkAwait s) := .ite h.replicaReady h
protected theorem takeSnapPart {src : Nat} {ws : List Word} (h : FltFollows s) :
    FltFollows (takeSnapPart s src ws) := h.modPeer.takePoints.stepIf (fun h => .checkAwait (h.modPeer.takeStored.frame_sys rfl))
protected theorem sendSnapshot {mac : BitVec 48} {dest : Nat} (h : FltFollows s) :
    FltFollows (sendSnapshot s mac dest) := .sendImage (h.foldl fun _ _ h => h.sendTo)
protected theorem takeImagePart {src : Nat} {ws : List Word} (h : FltFollows s) :
    FltFollows (takeImagePart s src ws) := .ite (h.modPeer.modPeer.stepUnless (·.sysClear)) h.modPeer

protected theorem takeSnapshot {src : Nat} {ws : List Word} (h : FltFollows s) : FltFollows (takeSnapshot s src ws) := by
  unfold takeSnapshot
  refine .ite h.pairFail ?_
  split
  · exact h.takeSnapPart
  · exact h.takeImagePart
  · exact h

protected theorem execReplicaSnapshotReceive {src : Fin 64} {payload : List Word} (h : FltFollows s) :
    FltFollows (after (execReplicaSnapshotReceive src payload s) s) := h.doIf h.takeSnapshot

protected theorem execReplicaStaleTimeout {p : BitVec 16} (h : FltFollows s) :
    FltFollows (after (execReplicaStaleTimeout p s) s) := by
  unfold execReplicaStaleTimeout
  dsimp only
  split
  · exact h
  · exact h.doIf h.frame

/-! Vibration (R210 to R229). -/

protected theorem ringPut {n i : Nat} {w : Word} (h : FltFollows s) : FltFollows (ringPut s n i w) := h.frame
protected theorem writeSample {ch : Fin 16} {i : BitVec 64} {v : Pair} {lost : Bool} (h : FltFollows s) :
    FltFollows (writeSample s ch i v lost) := .modVib (.ite h.ringPut.frame h.ringPut)
protected theorem logEdge {ch : Fin 16} {tick : BitVec 64} (h : FltFollows s) : FltFollows (logEdge s ch tick) := h.ringPut.modVib
protected theorem frequencyEdge {ch : Fin 16} {tick : BitVec 64} {level : Word} {held : Nat} (h : FltFollows s) :
    FltFollows (frequencyEdge s ch tick level held) := h.acqReach.modUai.stepIf (·.logEdge)
protected theorem modFeat {n : Fin 16} {k : Nat} {f : Feat → Feat} (h : FltFollows s) : FltFollows (s.modFeat n k f) := h.modVib
protected theorem noteShed (h : FltFollows s) : FltFollows (noteShed s) := h.sysSet
protected theorem dropRec {n : Fin 16} {id : Word} (h : FltFollows s) : FltFollows (dropRec s n id) := h.stage
protected theorem recordCapture {n : Fin 16} {kind : BitVec 8} (h : FltFollows s) :
    FltFollows (recordCapture s n kind) := h.frame.modVib.noteShed

protected theorem trigger {n : Fin 16} {kind : BitVec 8} (h : FltFollows s) : FltFollows (trigger s n kind) := by
  unfold trigger
  dsimp only
  refine .ite h.frame.modVib ?_
  refine .ite h.recordCapture ?_
  split
  · exact h.modVib.dropRec.recordCapture
  · exact h.frame.dropRec

protected theorem execCaptureNow {r : Req} {ch : Fin 16} (h : FltFollows s) :
    FltFollows (after (execCaptureNow r ch s) s) := h.doIf h.trigger
protected theorem closeWindow {n : Fin 16} (h : FltFollows s) : FltFollows (closeWindow s n) := h.modVib.stage.noteShed
protected theorem sampleIn {ch : Fin 16} {i : BitVec 64} {v : Pair} {lost : Bool} (h : FltFollows s) :
    FltFollows (sampleIn s ch i v lost) := .ite h.writeSample.closeWindow h.writeSample

protected theorem execWaveformSampleWrite {ch : Fin 16} {tick : BitVec 64} {volts upset : Word} {lost : Bool} (h : FltFollows s) :
    FltFollows (after (execWaveformSampleWrite ch tick volts upset lost s) s) := by
  conv => arg 1; arg 1; fun; delta execWaveformSampleWrite
  generalize sampleAt = place
  split
  · exact h
  · exact h.doIf h.acqReach.sampleIn

protected theorem execCancelPending {r : Req} {ch : Fin 16} (h : FltFollows s) :
    FltFollows (after (execCancelPending r ch s) s) := h.doIf h.modVib.noteShed

protected theorem resendCap {n : Fin 16} {id : Word} (h : FltFollows s) : FltFollows (resendCap s n id) := by
  unfold resendCap
  split
  · exact h
  · exact .ite h.modVib.noteShed h

protected theorem execResendId {r : Req} {ch : Fin 16} {id : Word} (h : FltFollows s) :
    FltFollows (after (execResendId r ch id s) s) := h.doIf h.resendCap
protected theorem refreshStream {n : Fin 16} (h : FltFollows s) : FltFollows (refreshStream s n) := h.modVib
protected theorem refreshStreams (h : FltFollows s) : FltFollows (refreshStreams s) := h.foldl fun _ _ h => h.refreshStream
protected theorem sendWave {macs : List (BitVec 48)} {ws : List Word} (h : FltFollows s) :
    FltFollows (sendWave s macs ws) := h.foldl fun _ _ h => h.sendTo

protected theorem sendCapture {n : Fin 16} {i : Nat} {resends : Bool} (h : FltFollows s) :
    FltFollows (sendCapture s n i resends) := by
  unfold sendCapture
  dsimp only
  split
  · exact h
  · exact .modVib (.ite h h.sendWave)

protected theorem sendStream {n : Fin 16} (h : FltFollows s) : FltFollows (sendStream s n) := h.sendWave.modVib

protected theorem sendNextWave (h : FltFollows s) : FltFollows (sendNextWave s) := by
  unfold sendNextWave
  split
  · exact h.sendCapture
  · split
    · exact h.sendCapture
    · split
      · exact h.sendStream
      · split
        · exact h.sendCapture
        · split
          · exact h.sendCapture
          · exact h

protected theorem publishFeat {n : Fin 16} {k : Nat} (h : FltFollows s) : FltFollows (publishFeat s n k) := h.modFeat
protected theorem resumeFeat {n : Fin 16} {k : Nat} (h : FltFollows s) : FltFollows (resumeFeat s n k) := h.modFeat
protected theorem shedFeats (h : FltFollows s) :
    FltFollows (shedFeats s) := h.foldl fun _ _ h => h.foldl fun _ _ h => .ite (.ite h.modFeat (.ite h.resumeFeat h)) h

/-! Evaluations (R285 to R296), and ALARM as received. -/

protected theorem commandOuts {p : Nat} {v : Word} {q : Nat} {fail : Bool} (h : FltFollows s) : FltFollows (commandOuts s p v q
    fail) :=
  .foldl (h.foldl fun _ _ h => .ite (.ite h.failAo h.formAo) h) fun _ _ h => .ite (.ite h.failDo h.formDo) h

protected theorem putBounds {p : Nat} {v q : Word} (h : FltFollows s) :
    FltFollows (putBounds s p v q) := .dite (fun _ => .ite h.frame h) fun _ => h
protected theorem endTasks {l : List Nat} (h : FltFollows s) : FltFollows (endTasks s l) := h.frame
protected theorem noteTask {p cls : Nat} {ev : EvalIn} (h : FltFollows s) : FltFollows (noteTask s p cls ev) := h.frame.endTasks

protected theorem consume {p : Nat} (h : FltFollows s) : FltFollows (consume s p) := by
  unfold consume
  dsimp only
  split
  · split
    · refine .ite ?_ h
      split
      · exact h.modDi
      · exact h.modDi
      · exact h
    · exact h
  · exact h

protected theorem inputFail {p : Nat} {r : SrcVal} (h : FltFollows s) :
    FltFollows (inputFail s p r) := .sysRaise (.stage0 (.perfAdd (.perfAdd (.engineCount (h.frame_alarms rfl)))))
protected theorem publishState {p : Nat} (h : FltFollows s) : FltFollows (publishState s p) := h.modPoint
protected theorem writeRecord {p : Nat} (h : FltFollows s) : FltFollows (writeRecord s p) := h.modPoint

protected theorem evalRun {p : Nat} {l : LocalPt} {ev : EvalIn} (h : FltFollows s) : FltFollows (evalRun s p l ev) :=
  .notePower (.publishDelta (.putBounds (.stepUnless (.writeRecord (.publishState (.alarmEval
    (h.consume.modPoint.noteTask.engineCount.branch (·.inputFail) (fun h => .ite h.pathsDisagree h))))) (·.commandOuts))))

protected theorem takePoint' {byDuty : Bool} {p : Nat} (h : FltFollows s) : FltFollows (takePoint' byDuty s p) := .ite h h.frame

protected theorem evalPoint {p : Nat} {ev : EvalIn} (h : FltFollows s) : FltFollows (evalPoint s p ev) := by
  unfold evalPoint
  dsimp only
  split
  · exact .ite h.takePoint'.evalRun h
  · exact .ite h.evalRun h

protected theorem evalHeld {p tick n : Nat} (h : FltFollows s) : FltFollows (evalHeld p tick n s) := by
  induction n generalizing s with
  | zero => exact h
  | succ n ih =>
    unfold evalHeld
    split
    · exact h
    · exact ih (.ite h.evalRun h)

protected theorem evalTurn {ev : EvalIn} {f p : Nat} {early : Bool} (h : FltFollows s) : FltFollows (evalTurn ev f early p s) := by
  induction f generalizing early p s with
  | zero => exact h
  | succ f ih => exact .modPoint (.evalPoint (.evalHeld (h.foldl fun _ _ h => ih h)))

protected theorem evalDue {p : Nat} {ev : EvalIn} (h : FltFollows s) :
    FltFollows (evalDue s p ev) := .ite h.evalPoint (.ite h.modPoint h.evalTurn)

protected theorem execDelayExpiry {p : BitVec 16} {cond : Fin 7} {ev : EvalIn} (h : FltFollows s) :
    FltFollows (after (execDelayExpiry p cond ev s) s) := by
  unfold execDelayExpiry
  split
  · exact h
  · exact h.doIf h.evalPoint

protected theorem execReleaseDelayExpiry {p : BitVec 16} {ev : EvalIn} (h : FltFollows s) :
    FltFollows (after (execReleaseDelayExpiry p ev s) s) := by
  unfold execReleaseDelayExpiry
  split
  · exact h
  · exact h.doIf h.evalPoint

protected theorem execSuppressHoldExpiry {p : BitVec 16} {ev : EvalIn} (h : FltFollows s) :
    FltFollows (after (execSuppressHoldExpiry p ev s) s) := by
  unfold execSuppressHoldExpiry
  split
  · exact h
  · exact h.doIf h.evalPoint

protected theorem actPoint {p : Nat} {a : AlarmAct} {ev : EvalIn} (h : FltFollows s) :
    FltFollows (actPoint s p a ev) := h.queueAct.evalPoint

protected theorem putSetpoint {p : Nat} {v : Pair} (h : FltFollows s) : FltFollows (putSetpoint s p v) := by
  unfold putSetpoint
  dsimp only
  split
  · exact h
  · exact .ite h (.ite h.pairFail h.modPoint.stage)

protected theorem execSetpointWrite {r : Req} {p : BitVec 16} {v : Pair} (h : FltFollows s) :
    FltFollows (after (execSetpointWrite r p v s) s) := h.doIf h.putSetpoint
protected theorem sysEntry {ws : List Word} (h : FltFollows s) : FltFollows (sysEntry s ws) := .ite (h.frame_alarms rfl) h

protected theorem takeAlarm {src : Nat} {ws : List Word} (h : FltFollows s) : FltFollows (takeAlarm s src ws) :=
  .ite h.pairFail (.ite h.sysEntry.alarmEffects (.ite h (.ite h.alarmEffects (.alarmEffects (.stepIf (.frame (.ite
    h.noteTrigger h)) (·.oweObservations))))))

protected theorem execAlarmReceive {src : Fin 64} {payload : List Word} (h : FltFollows s) :
    FltFollows (after (execAlarmReceive src payload s) s) := h.doIf h.takeAlarm

/-! The fabric, Gauze, charges and the power level (R18 to R38, R64 to R72). -/

protected theorem modEngPl {e : Fin 16} {f : EngPl → EngPl} (h : FltFollows s) : FltFollows (s.modEngPl e f) := h.frame
protected theorem modQuadPl {q : Fin 4} {f : QuadPl → QuadPl} (h : FltFollows s) : FltFollows (s.modQuadPl q f) := h.frame
protected theorem roundSoon (h : FltFollows s) : FltFollows (roundSoon s) := h.frame
protected theorem completeReq {r : FabReq} {absent : Bool} {data : List (Word × Bool)} (h : FltFollows s) :
    FltFollows (completeReq s r absent data) := .ite h.frame.perfAdd (.ite h.frame.perfAdd h.frame)
protected theorem poisonWords {l : List Nat} (h : FltFollows s) : FltFollows (poisonWords s l) := h.frame
protected theorem dramWrite {a : Nat} {ws : List Word} (h : FltFollows s) : FltFollows (dramWrite s a ws) := h.frame

protected theorem fabWrite {r : FabReq} (h : FltFollows s) : FltFollows (fabWrite s r) := by
  unfold fabWrite
  dsimp only
  split
  · exact h.modQuad
  · exact .ite h.dramWrite.poisonWords h.dramWrite
  · exact h

protected theorem reqGone {q : Fin 4} {r : FabReq} (h : FltFollows s) :
    FltFollows (reqGone q s r) := .ite h.frame (.ite h.completeReq.frame h)
protected theorem fabricGone {q : Fin 4} (h : FltFollows s) : FltFollows (fabricGone s q) := h.foldl fun _ _ h => h.reqGone
protected theorem quadLeft {q : Fin 4} (h : FltFollows s) :
    FltFollows (quadLeft s q) := .roundSoon (.fabricGone (.frame (h.mapTasks.foldl fun _ _ h => h.modEngPl.modEngine.perfAdd)))
protected theorem faultQuads {qs : List (Fin 4)} (h : FltFollows s) :
    FltFollows (faultQuads s qs) := .ite h (.captureDump (h.foldl fun _ _ h => h.modQuad.quadLeft.sysRaise))
protected theorem faultQuad {q : Fin 4} (h : FltFollows s) : FltFollows (faultQuad s q) := h.faultQuads
protected theorem sendProgress (h : FltFollows s) : FltFollows (sendProgress s) := h.bcast
protected theorem setFw {st : FwState} (h : FltFollows s) : FltFollows (setFw s st) := h.frame.sendProgress.stage
protected theorem invalidateCopy (h : FltFollows s) : FltFollows (invalidateCopy s) := h.frame
protected theorem fwFailed {q : Fin 4} (h : FltFollows s) :
    FltFollows (fwFailed s q) := .ite h.invalidateCopy.modQuadPl.frame.setFw.sysRaise h
protected theorem clearWake {q : Fin 4} (h : FltFollows s) : FltFollows (clearWake s q) := h.frame

protected theorem execQuadReplyTimeout {id : Nat} (h : FltFollows s) : FltFollows (after (execQuadReplyTimeout id s) s) := by
  unfold execQuadReplyTimeout
  split
  · split
    · exact h.doIf h.faultQuad
    · exact h
  · exact h

protected theorem retryQuad {q : Fin 4} (h : FltFollows s) : FltFollows (retryQuad s q) := .ite h.modQuad h
protected theorem execQuadRetry {r : Req} {q : Fin 4} (h : FltFollows s) :
    FltFollows (after (execQuadRetry r q s) s) := h.doIf h.retryQuad
protected theorem goodBeat {u : FabUnit} (h : FltFollows s) : FltFollows (goodBeat s u) := h.frame
protected theorem deliver {r : FabReq} (h : FltFollows s) : FltFollows (deliver s r) :=
  .ite h.frame.perfAdd (.ite h.frame.perfAdd.completeReq (.completeReq (.goodBeat (.ite h.frame h.frame.fabWrite))))

protected theorem execFabricReplyDelivery {id : Nat} (h : FltFollows s) :
    FltFollows (after (execFabricReplyDelivery id s) s) := by
  unfold execFabricReplyDelivery
  split
  · exact h.doIf h.deliver
  · exact h

protected theorem noteParity {src tgt : FabUnit} {addr n : Nat} (h : FltFollows s) :
    FltFollows (noteParity s src tgt addr n) := h.goodBeat.frame
protected theorem poisonBeat {src tgt : FabUnit} {addr : Nat} (h : FltFollows s) :
    FltFollows (poisonBeat s src tgt addr) := .ite h.frame.poisonWords h.frame
protected theorem recoverWord {addr : Nat} (h : FltFollows s) : FltFollows (recoverWord s addr) :=
  .ite h.frame (.ite h.modPoint.frame (.ite h.frame (.ite h.frame (.ite h.frame (.ite h.frame h)))))
protected theorem dramError {addr : Nat} (h : FltFollows s) :
    FltFollows (dramError s addr) := h.poisonWords.recoverWord.perfAdd.stage.sysRaise

protected theorem execMemoryEccError {mem : MemUnit} {addr : Nat} {correctable : Bool} (h : FltFollows s) :
    FltFollows (after (execMemoryEccError mem addr correctable s) s) := by
  unfold execMemoryEccError
  dsimp only
  refine h.doIf ?_
  split
  · exact h.perfAdd
  · exact h.perfAdd
  · exact h.faultQuad
  · exact h.faultQuad
  · exact h
  · exact h.faultQuad
  · exact h.perfAdd
  · exact h.dramError
  · exact h
  · exact h.frame
  · exact h

protected theorem execScrubPass {mem : MemUnit} (h : FltFollows s) : FltFollows (after (execScrubPass mem s) s) := by
  unfold execScrubPass
  dsimp only
  refine h.doIf ?_
  split
  · exact h.frame.perfAdd
  · exact h
  · exact h.modQuad
  · exact h.modQuad
  · exact h.modQuad
  · exact h

protected theorem wakeMask {m : BitVec 4} {cls : List (BitVec 2)} (h : FltFollows s) :
    FltFollows (wakeMask s m cls) := h.frame.foldl fun _ _ h => h.perfAdd
protected theorem writeSlots (h : FltFollows s) : FltFollows (writeSlots s) := h.frame
protected theorem slotFault {k : Fin 256} (h : FltFollows s) : FltFollows (slotFault s k) := h.frame.perfAdd.stage.sysRaise
protected theorem withdraw {e : Fin 16} (h : FltFollows s) : FltFollows (withdraw s e) := h.modEngine.sysSet.roundSoon
protected theorem chargeEngine {task : Nat} {e : Fin 16} (h : FltFollows s) :
    FltFollows (chargeEngine s task e) := h.modEngine.modEngPl.sysRaise.stage.branch (·.withdraw) (·.roundSoon)
protected theorem modTask {n : Nat} {f : Task → Task} (h : FltFollows s) : FltFollows (s.modTask n f) := h.frame

protected theorem execShadowExecution {task : Nat} {ups : List Word} (h : FltFollows s) :
    FltFollows (after (execShadowExecution task ups s) s) := by
  unfold execShadowExecution
  dsimp only
  split
  · split
    · exact h.doIf h.perfAdd.modTask
    · exact h
  · exact h

protected theorem execThirdRun {task : Nat} {ups : List Word} (h : FltFollows s) :
    FltFollows (after (execThirdRun task ups s) s) := by
  unfold execThirdRun
  split
  · split
    · exact h.doIf (h.modTask.foldl fun _ _ h => h.chargeEngine)
    · exact h
  · exact h

protected theorem capCheck (h : FltFollows s) : FltFollows (capCheck s) := h.frame.sysSet

protected theorem execEngineClockStepChange {e : Fin 16} (h : FltFollows s) :
    FltFollows (after (execEngineClockStepChange e s) s) := by
  unfold execEngineClockStepChange
  split
  · exact h.doIf h.modEngine.capCheck
  · exact h

protected theorem putPowerLevel {w : Word} (h : FltFollows s) : FltFollows (putPowerLevel s w) := .ite h h.frame
protected theorem execPowerLevelWrite {r : Req} {w : Word} (h : FltFollows s) :
    FltFollows (after (execPowerLevelWrite r w s) s) := h.doIf h.putPowerLevel

/-! The task list and spares (R379, R381, R400). -/

protected theorem syncTasks (h : FltFollows s) : FltFollows (syncTasks s) := h.frame
protected theorem setSpare {e : Fin 16} (h : FltFollows s) : FltFollows (setSpare s e) := h.foldl fun _ _ h => .ite h.modEngPl h

protected theorem ensureSpare {q : Fin 4} (h : FltFollows s) : FltFollows (ensureSpare s q) := by
  unfold ensureSpare
  dsimp only
  refine .ite h ?_
  split
  · exact .setSpare (h.foldl fun _ _ h => h.modEngPl)
  · exact h.foldl fun _ _ h => h.modEngPl

protected theorem ensureSpares (h : FltFollows s) : FltFollows (ensureSpares s) := h.foldl fun _ _ h => h.ensureSpare

protected theorem rotateSpares (h : FltFollows s) : FltFollows (rotateSpares s) := by
  unfold rotateSpares
  refine h.foldl fun s a h => ?_
  split
  · exact h.setSpare
  · exact h

/-! The ship-wide duties (R409 to R413). -/

protected theorem givePoint {p : Nat} (h : FltFollows s) : FltFollows (givePoint s p) := by
  unfold givePoint
  dsimp only
  split
  · exact h
  · exact h.frame

protected theorem takePeer {x : Nat} (h : FltFollows s) : FltFollows (takePeer s x) := h.frame
protected theorem dropPeer {x : Nat} (h : FltFollows s) : FltFollows (dropPeer s x) := .frame (h.foldl fun _ _ h => h.givePoint)
protected theorem canRestrict {c : Fin 2} (h : FltFollows s) : FltFollows (canRestrict s c) := h.frame.modCan
protected theorem takeSeg {g : Fin 32} (h : FltFollows s) :
    FltFollows (takeSeg s g) := h.frame.foldl fun _ _ h => .modCan (h.foldl fun _ _ h => h.takePoint')
protected theorem dropSeg {g : Fin 32} (h : FltFollows s) :
    FltFollows (dropSeg s g) := h.frame.foldl fun _ _ h => .stepIf (h.foldl fun _ _ h => h.givePoint) (·.canRestrict)
protected theorem noteView (h : FltFollows s) : FltFollows (noteView s) := .ite h h.frame.roundSoon
protected theorem sendDuty (h : FltFollows s) : FltFollows (sendDuty s) := h.bcast
protected theorem passPeer {old : DutyTab} {x : Fin 64} (h : FltFollows s) :
    FltFollows (passPeer old s x) := .ite h.dropPeer (.ite h.takePeer h)
protected theorem passSeg {old : DutyTab} {g : Fin 32} (h : FltFollows s) :
    FltFollows (passSeg old s g) := .ite h.dropSeg (.ite h.takeSeg h)
protected theorem passCall (h : FltFollows s) : FltFollows (passCall s) := .ite h.takeCallDuty h.dropCallDuty

protected theorem applyDuty {d : DutyTab} (h : FltFollows s) : FltFollows (applyDuty s d) :=
  .ite h (.panelConds (.sysSet (.sendDuty (.refreshStale (.passCall (.foldl (h.frame.foldl fun _ _ h => h.passPeer) fun _ _ h
    => h.passSeg))))))

/-! Placement rounds, engines, wear (R382 to R393, R399, R400). -/

protected theorem sendPlacement (h : FltFollows s) : FltFollows (sendPlacement s) := h.frame.bcast
protected theorem notePlacement (h : FltFollows s) : FltFollows (notePlacement s) := .ite h.sendPlacement h.frame
protected theorem applyEngine {p : Plan} {e : Fin 16} (h : FltFollows s) :
    FltFollows (applyEngine p s e) := .ite h.modEngPl.modEngine h.modEngPl.modEngine
protected theorem applyFeature {p : Plan} {n : Nat} {t : Task} (h : FltFollows s) :
    FltFollows (applyFeature p s n t) := .ite (.ite h h.modFeat) (.ite (.ite h.modFeat h.resumeFeat) h)
protected theorem applyFeatures {p : Plan} (h : FltFollows s) :
    FltFollows (applyFeatures p s) := h.foldl fun _ _ h => h.applyFeature

protected theorem applyPlan {p : Plan} (h : FltFollows s) : FltFollows (applyPlan s p) :=
  .capCheck (.stepIf (.noteShed (.sysClear (.frame (.sysSet (.sysSet (.writeSlots (.applyFeatures (h.frame.foldl fun _ _ h =>
    h.applyEngine)))))))) (·.notePlacement))

protected theorem startDrain {q : Fin 4} {d : DrainTo} {hold : Bool} (h : FltFollows s) :
    FltFollows (startDrain s q d hold) := h.modQuad.roundSoon
protected theorem chargeQuad {q : Fin 4} (h : FltFollows s) :
    FltFollows (chargeQuad s q) := h.modQuadPl.perfAdd.sysRaise.stepIf (·.startDrain)

protected theorem followDuty (h : FltFollows s) : FltFollows (followDuty s) := by
  unfold followDuty
  refine h.foldl fun s a h => ?_
  split
  · exact h.givePoint
  · exact h.wakePoint
  · exact h

protected theorem runRound {late differ bad : BitVec 4} (h : FltFollows s) : FltFollows (runRound s late differ bad) :=
  .foldl (.branch (.foldl (h.frame.foldl fun _ _ h => h.perfAdd) fun _ _ h => h.pairFail)
    (·.frame.applyDuty.sysSet.syncTasks.ensureSpares.applyPlan.followDuty.frame) (fun h => .ite h.frame.sysRaise h.frame)) fun
    _ _ h => h.chargeQuad

protected theorem execTaskHandover {task : Nat} (h : FltFollows s) : FltFollows (after (execTaskHandover task s) s) := by
  unfold execTaskHandover
  dsimp only
  split
  · exact h.doIf h.frame
  · exact h

protected theorem drainOff {q : Fin 4} (h : FltFollows s) : FltFollows (drainOff s q) := .ite h.startDrain h
protected theorem execDrainOff {r : Req} {q : Fin 4} (h : FltFollows s) :
    FltFollows (after (execDrainOff r q s) s) := h.doIf h.drainOff
protected theorem resumeQuad {q : Fin 4} (h : FltFollows s) : FltFollows (resumeQuad s q) := .ite h.modQuad.roundSoon h
protected theorem execResume {r : Req} {q : Fin 4} (h : FltFollows s) :
    FltFollows (after (execResume r q s) s) := h.doIf h.resumeQuad

protected theorem execDrainComplete {q : Fin 4} (h : FltFollows s) : FltFollows (after (execDrainComplete q s) s) := by
  unfold execDrainComplete
  dsimp only
  refine h.doIf ?_
  refine FltFollows.quadLeft ?_
  split
  · exact h.modQuad
  · exact h.modQuad

protected theorem retryEngine {e : Fin 16} (h : FltFollows s) :
    FltFollows (retryEngine s e) := .ite h.modEngine.roundSoon.sysSet h
protected theorem execEngineRetry {r : Req} {e : Fin 16} (h : FltFollows s) :
    FltFollows (after (execEngineRetry r e s) s) := h.doIf h.retryEngine
protected theorem rebalance (h : FltFollows s) : FltFollows (rebalance s) := h.frame.roundSoon
protected theorem execRebalance {r : Req} (h : FltFollows s) : FltFollows (after (execRebalance r s) s) := h.doIf h.rebalance
protected theorem execRotateNow {r : Req} (h : FltFollows s) :
    FltFollows (after (execRotateNow r s) s) := h.doIf h.rotateSpares.rebalance
protected theorem forget {n : Nat} (h : FltFollows s) : FltFollows (forget s n) := .sysSet (.ite h.modPeer h)
protected theorem execForgetNode {r : Req} {n : BitVec 8} (h : FltFollows s) :
    FltFollows (after (execForgetNode r n s) s) := h.doIf h.forget
protected theorem readWear {e : Fin 16} {ppm : Word} (h : FltFollows s) :
    FltFollows (readWear s e ppm) := .stepIf (.sysSet (.ite h.modEngPl.roundSoon h.modEngPl)) (·.withdraw)

/-! Firmware copies (R395 to R397). -/

protected theorem modFw {f : Fw → Fw} (h : FltFollows s) : FltFollows (s.modFw f) := h.frame
protected theorem fwBegin (h : FltFollows s) : FltFollows (fwBegin s) := .ite h.modFw.frame.setFw h
protected theorem execFwBegin {r : Req} (h : FltFollows s) : FltFollows (after (execFwBegin r s) s) := h.doIf h.fwBegin
protected theorem fwProgram {i : Nat} {w : Word} (h : FltFollows s) : FltFollows (fwProgram s i w) := .ite h h.frame
protected theorem fwWindow {idx : Nat} {ws : List Word} (h : FltFollows s) :
    FltFollows (fwWindow s idx ws) := .ite (.modFw (h.foldl fun _ _ h => h.fwProgram)) h
protected theorem execFwWindowWrite {r : Req} {idx : BitVec 21} {ws : List Word} (h : FltFollows s) :
    FltFollows (after (execFwWindowWrite r idx ws s) s) := h.doIf h.fwWindow
protected theorem fwCommit (h : FltFollows s) : FltFollows (fwCommit s) := .ite h.setFw h
protected theorem execFwCommit {r : Req} (h : FltFollows s) : FltFollows (after (execFwCommit r s) s) := h.doIf h.fwCommit
protected theorem fwVerified (h : FltFollows s) : FltFollows (fwVerified s) := .ite h.frame.modFw.setFw h.setFw

protected theorem fwCancel (h : FltFollows s) : FltFollows (fwCancel s) := by
  unfold fwCancel
  split
  · exact h.setFw
  · exact h.invalidateCopy.setFw
  · exact h

protected theorem execFwCancel {r : Req} (h : FltFollows s) : FltFollows (after (execFwCancel r s) s) := h.doIf h.fwCancel

protected theorem fwNext (h : FltFollows s) : FltFollows (fwNext s) := by
  unfold fwNext
  dsimp only
  split
  · exact .ite h.modFw h.modFw.modFw.setFw.sysClear
  · exact .ite h.modFw.modFw.startDrain.sendProgress h.modFw

protected theorem fwApply (h : FltFollows s) :
    FltFollows (fwApply s) := .ite (.fwNext (.setFw (h.foldl fun _ _ h => h.modQuadPl))) h
protected theorem execFwApply {r : Req} (h : FltFollows s) : FltFollows (after (execFwApply r s) s) := h.doIf h.fwApply

/-! CONFIG_REPORT (R126). -/

protected theorem noteSuspects (h : FltFollows s) : FltFollows (noteSuspects s) := h.sysSet.foldl fun _ _ h => h.stage
protected theorem sendReport {kind : Nat} {rejected : Bool} {seq : Pair} {es : List RepEntry} (h : FltFollows s) :
    FltFollows (sendReport s kind rejected seq es) := .foldl (.stage (h.foldl fun _ _ h => h.bcast)) fun _ _ h => h.stage
protected theorem startReport (h : FltFollows s) : FltFollows (startReport s) := .ite h.frame.sendReport h

/-! Slots and commits (R131 to R136). -/

protected theorem putMarker {target : Bool} {seq : Word} (h : FltFollows s) : FltFollows (putMarker s target seq) := h.frame
protected theorem clearMarker (h : FltFollows s) : FltFollows (clearMarker s) := h.frame
protected theorem refreshSlots (h : FltFollows s) : FltFollows (refreshSlots s) := h.frame
protected theorem program {a : Nat} {ws : List Word} (h : FltFollows s) : FltFollows (program s a ws) := h.frame
protected theorem eraseNor {a n : Nat} (h : FltFollows s) : FltFollows (eraseNor s a n) := h.frame.refreshSlots

protected theorem enterStep {j : NorJob} {n : Nat} (h : FltFollows s) : FltFollows (enterStep s j n) := by
  unfold enterStep
  dsimp only
  split
  · exact h.frame
  · exact h.frame.putMarker
  · exact h.frame.eraseNor
  · exact h.frame.eraseNor
  · exact h.frame.foldl fun _ _ h => h.program
  · exact h.frame.program.program
  · exact h.frame.program
  · exact h.frame.program.refreshSlots
  · exact h.frame

protected theorem commitFailed {why : CommitFor} (h : FltFollows s) :
    FltFollows (commitFailed s why) := h.frame.sysRaise.stepIf (·.frame)

protected theorem startCommit (h : FltFollows s) : FltFollows (startCommit s) := by
  unfold startCommit
  dsimp only
  split
  · exact h
  · exact .ite h.frame.commitFailed (.enterStep (.ite h.frame.sendReport h.frame))

protected theorem slotCommitted {target : Bool} {seq : Word} {image repair : Bool} (h : FltFollows s) :
    FltFollows (slotCommitted s target seq image repair) := h.refreshSlots.stage
protected theorem commitDone {j : NorJob} (h : FltFollows s) :
    FltFollows (commitDone s j) := h.frame.clearMarker.slotCommitted.stepIf (·.frame.sysSet.sysClear)

protected theorem execNorCommitStepComplete {readBackOk : Bool} (h : FltFollows s) :
    FltFollows (after (execNorCommitStepComplete readBackOk s) s) := by
  unfold execNorCommitStepComplete
  split
  · exact h
  · exact h.doIf (.ite (.ite h.commitFailed h.enterStep) (.ite h.commitDone h.enterStep))

/-! Membership and grants (R408, R413 to R417). -/

protected theorem computeGrants (h : FltFollows s) : FltFollows (computeGrants s) := h.frame.refreshStreams
protected theorem peerRestarted {n : Nat} (h : FltFollows s) : FltFollows (peerRestarted s n) := h.frame.modPeer
protected theorem nowCounted {n : Nat} (h : FltFollows s) :
    FltFollows (nowCounted s n) := .refreshStale (.sysSet (.ite h.modPeer.frame.sendAction h.modPeer))
protected theorem takeBeat {n : Nat} {ws : List Word} (h : FltFollows s) : FltFollows (takeBeat s n ws) :=
  .noteView (.branch (.modPeer (.ite h.peerRestarted h)) (fun h => .ite h h.nowCounted) (·.modPeer.refreshStale))

protected theorem execHeartbeatReceive {mac : BitVec 48} {src : BitVec 8} {payload : List Word} (h : FltFollows s) :
    FltFollows (after (execHeartbeatReceive mac src payload s) s) := by
  unfold execHeartbeatReceive
  dsimp only
  refine h.doIf ?_
  refine .ite (.ite h h.sysRaise) ?_
  split
  · exact .ite h.takeBeat h.sysRaise
  · exact h.frame.takeBeat

protected theorem nowAbsent {n : Nat} (h : FltFollows s) :
    FltFollows (nowAbsent s n) := h.peerRestarted.modPeer.frame.sysSet.refreshStale.noteView
protected theorem takeDuty {n : Nat} {ws : List Word} (h : FltFollows s) :
    FltFollows (takeDuty s n ws) := .ite h.pairFail (.ite h.applyDuty.roundSoon h)
protected theorem execDutyReceive {src : Fin 64} {payload : List Word} (h : FltFollows s) :
    FltFollows (after (execDutyReceive src payload s) s) := h.doIf h.takeDuty

/-! CAN (R463 to R487). -/

protected theorem canSetUp {c : Fin 2} (h : FltFollows s) : FltFollows (canSetUp s c) := by
  unfold canSetUp
  split
  · exact h.modCan.congr rfl (by dsimp only; split <;> rfl) rfl
  · exact h

protected theorem toNormal {c : Fin 2} (h : FltFollows s) : FltFollows (toNormal s c) := .ite h.modCan h
protected theorem canConds (h : FltFollows s) : FltFollows (canConds s) := .stepIf (.ite h.sysClear h) (·.sysClear)
protected theorem setCounts {c : Fin 2} {t r : Nat} (h : FltFollows s) :
    FltFollows (setCounts s c t r) := .ite h.modCan.sysRaise h.modCan.canConds
protected theorem noteErr {c : Fin 2} {e : CanErr} {dataPhase : Bool} (h : FltFollows s) :
    FltFollows (noteErr s c e dataPhase) := h.perfAdd.modCan
protected theorem busBack {c : Fin 2} (h : FltFollows s) : FltFollows (busBack s c) := h.canRestrict.modCan.becomeReady.canConds

protected theorem execCanBusOffRecovery {c : Fin 2} (h : FltFollows s) : FltFollows (after (execCanBusOffRecovery c s) s) := by
  unfold execCanBusOffRecovery
  dsimp only
  refine h.doIf ?_
  split
  · exact .ite h.busBack h
  · exact .ite h.busBack h.modCan

protected theorem execRecoverNow {r : Req} {c : Fin 2} (h : FltFollows s) :
    FltFollows (after (execRecoverNow r c s) s) := h.doIf h.busBack
protected theorem execCanClearCounters {r : Req} {c : Fin 2} (h : FltFollows s) :
    FltFollows (after (execCanClearCounters r c s) s) := h.doIf h.modCan

protected theorem canIrq {c : Fin 2} {i : Nat} (h : FltFollows s) : FltFollows (canIrq s c i) := by
  unfold canIrq
  dsimp only
  split
  · exact h.modCan.frame
  · exact h.modCan

protected theorem modBuf {c : Fin 2} {b : Fin 64} {f : CanBuf → CanBuf} (h : FltFollows s) :
    FltFollows (modBuf s c b f) := h.modCan
protected theorem storeHp {c : Fin 2} {i : Fin 8} {b : CanBuf} (h : FltFollows s) :
    FltFollows (storeHp s c i b) := .ite (.ite h.modCan.sysRaise h.modCan) h.modBuf.canIrq

protected theorem storeFifo {c : Fin 2} {b : CanBuf} (h : FltFollows s) : FltFollows (storeFifo s c b) := by
  unfold storeFifo
  dsimp only
  split
  · exact h.modBuf.modCan.stepIf (·.canIrq)
  · refine FltFollows.sysRaise ?_
    split
    · exact h.modCan.modBuf
    · exact h.modCan

protected theorem rxCount {c : Fin 2} (h : FltFollows s) : FltFollows (rxCount s c) := .ite (.ite h.draw.setCounts h.setCounts) h

protected theorem execCanFrameReceive {c : Fin 2} {f : CanFrame} (h : FltFollows s) :
    FltFollows (after (execCanFrameReceive c f s) s) := by
  unfold execCanFrameReceive
  dsimp only
  refine h.doIf ?_
  refine .ite h.rxCount.perfAdd.modCan ?_
  split
  · exact h.rxCount.perfAdd.modCan
  · exact h.rxCount.perfAdd.modCan.branch (·.storeFifo) (·.storeHp)

protected theorem release {c : Fin 2} {n : Fin 48} (h : FltFollows s) : FltFollows (release s c n) := by
  unfold release
  dsimp only
  split
  · split
    · exact h.modBuf.modCan
    · exact h.modBuf.modCan.modBuf.modCan.canIrq
  · exact h.modBuf.modCan

protected theorem mapFrame {c : Fin 2} {b : CanBuf} {bUpset : Word} {e : Nat} (h : FltFollows s) :
    FltFollows (mapFrame c b bUpset s e) := .ite h.modCan h.modCan
protected theorem foreignFrame {c : Fin 2} {node : Nat} (h : FltFollows s) :
    FltFollows (foreignFrame s c node) := .ite (.stepIf (.ite h h.modCan) (·.modCan.sysRaise)) h

protected theorem panelFrame {c : Fin 2} {b : CanBuf} (h : FltFollows s) : FltFollows (panelFrame s c b) := by
  unfold panelFrame
  dsimp only
  split
  · exact h.execPanelAckFrame
  · exact h.execPanelSilenceFrame
  · exact h.execPanelRequestFrame
  · exact h.execPanelHeartbeat
  · exact .ite h h.foreignFrame
  · exact h

protected theorem handleFrame {c : Fin 2} {b : CanBuf} {bUpset : Word} (h : FltFollows s) :
    FltFollows (handleFrame s c b bUpset) := .foldl (.ite h.panelFrame h) fun _ _ h => h.mapFrame
protected theorem takeQueued {c : Nat} {f : CanFrame} (h : FltFollows s) : FltFollows (takeQueued s c f) := h.frame
protected theorem endTx {c : Fin 2} {k : Fin 16} {v : BitVec 4} (h : FltFollows s) :
    FltFollows (endTx s c k v) := .ite h.modBuf.modCan h.modBuf
protected theorem txCount {c : Fin 2} {e : CanErr} {inBody : Bool} (h : FltFollows s) :
    FltFollows (txCount s c e inBody) := .ite h.setCounts h

protected theorem txFails {c : Fin 2} {k : Fin 16} {e : CanErr} {dataPhase inBody : Bool} (h : FltFollows s) : FltFollows
    (txFails s c k e dataPhase inBody) :=
  .branch (.stepIf (h.noteErr.txCount.stepIf (·.modCan)) (·.sysRaise)) (·.modBuf) (fun h => .ite h.endTx (.ite h.endTx h.modBuf))

protected theorem execCanTxError {c : Fin 2} {k : Fin 16} {e : TxErr} (h : FltFollows s) :
    FltFollows (after (execCanTxError c k e s) s) := by
  unfold execCanTxError
  dsimp only
  refine h.doIf ?_
  split
  · exact .ite h.modBuf (.ite h.endTx h)
  · exact h.txFails

/-! The history store (R488 to R519). -/

protected theorem modLinen {f : Linen → Linen} (h : FltFollows s) : FltFollows (s.modLinen f) := h.frame
protected theorem modNand {f : Nand → Nand} (h : FltFollows s) : FltFollows (s.modNand f) := h.frame
protected theorem countErase (h : FltFollows s) : FltFollows (countErase s) := h.modNand.perfAdd

protected theorem openBlock {recs : List (Word × Rec)} {pages : Nat} (h : FltFollows s) :
    ∀ t ∈ openBlock s recs pages, FltFollows t := by
  simp only [openBlock, Option.mem_def, Option.map_eq_some_iff]
  rintro _ ⟨b, -, rfl⟩
  exact h.frame.countErase

protected theorem putLog {trend : Bool} {l : List TierBlock} (h : FltFollows s) : FltFollows (putLog s trend l) := h.modNand

protected theorem openTier {trend : Bool} {pages : Nat} (h : FltFollows s) : ∀ t ∈ openTier s trend pages, FltFollows t := by
  simp only [openTier, Option.mem_def, Option.map_eq_some_iff]
  rintro _ ⟨b, -, rfl⟩
  exact h.frame.perfAdd

protected theorem programTier {trend : Bool} (h : FltFollows s) : ∀ t ∈ programTier s trend, FltFollows t := by
  have opened : ∀ t ∈ (openTier s trend 1).map fun u => perfAdd u 0x5000 1, FltFollows t := by
    simp only [Option.mem_def, Option.map_eq_some_iff]
    rintro _ ⟨u, hu, rfl⟩
    exact (h.openTier u hu).perfAdd
  unfold programTier
  split
  · split
    · simp only [Option.mem_def, Option.some.injEq, forall_eq']
      exact h.putLog.perfAdd
    · exact opened
  · exact opened

protected theorem recycle (h : FltFollows s) : FltFollows (recycle s) := .ite h h.modNand.perfAdd
protected theorem permCheck (h : FltFollows s) : FltFollows (permCheck s) := .ite (.ite h.modLinen h.modLinen.sysRaise) h.modLinen
protected theorem wearCheck (h : FltFollows s) : FltFollows (wearCheck s) := .sysSet (.ite h h.modNand)
protected theorem commitRecs {rs : List (Word × Rec)} (h : FltFollows s) : FltFollows (commitRecs s rs) := h.modNand.permCheck

protected theorem retireOpen (h : FltFollows s) : FltFollows (retireOpen s) := by
  obtain ⟨opening, e, opened⟩ : ∃ f, f = openBlock ∧ ∀ {t recs pages}, FltFollows t → ∀ u ∈ f t recs pages, FltFollows u :=
    ⟨_, rfl, FltFollows.openBlock⟩
  unfold retireOpen
  rw [← e]
  split
  · exact h
  · dsimp only
    split
    · next e => exact opened h.modNand.stage _ e
    · exact h.modNand.stage

protected theorem endDropping (h : FltFollows s) : FltFollows (endDropping s) := .ite h.modLinen h

protected theorem programPage (h : FltFollows s) : FltFollows (programPage s) := by
  have programmed : FltFollows ((programTier s false).getD s) := .getD h.programTier h
  exact .recycle (.wearCheck (.endDropping (.perfAdd (.modLinen (.commitRecs (.ite programmed h))))))

protected theorem execNandSegmentProgram {ok : Bool} (h : FltFollows s) : FltFollows (after (execNandSegmentProgram ok s) s) := by
  have opened : ∀ t ∈ (if hasPage s then some s else openBlock s [] 0), FltFollows t := by
    split
    · rintro _ ⟨⟩
      exact h
    · exact h.openBlock
  refine h.doIf ?_
  split
  · exact h.frame.sysRaise
  · next e => exact .ite (opened _ e).programPage (opened _ e).retireOpen.wearCheck

protected theorem refreshTier {trend : Bool} {b : TierBlock} (h : FltFollows s) : FltFollows (refreshTier s trend b) := by
  have opened := h.openTier (trend := trend) (pages := b.pages)
  conv => arg 1; fun; delta refreshTier
  generalize openTier = opening at opened ⊢
  split
  · exact h
  · next e => exact (opened _ e).putLog.perfAdd.stage

protected theorem refreshMain {b : NandBlock} (h : FltFollows s) : FltFollows (refreshMain s b) := by
  have opened := h.openBlock (recs := b.recs) (pages := b.pages)
  conv => arg 1; fun; delta refreshMain
  generalize openBlock = opening at opened ⊢
  split
  · exact h.modLinen.sysRaise
  · next e => exact (opened _ e).modNand.countErase.stage.wearCheck

protected theorem execNandBlockRefresh {block corrected : Nat} (h : FltFollows s) :
    FltFollows (after (execNandBlockRefresh block corrected s) s) := by
  unfold execNandBlockRefresh
  split
  · exact h.doIf h.refreshMain
  · exact h.doIf h.refreshTier
  · exact h.doIf h.refreshTier
  · exact h

protected theorem scanDone {i : NandInfo} (h : FltFollows s) :
    FltFollows (scanDone s i) := h.modNand.modLinen.stepIf (·.modNand.stage)
protected theorem restoreDamask (h : FltFollows s) : FltFollows (restoreDamask s) := h.frame
protected theorem restamp {all : Bool} {cycle : BitVec 24} {oldT0 newT0 : Nat} (h : FltFollows s) :
    FltFollows (restamp s all cycle oldT0 newT0) := h.modLinen
protected theorem timeReady (h : FltFollows s) : FltFollows (timeReady s) := h.frame.restamp
protected theorem resumeTime (h : FltFollows s) : FltFollows (resumeTime s) := h.modLinen.frame.restamp
protected theorem noteEvents (h : FltFollows s) : FltFollows (noteEvents s) := h.foldl fun _ _ h => h.noteEvent

protected theorem copyKept (h : FltFollows s) : FltFollows (copyKept s) := by
  have opened := h.openBlock (recs := []) (pages := 0)
  unfold copyKept
  generalize openBlock s [] 0 = opening at opened ⊢
  refine .ite h ?_
  cases opening with
  | none => exact h
  | some t =>
    have ht : FltFollows t := opened t rfl
    have programmed : FltFollows ((programTier t false).getD t) := .getD ht.programTier ht
    exact .perfAdd (.commitRecs (.modNand (.ite programmed ht)))

protected theorem histStart (h : FltFollows s) : FltFollows (histStart s) := by
  have h1 {b : Bool} : FltFollows (if b then resumeTime (copyKept s) else copyKept s) := .ite h.copyKept.resumeTime h.copyKept
  exact .stage (.ite h1.modLinen.noteEvents.stage.stage h1.modLinen.noteEvents.stage)

protected theorem stageAsP {r : Rec} (h : FltFollows s) : FltFollows (stageAsP s r) := by
  unfold stageAsP
  dsimp only
  refine .ite h.pushRec ?_
  split
  · exact h.frame.pushRec
  · exact h.pushRec

protected theorem releaseCursor {c : Fin 8} (h : FltFollows s) : FltFollows (releaseCursor s c) := h.modCursor
protected theorem claimCursor {r : Req} {c : Fin 8} (h : FltFollows s) : FltFollows (claimCursor s r c) := .ite h h.modCursor
protected theorem execCursorClaim {r : Req} {c : Fin 8} (h : FltFollows s) :
    FltFollows (after (execCursorClaim r c s) s) := h.doIf h.claimCursor
protected theorem execCursorRelease {r : Req} {c : Fin 8} (h : FltFollows s) :
    FltFollows (after (execCursorRelease r c s) s) := h.doIf h.releaseCursor
protected theorem startFill {c : Fin 8} {hi lo : Word} (h : FltFollows s) : FltFollows (startFill s c hi lo) := h.modCursor
protected theorem execPositionLowWrite {r : Req} {c : Fin 8} {w : Word} (h : FltFollows s) :
    FltFollows (after (execPositionLowWrite r c w s) s) := h.doIf h.startFill
protected theorem advanceCursor {c : Fin 8} (h : FltFollows s) : FltFollows (advanceCursor s c) := .ite h.startFill h.startFill
protected theorem execCursorAdvance {r : Req} {c : Fin 8} (h : FltFollows s) :
    FltFollows (after (execCursorAdvance r c s) s) := h.doIf h.advanceCursor

protected theorem seekOldestCursor {c : Fin 8} (h : FltFollows s) : FltFollows (seekOldestCursor s c) := by
  unfold seekOldestCursor
  dsimp only
  split
  · exact h.startFill
  · exact h.startFill
  · exact h.startFill

protected theorem seekNewestCursor {c : Fin 8} (h : FltFollows s) : FltFollows (seekNewestCursor s c) := by
  unfold seekNewestCursor
  dsimp only
  split
  · exact h.startFill
  · exact h.startFill
  · exact h.startFill

protected theorem execSeekOldest {r : Req} {c : Fin 8} (h : FltFollows s) :
    FltFollows (after (execSeekOldest r c s) s) := h.doIf h.seekOldestCursor
protected theorem execSeekNewest {r : Req} {c : Fin 8} (h : FltFollows s) :
    FltFollows (after (execSeekNewest r c s) s) := h.doIf h.seekNewestCursor
protected theorem writeCursorControl {c : Fin 8} {w : Word} (h : FltFollows s) :
    FltFollows (writeCursorControl s c w) := .ite h h.modCursor
protected theorem endFill {c : Fin 8} {f : Fill} {skip : Nat} (h : FltFollows s) : FltFollows (endFill s c f skip) := h.modCursor

protected theorem noteBad {bad : List (Word × Word)} (h : FltFollows s) : FltFollows (noteBad s bad) := by
  unfold noteBad
  dsimp only
  refine h.foldl fun s a h => ?_
  split
  · exact h
  · exact h.modNand.stage

protected theorem fillMain {c : Fin 8} (h : FltFollows s) : FltFollows (fillMain s c) := h.endFill
protected theorem fillPerm {c : Fin 8} (h : FltFollows s) : FltFollows (fillPerm s c) := h.endFill
protected theorem fillTrend {c : Fin 8} (h : FltFollows s) : FltFollows (fillTrend s c) := h.endFill

protected theorem execWindowFillComplete {c : Fin 8} {bad : List (Word × Word)} (h : FltFollows s) :
    FltFollows (after (execWindowFillComplete c bad s) s) := by
  unfold execWindowFillComplete
  dsimp only
  refine h.doIf ?_
  refine FltFollows.recycle ?_
  split
  · exact h.noteBad.fillMain
  · exact h.noteBad.fillPerm
  · exact h.noteBad.fillTrend

protected theorem modTrend {p : Nat} {f : Trend → Trend} (h : FltFollows s) : FltFollows (s.modTrend p f) := h.modNand
protected theorem trendStep {e : Nat × LocalPt} (h : FltFollows s) :
    FltFollows (trendStep s e) := .ite h.modTrend h.modTrend.pairFail
protected theorem recycleTrend (h : FltFollows s) : FltFollows (recycleTrend s) := .ite h h.putLog.perfAdd

protected theorem flushTrend {f : Nat} (h : FltFollows s) : FltFollows (flushTrend f s) := by
  induction f generalizing s with
  | zero => exact h
  | succ f ih =>
    unfold flushTrend
    split
    · split
      · next e => exact ih (h.programTier _ e).frame.recycleTrend
      · exact h
    · exact h

protected theorem archiveAll {l : List (Nat × LocalPt)} {start : Nat} (h : FltFollows s) :
    FltFollows (archiveAll s l start) := h.foldl fun _ _ h => h.modTrend

/-! Time and the backup domain (R520 to R544). -/

protected theorem modBkup {f : Bkup → Bkup} (h : FltFollows s) : FltFollows (s.modBkup f) := h.frame
protected theorem setQuality {q : TimeQ} (h : FltFollows s) :
    FltFollows (setQuality s q) := .ite h (h.modBkup.bcast.stepIf (·.sysClear))
protected theorem clockStep {cause : Nat} {sec : Word} {sub : BitVec 15} (h : FltFollows s) :
    FltFollows (clockStep s cause sec sub) := h.modBkup.bcast.stage.setQuality.stepIf (·.sysRaise)
protected theorem loadRoll (h : FltFollows s) : FltFollows (loadRoll s) := .ite h.frame h
protected theorem applyShift {n : Int} (h : FltFollows s) : FltFollows (applyShift s n) := h.modBkup

protected theorem qualityStep {off : Int} (h : FltFollows s) : FltFollows (qualityStep s off) := by
  unfold qualityStep
  dsimp only
  split
  · exact .ite h.modBkup.setQuality h.modBkup
  · exact .ite h.modBkup.setQuality h.modBkup
  · exact h.modBkup

protected theorem compareRtc {ptpNs : Int} (h : FltFollows s) : FltFollows (compareRtc s ptpNs) :=
  h.modBkup.modBkup.branch (·.modBkup.clockStep.modBkup) (fun h => .qualityStep (.ite h.applyShift h))
protected theorem rollover (h : FltFollows s) : FltFollows (rollover s) := h.modBkup
protected theorem stageWords {sec sub : Option Word} (h : FltFollows s) : FltFollows (stageWords s sec sub) := h.modBkup
protected theorem execStageWrite {r : Req} {sec sub : Option Word} (h : FltFollows s) :
    FltFollows (after (execStageWrite r sec sub s) s) := h.doIf h.stageWords
protected theorem commitStage (h : FltFollows s) : FltFollows (commitStage s) := .ite h.modBkup.clockStep h
protected theorem execRtcCommit {r : Req} (h : FltFollows s) : FltFollows (after (execRtcCommit r s) s) := h.doIf h.commitStage
protected theorem execCancelStage {r : Req} (h : FltFollows s) : FltFollows (after (execCancelStage r s) s) := h.doIf h.modBkup
protected theorem writeShift {w : Word} (h : FltFollows s) : FltFollows (writeShift s w) := .ite h h.applyShift
protected theorem execRtcShiftWrite {r : Req} {w : Word} (h : FltFollows s) :
    FltFollows (after (execRtcShiftWrite r w s) s) := h.doIf h.writeShift
protected theorem writeTrim {w : Word} (h : FltFollows s) : FltFollows (writeTrim s w) := .ite h h.modBkup
protected theorem execRtcTrimCodeWrite {r : Req} {w : Word} (h : FltFollows s) :
    FltFollows (after (execRtcTrimCodeWrite r w s) s) := h.doIf h.writeTrim
protected theorem startShutdown (h : FltFollows s) : FltFollows (startShutdown s) := h.modBkup
protected theorem execShutdown {r : Req} (h : FltFollows s) : FltFollows (after (execShutdown r s) s) := h.doIf h.startShutdown

protected theorem execPwronOff (h : FltFollows s) : FltFollows (after (execPwronOff s) s) := by
  unfold execPwronOff
  split
  · exact h
  · exact h.doIf h.modBkup

/-! The start and readiness (R77 to R102). -/

protected theorem manualEnds (h : FltFollows s) : FltFollows (manualEnds s) := h.frame.foldl fun _ _ h => h.stage
/-- In the logic reset the start is not complete (R78, R79). -/
protected theorem resetLogic {cause : BitVec 2} {cut : Option Nat} : FltFollows (resetLogic s cause cut) := .of_start rfl
protected theorem checkBackup (h : FltFollows s) : FltFollows (checkBackup s) := .ite h.frame h.frame.stage
protected theorem loadTrim (h : FltFollows s) : FltFollows (loadTrim s) := .ite h h.frame
protected theorem lostClockMsg (h : FltFollows s) : FltFollows (lostClockMsg s) := .ite h h.bcast
protected theorem loadIfLinked (h : FltFollows s) : FltFollows (loadIfLinked s) := .ite h.loadField h

/-- Reading the configuration is part of the start (R82). -/
protected theorem readPhase0 : FltFollows (readPhase0 s) := by
  have alone {t : State} (e : startComplete t = false) {c : Cfg} :
      FltFollows (loadIfLinked (lostClockMsg (loadTrim (sysRaise { t with cfg := c } 0x02)))) :=
    (FltFollows.of_start e).frame.sysRaise.loadTrim.lostClockMsg.loadIfLinked
  conv => arg 1; fun; delta readPhase0
  generalize chosenSlot = slot, readTypes = read
  split
  · exact alone rfl
  · extract_lets c0 s0 lone s1 r s2
    split
    · split
      · exact alone rfl
      · exact (FltFollows.of_start rfl).loadTrim.lostClockMsg.loadIfLinked
    · exact alone rfl

protected theorem readPhase1 : FltFollows (readPhase1 s) := by
  conv => arg 1; fun; delta readPhase1
  generalize firmwareCopy = copy
  split
  · exact .of_start rfl
  · exact (FltFollows.of_start rfl).sysRaise

protected theorem readPhase2 : FltFollows (readPhase2 s) := by
  have restored {b : Bool} {t : State} (e : startComplete t = false) : FltFollows (if b then restoreDamask t else t) :=
    .ite (FltFollows.of_start e).restoreDamask (.of_start e)
  exact .startReport (.noteSuspects (.loadIfLinked (.syncTasks (.ite (restored rfl) (restored rfl).canSetUp.canSetUp))))

protected theorem execNorReadPhaseComplete {phase : Fin 3} (h : FltFollows s) :
    FltFollows (after (execNorReadPhaseComplete phase s) s) := by
  refine h.doIf ?_
  split
  · exact .readPhase0
  · exact .readPhase1
  · exact .readPhase2

protected theorem ringStart (h : FltFollows s) : FltFollows (ringStart s) := h.congr rfl rfl rfl
protected theorem timeStart (h : FltFollows s) :
    FltFollows (timeStart s) := .stepIf (.sysSet (.frame (.ite h h.timeReady))) (·.sysSet)
protected theorem loadSampler {k : Fin 16} (h : FltFollows s) : FltFollows (loadSampler s k) := .ite h.modSampler h
protected theorem startSampler {k : Fin 16} (h : FltFollows s) :
    FltFollows (startSampler s k) := .ite h.loadSampler.modSampler h.loadSampler
protected theorem vibStart (h : FltFollows s) :
    FltFollows (vibStart s) := h.frame.foldl fun _ _ h => h.foldl fun _ _ h => .ite (.ite h.modFeat h.resumeFeat) h

protected theorem fnStart {fn idx : Nat} (h : FltFollows s) : FltFollows (fnStart s fn idx) := by
  unfold fnStart
  dsimp only
  split
  · exact h.ringStart
  · exact h.timeStart
  · exact h.frame.loadField.vfldConds.lockedCond.latchedCond.spareConds
  · exact .dite (fun _ => h.restoreTotal) fun _ => h
  · exact h.histStart
  · exact .captureDump (h.foldl fun _ _ h => h.startSampler)
  · exact h.vibStart
  · exact h

protected theorem fnFollow {fn idx : Nat} (h : FltFollows s) : FltFollows (fnFollow s fn idx) := by
  unfold fnFollow
  split
  · exact h.startReport
  · exact .dite (fun _ => h.refreshOut) fun _ => .dite (fun _ => h.refreshOut) fun _ => h
  · exact .ite h.becomeReady h
  · exact h

protected theorem execReadyDeadlineExpiry (h : FltFollows s) : FltFollows (after (execReadyDeadlineExpiry s) s) :=
  h.doIf (.ite h.frame .startDone)

/-! Amendments and images (R128 to R138). -/

protected theorem closeAmend (h : FltFollows s) : FltFollows (closeAmend s) := h.frame
protected theorem noteOwner {r : Req} (h : FltFollows s) : FltFollows (noteOwner s r) := .ite h.closeAmend h
protected theorem openAmend {r : Req} (h : FltFollows s) : FltFollows (openAmend s r) := .ite h.frame h
protected theorem execAmendOpen {r : Req} (h : FltFollows s) :
    FltFollows (after (execAmendOpen r s) s) := h.noteOwner.doIf h.noteOwner.openAmend
protected theorem abortAmend {r : Req} (h : FltFollows s) : FltFollows (abortAmend s r) := .ite h.closeAmend h
protected theorem execAmendAbort {r : Req} (h : FltFollows s) :
    FltFollows (after (execAmendAbort r s) s) := h.noteOwner.doIf h.noteOwner.abortAmend
protected theorem applyAmend {r : Req} (h : FltFollows s) : FltFollows (applyAmend s r) := .ite h.frame h
protected theorem execAmendApply {r : Req} (h : FltFollows s) :
    FltFollows (after (execAmendApply r s) s) := h.noteOwner.doIf h.noteOwner.applyAmend
protected theorem writeAmendLen {r : Req} {w : Word} (h : FltFollows s) : FltFollows (writeAmendLen s r w) := .ite h.frame h
protected theorem writeAmendBuffer {r : Req} {i : Nat} {ws : List Word} (h : FltFollows s) :
    FltFollows (writeAmendBuffer s r i ws) := .ite h.frame h
protected theorem liveRota {r : AmRec} (h : FltFollows s) : FltFollows (liveRota s r) := .ite h.modCall h
protected theorem dropOwed (h : FltFollows s) : FltFollows (dropOwed s) := h.frame
protected theorem liveDamask {was : Nat → Word} {r : AmRec} (h : FltFollows s) :
    FltFollows (liveDamask was s r) := .ite h.dropOwed.checkpointDamask h
protected theorem liveFeat {r : AmRec} (h : FltFollows s) : FltFollows (liveFeat s r) := .ite h.modVib h

protected theorem liveApply {damask : Nat → Word} {rs : List AmRec} (h : FltFollows s) : FltFollows (liveApply damask s rs) :=
  .stepIf (.stepIf (.stepIf (.stepIf (.stepIf (.foldl (h.foldl fun _ _ h => h.liveRota) fun _ _ h => h.liveDamask)
    (·.loadIfLinked)) (fun h => h.foldl fun _ _ h => h.loadSampler)) (fun h => .ite h h.frame)) (fun h => .noteShed
    (.refreshStreams (.shedFeats (h.foldl fun _ _ h => h.liveFeat))))) (·.notePower)

protected theorem endCheck (h : FltFollows s) : FltFollows (endCheck s) := .ite h.frame.liveApply.sendReport h.frame.sendReport
protected theorem askRepair (h : FltFollows s) : FltFollows (askRepair s) := .ite h h.frame
protected theorem imageStart (h : FltFollows s) : FltFollows (imageStart s) := .ite h.frame.eraseNor h
protected theorem execImageBegin {r : Req} (h : FltFollows s) :
    FltFollows (after (execImageBegin r s) s) := h.noteOwner.doIf h.noteOwner.imageStart
protected theorem imageWord {i : Nat} {w : Word} (h : FltFollows s) : FltFollows (imageWord s i w) := .ite h h.program
protected theorem imageWrite {i : Nat} {ws : List Word} (h : FltFollows s) :
    FltFollows (imageWrite s i ws) := .ite (.frame (h.foldl fun _ _ h => h.imageWord)) h
protected theorem execImageWindowWrite {r : Req} {idx : BitVec 23} {ws : List Word} (h : FltFollows s) :
    FltFollows (after (execImageWindowWrite r idx ws s) s) := h.noteOwner.doIf h.noteOwner.imageWrite
protected theorem imageCommit (h : FltFollows s) : FltFollows (imageCommit s) := .ite h.frame h
protected theorem execImageCommit {r : Req} (h : FltFollows s) :
    FltFollows (after (execImageCommit r s) s) := h.noteOwner.doIf h.noteOwner.imageCommit
protected theorem imageDrop (h : FltFollows s) : FltFollows (imageDrop s) := .ite h.frame.askRepair h
protected theorem execImageCancel {r : Req} (h : FltFollows s) :
    FltFollows (after (execImageCancel r s) s) := h.noteOwner.doIf h.noteOwner.imageDrop
protected theorem endVerify (h : FltFollows s) :
    FltFollows (endVerify s) := .ite h.program.frame.slotCommitted.sendReport h.frame.sendReport.askRepair

/-! The ring ports and precision time (R426 to R442). -/

protected theorem refill {c : Fin 4} (h : FltFollows s) : FltFollows (refill s c) := h.modClass
protected theorem discardFrame {c : Fin 4} (h : FltFollows s) : FltFollows (discardFrame s c) := h.modClass.perfAdd.sysRaise
protected theorem putFrame {p : Fin 3} {c : Fin 4} (h : FltFollows s) : FltFollows (putFrame s p c) := .ite h.modRingPort.frame h
protected theorem clearWire (h : FltFollows s) : FltFollows (clearWire s) := h.frame
protected theorem putOnRing {c : Fin 4} (h : FltFollows s) : FltFollows (putOnRing s c) := h.putFrame.putFrame.frame
protected theorem linkLost {p : Fin 3} {was : LinkSt} (h : FltFollows s) : FltFollows (linkLost s p was) := .ite h.sysRaise h

protected theorem toReceive {c : Fin 4} {src : BitVec 48} {bytes : Nat} (h : FltFollows s) :
    FltFollows (toReceive s c src bytes) := by
  unfold toReceive
  dsimp only
  split
  · split
    · exact .ite h.discardFrame.requestGap h.discardFrame
    · exact h.discardFrame
  · refine .ite ?_ h.modClass
    split
    · exact h.modClass.frame.perfAdd
    · exact h.modClass

protected theorem noteOcc {c : Fin 4} {f : RingFrame} (h : FltFollows s) : FltFollows (noteOcc c f s) := h.modClass
protected theorem forward {o : Fin 2} {c : Fin 4} {f : RingFrame} (h : FltFollows s) :
    FltFollows (forward s o c f) := .ite h (.ite h.discardFrame (h.noteOcc.putFrame.perfAdd.stepIf (·.perfAdd)))
protected theorem putDup {d : HsrDup} (h : FltFollows s) : FltFollows (putDup s d) := h.frame
protected theorem ownReturns {p : Fin 2} (h : FltFollows s) : FltFollows (ownReturns s p) := h.modRingPort.frame
protected theorem ringFrame {p : Fin 2} {c : Fin 4} {f : RingFrame} (h : FltFollows s) : FltFollows (ringFrame s p c f) :=
  .stepIf (.stepIf (.ite h.putDup (.ite h.putDup.modRingPort h.putDup.toReceive)) (·.putFrame)) (·.forward)
protected theorem addLoad {p : Fin 2} {c : Fin 4} {bytes : Nat} (h : FltFollows s) :
    FltFollows (addLoad s p c bytes) := h.modRingPort
protected theorem ringIn {p : Fin 2} {f : RingFrame} (h : FltFollows s) : FltFollows (ringIn s p f) :=
  .ite h.modRingPort.modRingPort (.ite h.modRingPort (h.modRingPort.addLoad.stepUnless (fun h => .ite h.ownReturns h.ringFrame)))

protected theorem learn {m : BitVec 48} (h : FltFollows s) : ∀ t ∈ learn s m, FltFollows t := by
  unfold learn
  dsimp only
  split
  · rintro _ ⟨⟩
    exact h.frame
  · simp only [Option.mem_def, Option.map_eq_some_iff]
    rintro _ ⟨k, -, rfl⟩
    exact h.frame

protected theorem stationOut {c : Fin 4} {f : RingFrame} (h : FltFollows s) : FltFollows (stationOut s c f) :=
  .ite (.ite h.refill.modClass.noteOcc.putOnRing h.refill.frame) (.ite h.discardFrame h.noteOcc.putOnRing)

protected theorem stationIn {f : RingFrame} (h : FltFollows s) : FltFollows (stationIn s f) := by
  unfold stationIn
  dsimp only
  refine .ite h.modRingPort.modRingPort (.ite h.modRingPort ?_)
  split
  · exact h.modRingPort.modClass.perfAdd.sysRaise
  · next t e =>
    have ht : FltFollows t := h.modRingPort.learn t e
    have received : FltFollows (if f.dst = nodeMac s ∨ f.dst = groupMac s then toReceive t
        (frameClass true f.kind) f.src f.bytes else t) :=
      .ite ht.toReceive ht
    exact .ite received received.stationOut

protected theorem ringOpenStep (h : FltFollows s) :
    FltFollows (ringOpenStep s) := .ite (.ite h.frame h.frame.sysRaise) (.ite h.frame.sysClear h)
protected theorem sendPause {on : Bool} (h : FltFollows s) : FltFollows (sendPause s on) := h.modRingPort.putFrame
protected theorem pauseStep (h : FltFollows s) :
    FltFollows (pauseStep s) := .ite h.sendPause (.ite h.sendPause (.ite h.sendPause h))
protected theorem modDup {mac : BitVec 48} {seq : BitVec 16} {f : HsrDup → HsrDup} (h : FltFollows s) :
    FltFollows (modDup s mac seq f) := h.frame

protected theorem recoverFrame {c : Fin 4} {what : FrameCopy} {src : BitVec 48} {seq : BitVec 16} (h : FltFollows s) :
    FltFollows (recoverFrame s c what src seq) := by
  unfold recoverFrame
  split
  · exact h.modDup
  · exact h.modDup
  · exact .ite h.putFrame.putFrame h

protected theorem ptpQuality (h : FltFollows s) : FltFollows (ptpQuality s) := .ite h.setQuality h
protected theorem takeAnnounce {g : GmData} {utc : BitVec 16} {valid : Bool} (h : FltFollows s) :
    FltFollows (takeAnnounce s g utc valid) := .ite h.frame.ptpQuality h
protected theorem takeSync {seconds : Nat} {offset : Word} (h : FltFollows s) :
    FltFollows (takeSync s seconds offset) := .ite h.frame.sysClear h

protected theorem execPtpMessageReceive {p : Fin 3} {m : PtpMsg} (h : FltFollows s) :
    FltFollows (after (execPtpMessageReceive p m s) s) := by
  unfold execPtpMessageReceive
  dsimp only
  refine h.doIf ?_
  split
  · exact h.takeAnnounce
  · exact h.takeSync

protected theorem noAnnounce (h : FltFollows s) : FltFollows (noAnnounce s) := by
  unfold noAnnounce
  dsimp only
  split
  · exact .ite h.sysRaise h
  · exact h.frame.ptpQuality

/-! Performance counters (R549 to R563). -/

protected theorem execSamplerWrap {k : Fin 16} {extra : Word} {src : SampleSrc} (h : FltFollows s) :
    FltFollows (after (execSamplerWrap k extra src s) s) := by
  unfold execSamplerWrap
  dsimp only
  refine h.doIf ?_
  split
  · exact .ite h.samplerWrapAt h.modSampler.modSampler
  · exact .ite h.samplerWrapAt h.samplerWrapAt

protected theorem writeSelect {k : Fin 16} {w : Word} (h : FltFollows s) : FltFollows (writeSelect s k w) := h.modSampler
protected theorem execSamplerSelectWrite {r : Req} {k : Fin 16} {w : Word} (h : FltFollows s) :
    FltFollows (after (execSamplerSelectWrite r k w s) s) := h.doIf h.writeSelect

protected theorem writeCount {k : Fin 16} {ws : List Word} (h : FltFollows s) : FltFollows (writeCount s k ws) := by
  unfold writeCount
  dsimp only
  split
  · split
    · exact h.modSampler.modSampler
    · exact h
  · refine .ite h ?_
    split
    · exact h.modSampler
    · exact h

protected theorem execCountWrite {r : Req} {k : Fin 16} {ws : List Word} (h : FltFollows s) :
    FltFollows (after (execCountWrite r k ws s) s) := h.doIf h.writeCount
protected theorem clearWrapsAll (h : FltFollows s) : FltFollows (clearWrapsAll s) := h.frame
protected theorem execClearWraps {r : Req} (h : FltFollows s) :
    FltFollows (after (execClearWraps r s) s) := h.doIf h.clearWrapsAll
protected theorem execDumpNow {r : Req} (h : FltFollows s) : FltFollows (after (execDumpNow r s) s) := h.doIf h.captureDump
protected theorem sendDumpFeed {payload : List Word} (h : FltFollows s) :
    FltFollows (sendDumpFeed s payload) := h.foldl fun _ _ h => h.sendTo
protected theorem sendDump {d : Dump} (h : FltFollows s) : FltFollows (sendDump s d) := h.foldl fun _ _ h => h.sendDumpFeed

protected theorem execCounterDump (h : FltFollows s) : FltFollows (after (execCounterDump s) s) := by
  refine h.doIf (.ite ?_ (.frame (h.foldl fun _ _ h => h.sendDumpFeed)))
  split
  · exact h
  · split
    · exact h.sendDump.frame
    · exact h.frame

protected theorem resend {seq : Word} (h : FltFollows s) : FltFollows (resend s seq) := by
  unfold resend
  split
  · exact h.sendDump
  · exact h

protected theorem execResendDump {r : Req} {seq : Word} (h : FltFollows s) :
    FltFollows (after (execResendDump r seq s) s) := h.doIf h.resend

/-! Writes to the object space (R8 to R12, R451). -/

protected theorem writeChannelControl {r : Req} {n : Fin 16} {w : Word} (h : FltFollows s) :
    FltFollows (writeChannelControl s r n w) := by
  unfold writeChannelControl
  split
  · exact h.execRestoreEnergy
  · exact h.execTrimZero
  · exact h.execTrimSpan
  · exact h.execTrimClear
  · exact h.execHartRediscover
  · exact h

protected theorem writeAoControl {r : Req} {n : Fin 4} {w : Word} (h : FltFollows s) : FltFollows (writeAoControl s r n w) := by
  unfold writeAoControl
  split
  · exact h.execRestoreEnergy
  · exact h.execManualOn
  · exact h.execManualOff
  · exact h.execHartRediscover
  · exact h

protected theorem writeDoControl {r : Req} {n : Fin 8} {w : Word} (h : FltFollows s) : FltFollows (writeDoControl s r n w) := by
  unfold writeDoControl
  split
  · exact h.execManualOn
  · exact h.execManualOff
  · exact h.execResetLatch
  · exact h

protected theorem writeTrimRef {r : Req} {n : Fin 16} {v : Pair} (h : FltFollows s) :
    FltFollows (writeTrimRef s r n v) := .ite (.ite h.modUai h.pairFail) h

protected theorem writeField {r : Req} {a : Nat} {w : Word} {ws : List Word} (h : FltFollows s) :
    FltFollows ((writeField s r a w ws).1) := by
  unfold writeField
  dsimp only
  split
  · split
    · split
      · exact h.writeChannelControl
      · split
        · split
          · exact h.writeTrimRef
          · exact h
        · exact h
    · exact h
  · split
    · split
      · split
        · exact h.writeAoControl
        · split
          · split
            · exact h.execManualValueWrite
            · exact h
          · exact h
      · exact h
    · split
      · split
        · split
          · exact .ite h.execClearWrap h
          · split
            · split
              · exact h.execTotalPreset
              · exact h
            · exact h
        · exact h
      · split
        · split
          · split
            · exact h.writeDoControl
            · split
              · split
                · exact h.execManualValueWrite
                · exact h
              · exact h
          · exact h
        · exact h

protected theorem writePoint {r : Req} {a : Nat} {w : Word} {ws : List Word} (h : FltFollows s) :
    FltFollows ((writePoint s r a w ws).1) := by
  unfold writePoint
  dsimp only
  split
  · split
    · exact .ite h.queueAct h
    · exact h
  · split
    · split
      · exact h.execSetpointWrite
      · exact h
    · exact h

protected theorem writeAlarms {r : Req} {a : Nat} {w : Word} (h : FltFollows s) : FltFollows (writeAlarms s r a w) := by
  unfold writeAlarms
  refine .ite ?_ (.ite (.ite h.execSysAck h) (.ite h.writeCallAction h))
  refine .ite ?_ h
  split
  · exact h.execAckAll
  · exact h.execDamaskClear
  · exact h

protected theorem writeQuads {r : Req} {a : Nat} {w : Word} (h : FltFollows s) : FltFollows (writeQuads s r a w) := by
  unfold writeQuads
  split
  · split
    · exact .ite h.execEngineRetry h
    · exact h
  · refine .ite h ?_
    split
    · refine .ite ?_ h
      split
      · exact h.execDrainOff
      · exact h.execResume
      · exact h.execQuadRetry
      · exact h
    · exact h

protected theorem writeCan {r : Req} {a : Nat} {w : Word} (h : FltFollows s) : FltFollows (writeCan s r a w) := by
  unfold writeCan
  split
  · refine .ite ?_ h
    split
    · exact h.execRecoverNow
    · exact h.execCanClearCounters
    · exact h
  · exact h

protected theorem clearRingCounters (h : FltFollows s) : FltFollows (clearRingCounters s) := h.frame
protected theorem execRingClearCounters {r : Req} (h : FltFollows s) :
    FltFollows (after (execRingClearCounters r s) s) := h.doIf h.clearRingCounters
protected theorem ringPeaks (h : FltFollows s) : FltFollows (ringPeaks s) := h.frame
protected theorem execClearPeaks {r : Req} (h : FltFollows s) : FltFollows (after (execClearPeaks r s) s) := h.doIf h.ringPeaks
protected theorem writeRing {r : Req} {a : Nat} {w : Word} (h : FltFollows s) :
    FltFollows (writeRing s r a w) := .ite (.stepIf (.ite h.execRingClearCounters h) (·.execClearPeaks)) h

protected theorem cursorActOf {r : Req} {c : Fin 8} {w : Word} {i : Nat} (h : FltFollows s) :
    FltFollows (cursorActOf s r c w i) := by
  unfold cursorActOf
  refine .ite ?_ h
  split
  · exact h.execCursorClaim
  · exact h.execCursorRelease
  · exact h.execCursorAdvance
  · exact h.execSeekOldest
  · exact h.execSeekNewest

protected theorem writeHistory {r : Req} {a : Nat} {w : Word} (h : FltFollows s) : FltFollows (writeHistory s r a w) := by
  unfold writeHistory
  dsimp only
  refine .ite ?_ h
  split
  · split
    · exact .ite h.writeCursorControl h
    · exact .ite h.modCursor h
    · exact .ite h.execPositionLowWrite h
    · exact .ite h.modCursor h
    · exact .ite (h.foldl fun _ _ h => h.cursorActOf) h
    · exact h
  · exact h

protected theorem writeTime {r : Req} {a : Nat} {w : Word} {ws : List Word} (h : FltFollows s) :
    FltFollows ((writeTime s r a w ws).1) := by
  unfold writeTime
  dsimp only
  split
  · split
    · exact h.execStageWrite
    · exact h.execStageWrite
  · exact h.execStageWrite
  · exact .stepIf (.ite h.execRtcCommit h) (·.execCancelStage)
  · exact h.execRtcShiftWrite
  · exact h.execRtcTrimCodeWrite
  · exact .ite h.modBkup h
  · exact .ite h.execShutdown h
  · split
    · split
      · exact h.modBkup
      · exact h
    · exact h

protected theorem writeCounters {r : Req} {a : Nat} {w : Word} {ws : List Word} (h : FltFollows s) :
    FltFollows ((writeCounters s r a w ws).1) := by
  unfold writeCounters
  split
  · split
    · exact h.execSamplerSelectWrite
    · exact h
  · split
    · split
      · exact h.execCountWrite
      · exact h
    · split
      · split
        · exact h.execDumpNow
        · exact h.execClearWraps
        · exact h
      · split
        · exact h.execResendDump
        · exact h

protected theorem writeConfig {r : Req} {a : Nat} {w : Word} {ws : List Word} (h : FltFollows s) :
    FltFollows ((writeConfig s r a w ws).1) := by
  unfold writeConfig
  dsimp only
  split
  · split
    · exact h.execAmendOpen
    · exact h.execAmendApply
    · exact h.execAmendAbort
    · exact h.execImageBegin
    · exact h.execImageCommit
    · exact h.execImageCancel
    · exact h
  · split
    · exact .ite h.writeAmendLen h
    · split
      · exact .ite h.writeAmendBuffer h
      · split
        · exact h.execImageWindowWrite
        · exact h

protected theorem writePlacement {r : Req} {a : Nat} {w : Word} {ws : List Word} (h : FltFollows s) :
    FltFollows ((writePlacement s r a w ws).1) := by
  unfold writePlacement
  dsimp only
  split
  · split
    · exact h.execRebalance
    · exact h.execRotateNow
    · exact h.execForgetNode
    · exact h
  · split
    · split
      · exact h.execFwBegin
      · exact h.execFwCommit
      · exact h.execFwCancel
      · exact h.execFwApply
      · exact h
    · split
      · exact h.execFwWindowWrite
      · exact h

protected theorem writeVib {r : Req} {a : Nat} {w : Word} (h : FltFollows s) : FltFollows (writeVib s r a w) := by
  unfold writeVib
  dsimp only
  split
  · exact h
  · exact .ite (.stepIf (.ite h.execCancelPending h) (·.execCaptureNow)) (.ite h.execResendId h)

protected theorem writeObj {r : Req} {addr : Word} {ws : List Word} (h : FltFollows s) :
    FltFollows ((writeObj s r addr ws).1) := by
  unfold writeObj
  dsimp only
  split
  · exact .ite h.execPowerLevelWrite h
  · exact h.writeQuads
  · exact h.writePoint
  · exact h.writeAlarms
  · exact h.writeField
  · exact h.writeCan
  · exact h.writeRing
  · exact h.writeHistory
  · exact h.writeTime
  · exact h.writeCounters
  · exact h.writeConfig
  · exact h.writePlacement
  · exact h.writeVib
  · exact h

protected theorem writeFrom {r : Req} {ws : List Word} {a : Word} {skip : Nat} (h : FltFollows s) :
    FltFollows (writeFrom r ws a skip s) := by
  induction ws generalizing a skip s with
  | nil => exact h
  | cons w ws ih =>
    cases skip with
    | zero => exact ih h.writeObj
    | succ k => exact ih h

protected theorem writeObjs {r : Req} {addr : Word} {ws : List Word} (h : FltFollows s) :
    FltFollows (writeObjs s r addr ws) := h.writeFrom

/-! Requests, replies and sending (R437, R450 to R456). -/

protected theorem noteReport {q : Subs} {ws : List Word} (h : FltFollows s) : FltFollows (noteReport s q ws) := h.frame

protected theorem atLeaving {m : Msg} (h : FltFollows s) : FltFollows ((atLeaving s m).1) := by
  unfold atLeaving
  dsimp only
  split
  · split
    · exact h.noteReport
    · exact h
  · exact h

protected theorem countKib {c : Fin 4} {bytes : Nat} (h : FltFollows s) : FltFollows (countKib s c bytes) := by
  unfold countKib
  exact h.modClass.perfAdd

protected theorem admitWaiting {n : Nat} (h : FltFollows s) : FltFollows (admitWaiting n s) := by
  induction n generalizing s with
  | zero => exact h
  | succ n ih =>
    unfold admitWaiting
    split
    · exact h
    · exact .ite (ih h.frame) h

protected theorem sendFront {c : Fin 4} {m : Msg} {rest : List Msg} (h : FltFollows s) : FltFollows (sendFront s c m rest) :=
  .stepIf (.frame (h.atLeaving.modClass.countKib.putOnRing.stepIf (·.putFrame))) (fun h => .ite h.admitWaiting.sysClear
    h.admitWaiting)

protected theorem sendNext {c : Fin 4} (h : FltFollows s) : FltFollows (sendNext s c) := by
  unfold sendNext
  dsimp only
  split
  · exact .ite h.refill.frame.modClass.putOnRing h.refill
  · split
    · exact .ite h.refill.sendFront h.refill
    · exact h.refill

protected theorem endRequester {r : Req} (h : FltFollows s) : FltFollows (endRequester s r) := .ite h.frame.closeAmend h.frame

protected theorem noteRequester {r : Req} (h : FltFollows s) : FltFollows (noteRequester s r) := by
  unfold noteRequester
  extract_lets s0 _ s1 old s2
  clear_value old
  have h1 : FltFollows s1 := by
    have h0 : FltFollows s0 := h.noteOwner
    unfold s1
    split
    · exact h0.frame
    · exact h0
  have h2 : FltFollows s2 := by
    unfold s2
    split
    · exact .ite h1 h1.endRequester
    · exact h1
  exact h2.frame

protected theorem resendReply {k : Kept} (h : FltFollows s) : FltFollows (resendReply s k) := by
  unfold resendReply
  split
  · exact h
  · exact .ite h h.enqueue

protected theorem keepReq {q : Rq} {type : BitVec 6} {reply : Option Msg} (h : FltFollows s) :
    FltFollows (keepReq s q type reply) := .ite h h.frame

protected theorem serve {q : Rq} {type : BitVec 6} {addr : Word} {count : BitVec 16}
    {f : State → State × Option (BitVec 16 × List Word)} (h : FltFollows s) (hf : ∀ {s}, FltFollows s → FltFollows (f s).1) :
    FltFollows (serve s q type addr count f) := by
  have served : FltFollows (f (noteRequester s (rqReq q))).1 := hf h.noteRequester
  unfold serve
  dsimp only
  split
  · exact h.noteRequester.resendReply
  · refine .ite (.ite h.noteRequester h.noteRequester.enqueue) ?_
    split
    · exact .ite served served.enqueue
    · exact .ite served.keepReq served.keepReq.enqueue
    · exact served.keepReq

protected theorem windowRefill (h : FltFollows s) : FltFollows (windowRefill s) := h.modLinen
protected theorem windowTake {addr : Word} {n : Nat} (h : FltFollows s) :
    FltFollows (windowTake s addr n) := .ite h h.windowRefill.modLinen
protected theorem touchCursors {r : Req} {addr : Word} {n : Nat} (h : FltFollows s) :
    FltFollows (touchCursors s r addr n) := h.foldl fun _ _ h => .ite h.modCursor h
protected theorem discardMsg {cause : Fin 8} (h : FltFollows s) : FltFollows (discardMsg s cause) := h.frame

protected theorem readRange {r : Req} {addr : Word} {n : Nat} (h : FltFollows s) : FltFollows ((readRange s r addr n).1) := by
  unfold readRange
  split
  · exact h.windowTake.touchCursors
  · exact h

protected theorem execBerebRead {q : Rq} {addr : Word} {count : BitVec 16} (h : FltFollows s) :
    FltFollows (after (execBerebRead q addr count s) s) := h.doIf (.ite (h.serve fun h => h.readRange) h.discardMsg)
protected theorem execBerebWrite {q : Rq} {addr : Word} {ws : List Word} (h : FltFollows s) :
    FltFollows (after (execBerebWrite q addr ws s) s) := h.doIf (.ite (h.serve fun h => h.writeObjs) h.discardMsg)

protected theorem subscribe {q : Rq} {addr : Word} {n : Nat} {w : Word} (h : FltFollows s) :
    FltFollows ((subscribe s q addr n w).1) := by
  unfold subscribe
  dsimp only
  split
  · exact h
  · split
    · exact h.readRange.frame.noteShed
    · exact h.readRange

protected theorem execBerebSubscribe {q : Rq} {addr : Word} {count : BitVec 16} {w : Word} (h : FltFollows s) :
    FltFollows (after (execBerebSubscribe q addr count w s) s) := h.doIf (.ite (h.serve fun h => h.subscribe) h.discardMsg)
protected theorem execBerebUnsubscribe {q : Rq} (h : FltFollows s) :
    FltFollows (after (execBerebUnsubscribe q s) s) := h.doIf (h.serve fun h => h.frame.noteShed)
protected theorem checkSub {u : Subs} (h : FltFollows s) : FltFollows (checkSub s u) := .ite h.windowTake.enqueue h

protected theorem execSnapshotRequest {q : Rq} (h : FltFollows s) : FltFollows (after (execSnapshotRequest q s) s) := by
  refine h.doIf (h.serve fun h => ?_)
  split <;> dsimp only
  · exact h.sendSnapshot
  · exact h

protected theorem execIdentify {q : Rq} (h : FltFollows s) : FltFollows (after (execIdentify q s) s) :=
  h.doIf (h.serve fun h => h)
protected theorem execEndSession {q : Rq} (h : FltFollows s) : FltFollows (after (execEndSession q s) s) :=
  h.doIf (h.serve fun h => h.endRequester)
protected theorem otherAction {q : Rq} (h : FltFollows s) : FltFollows (otherAction s q) := h.serve fun h => h
protected theorem sendEvent {part : List (Word × Rec)} (h : FltFollows s) :
    FltFollows (sendEvent s part) := .frame (h.foldl fun _ _ h => h.sendTo)
protected theorem sendEvents (h : FltFollows s) :
    FltFollows (sendEvents s) := .ite h.modLinen.frame (h.modLinen.foldl fun _ _ h => h.sendEvent)

/-! Bereb reception (R443 to R457). -/

protected theorem takeAction {q : Rq} {ws : List Word} (h : FltFollows s) : FltFollows (takeAction s q ws) := by
  unfold takeAction
  dsimp only
  refine .ite h ?_
  split
  · exact h.execSnapshotRequest
  · exact h.execIdentify
  · exact h.execEndSession
  · exact h.otherAction

protected theorem takeRequest {m : Msg} (h : FltFollows s) : FltFollows (takeRequest s m) := by
  unfold takeRequest
  dsimp only
  split
  · exact h.execBerebRead
  · exact h.execBerebWrite
  · exact h.execBerebSubscribe
  · exact h.execBerebUnsubscribe
  · exact h.takeAction

protected theorem takePlacement {ws : List Word} (h : FltFollows s) : FltFollows (takePlacement s ws) := .ite h h.pairFail

protected theorem takeMsg {n : Fin 64} {m : Msg} (h : FltFollows s) : FltFollows (takeMsg s n m) := by
  unfold takeMsg
  split
  · exact h.execAlarmReceive
  · exact .ite h.execCallStateReceive h.execCallRequestReceive
  · exact h.takePlacement
  · exact h.execDutyReceive
  · exact h.execReplicaDeltaReceive
  · exact h.execReplicaSnapshotReceive
  · exact h.execHeartbeatReceive
  · exact h

protected theorem handOver {n : Fin 64} {m : Msg} (h : FltFollows s) :
    FltFollows (handOver s n m) := .ite h.takeMsg h.noteSeq.takeMsg
protected theorem setHeld {n : Fin 64} {c : Nat} {l : List Msg} (h : FltFollows s) : FltFollows (setHeld s n c l) := h.frame
protected theorem flushHeld {n : Fin 64} {c : Nat} (h : FltFollows s) :
    FltFollows (flushHeld s n c) := h.setHeld.foldl fun _ _ h => h.handOver

protected theorem drainHeld {n : Fin 64} {c k : Nat} (h : FltFollows s) : FltFollows (drainHeld n c k s) := by
  induction k generalizing s with
  | zero => exact h
  | succ k ih =>
    unfold drainHeld
    split
    · exact .ite (ih h.frame.handOver) h
    · exact h

protected theorem inOrder {n : Fin 64} {m : Msg} (h : FltFollows s) : FltFollows (inOrder s n m) := by
  unfold inOrder
  dsimp only
  split
  · exact h.handOver
  · exact .ite h.handOver.drainHeld (.ite h.setHeld (.ite h.handOver h.flushHeld.handOver))

protected theorem noteSession {n : Nat} {sess : BitVec 16} (h : FltFollows s) : FltFollows (noteSession s n sess) := by
  unfold noteSession
  dsimp only
  refine .ite h ?_
  refine FltFollows.modPeer ?_
  split
  · exact .ite h h.peerRestarted
  · exact h

protected theorem takeFromNode {n : Fin 64} {m : Msg} (h : FltFollows s) :
    FltFollows (takeFromNode s n m) := .ite h.noteSession.frame (.ite h.noteSession.inOrder h.noteSession.takeMsg)

protected theorem takeChecked {m : Msg} (h : FltFollows s) : FltFollows (takeChecked s m) := by
  unfold takeChecked
  dsimp only
  refine .ite ?_ (.dite (fun _ => h.takeFromNode) fun _ => h)
  split
  · exact .ite (.takeRequest (.ite h.noteSession.noteSeq h.noteSession)) h.takeRequest
  · exact h.takeRequest

protected theorem takeOut {m : Msg} {words : Nat} (h : FltFollows s) : FltFollows (takeOut s m words) := h.modClass
protected theorem dropMsg {m : Msg} {ws : List Word} {c : Fin 8} (h : FltFollows s) :
    FltFollows (dropMsg s m ws c) := .ite h.discardMsg.pairFail (.ite h.discardMsg.execHeartbeatReceive h.discardMsg)

protected theorem receiveMsg {mac : BitVec 48} {ws : List Word} (h : FltFollows s) : FltFollows (receiveMsg s mac ws) := by
  unfold receiveMsg
  dsimp only
  split
  · exact h.takeOut.dropMsg
  · exact h.takeOut.takeChecked

/-! Every command and every step. -/

/-- FLTn goes on following through every command (R334). -/
protected theorem exec (c : Instr) (h : FltFollows s) : FltFollows (after (exec c s) s) := by
  cases c with
  | pornRelease => exact h.doIf (.manualEnds (.checkBackup (h.frame_sys rfl)))
  | logicResetAssert => exact h.doIf .resetLogic
  | norReadPhaseComplete => exact h.execNorReadPhaseComplete
  | functionReady => exact h.doIf h.fnStart.becomeReady.fnFollow
  | readyDeadlineExpiry => exact h.execReadyDeadlineExpiry
  | membershipListenEnd => exact h.doIf (.ite h.replicaReady (.sendAction (h.frame_sys rfl)))
  | snapshotAnswerTimeout => exact .choose (h.doIf (.sendAction (h.frame_sys rfl))) (h.doIf (.checkAwait (h.frame_sys rfl)))
  | fieldDieStart => exact h.doIf h.dieStart
  | fieldDieRestartDetected => exact h.doIf h.fieldLost.frame
  | fieldDieStop => exact h.doIf (.dieConds (.fieldDieReset (.branch (h.stepIf (·.sysRaise.sysClear)) (·.fieldLost) id)))
  | vfldThresholdCross => exact .choose h.vfldCross h.frame
  | vfldRestore => exact h.doIf h.vfldRestore
  | quadPowerOn => exact h.doIf h.modQuad
  | quadSelfCheckComplete => exact h.doIf (.ite h.modQuad.modQuadPl.roundSoon (.ite h.modQuad h.modQuad.fwFailed.sysRaise))
  | quadWake => exact h.doIf h.modQuad.frame.clearWake
  | quadIdleSleep => exact h.doIf h.modQuad.perfAdd
  | quadFaultReset => exact h.doIf h.faultQuad
  | quadReplyTimeout => exact h.execQuadReplyTimeout
  | quadIsolate => exact h.doIf (.ite h.modQuad.quadLeft h.modQuad.fabricGone)
  | quadRetryInterval => exact h.doIf h.modQuad
  | fabricRequest => exact h.doIf (h.frame.perfAdd.branch (·.completeReq) (fun h => .ite h.frame.goodBeat.fabWrite h.frame))
  | fabricReplyDelivery => exact h.execFabricReplyDelivery
  | fabricParityError => exact h.doIf (.ite h.perfAdd.noteParity (.branch (.stage (h.perfAdd.goodBeat.stepUnless
      (·.poisonBeat))) (·.faultQuads) (·.sysRaise)))
  | memoryEccError => exact h.execMemoryEccError
  | scrubPass => exact h.execScrubPass
  | gauzeSlotDue => exact h.doIf (.wakeMask (.perfAdd (.ite h h.slotFault)))
  | gauzeBackstopWake => exact h.doIf h.frame
  | linkFrameReceive => exact h.doIf (.ite h.linkFrame h.perfAdd.perfAdd)
  | linkHeartbeatSend => exact h.doIf h.perfAdd.frame
  | feltFrameReceive => exact h.doIf (.ite h.feltFrame h.perfAdd)
  | feltTimeout => exact h.doIf (.ite h.modFelt.refreshOut h.modFelt.frame.refreshOuts)
  | safeStateRewrite => exact h.doIf (.refreshOuts (h.foldl fun _ _ h => h.modFelt))
  | engineClockStepChange => exact h.execEngineClockStepChange
  | powerLevelWrite => exact h.execPowerLevelWrite
  | powerLevelChange => exact h.doIf h.notePower.frame.shedFeats.refreshStreams.noteShed.roundSoon.capCheck
  | pointEvaluation => exact h.doIf h.evalDue
  | delayExpiry => exact h.execDelayExpiry
  | releaseDelayExpiry => exact h.execReleaseDelayExpiry
  | suppressHoldExpiry => exact h.execSuppressHoldExpiry
  | shelveExpiry => exact h.execShelveExpiry
  | heldActionDiscard => exact h.doIf h.modPoint
  | adaptEstimate => exact h.execAdaptEstimate
  | shadowExecution => exact h.execShadowExecution
  | thirdRun => exact h.execThirdRun
  | converterSample => exact h.doIf h.sampleUai
  | settlingEnd => exact .choose (h.doIf h.modDi) (h.doIf h.modUai)
  | tcOpenTest => exact h.doIf h.tcTest
  | spareVisitPhaseEnd => exact h.execSpareVisitPhaseEnd
  | refDeviationRecord => exact h.doIf h.refRecord
  | trimZero => exact h.execTrimZero
  | trimSpan => exact h.execTrimSpan
  | trimClear => exact h.execTrimClear
  | trimCaptureEnd => exact h.execTrimCaptureEnd
  | trimButtonRelease => exact h.doIf h.trimButton
  | restoreEnergy => exact h.execRestoreEnergy
  | hartRediscover => exact h.execHartRediscover
  | hartTransactionStart => exact h.execHartTransactionStart
  | hartTransactionEnd => exact h.execHartTransactionEnd
  | hartModemSelfTest => exact h.doIf h.modModem
  | otherMasterClear => exact h.doIf h.modHart
  | detectorTrip => exact h.execDetectorTrip
  | probeStart => exact h.execProbeStart
  | probeComplete => exact h.doIf h.probeEnd
  | rampComplete => exact h.doIf h.portTo
  | sparkSelfTest => exact h.doIf h.lockSelfTest
  | foldbackEntry => exact h.doIf h.portTo
  | foldbackRetryStart => exact h.doIf h.portTo
  | foldbackRetryEnd => exact h.doIf (.ite h.portTo h.portTo)
  | loopSupplyAdjust => exact h.doIf h.modPort
  | waveformSampleWrite => exact h.execWaveformSampleWrite
  | frequencyEdge => exact h.doIf h.frequencyEdge
  | triggerCapture => exact h.doIf h.modVib.trigger
  | captureNow => exact h.execCaptureNow
  | scheduledCapture => exact h.doIf (.ite h.modVib.trigger h.modVib)
  | captureWindowClose => exact h.doIf h.closeWindow
  | cancelPending => exact h.execCancelPending
  | resendId => exact h.execResendId
  | waveform => exact h.doIf h.refreshStreams.sendNextWave.noteShed
  | featureUpdate => exact h.doIf h.publishFeat.wakePoint
  | featureStaleTimeout => exact h.doIf h.modFeat
  | aoReadbackSample => exact h.doIf h.aoSample
  | manualOn => exact h.execManualOn
  | manualOff => exact h.execManualOff
  | manualValueWrite => exact h.execManualValueWrite
  | manualTimeout => exact h.doIf h.setManual
  | openTestPulse => exact h.doIf h.openTest
  | safenChange => exact h.doIf (.ite h.frame.safenTo h.frame)
  | diFilterTransition => exact h.doIf h.diSamples
  | diLineOpen => exact h.doIf h.modDi
  | totalPreset => exact h.execTotalPreset
  | totalPresetApply => exact h.doIf h.applyPreset
  | clearWrap => exact h.execClearWrap
  | totalBackupWrite => exact h.doIf h.frame
  | doPatternEdge => exact h.doIf (h.frame.foldl fun _ _ h => h.refreshDo)
  | doThermalCutoff => exact h.doIf h.modDo.cutOff
  | doThermalRestart => exact h.doIf h.modDo.refreshDo
  | resetLatch => exact h.execResetLatch
  | doGroupShed => exact h.doIf h.groupShed
  | doShedRestart => exact h.execDoShedRestart
  | doOffTest => exact h.doIf h.modDo
  | doOpenLoadDetect => exact h.doIf h.modDo
  | doReverseBlock => exact h.doIf h.modDo.refreshDo
  | doStaggeredRestart => exact h.execDoStaggeredRestart
  | setpointWrite => exact h.execSetpointWrite
  | replicaDeltaSend => exact h.doIf h.sendDelta
  | replicaRefresh => exact h.execReplicaRefresh
  | replicaDeltaReceive => exact h.execReplicaDeltaReceive
  | replicaSnapshotReceive => exact h.execReplicaSnapshotReceive
  | replicaStaleTimeout => exact h.execReplicaStaleTimeout
  | alarmReceive => exact h.execAlarmReceive
  | ack => exact h.doIf h.actPoint
  | shelve => exact h.doIf h.actPoint
  | unshelve => exact h.doIf h.actPoint
  | oosOn => exact h.doIf h.actPoint
  | oosOff => exact h.doIf h.actPoint
  | adaptRestart => exact h.doIf h.actPoint
  | sysAck => exact h.execSysAck
  | ackAll => exact h.execAckAll
  | damaskClear => exact h.execDamaskClear
  | systemConditionChange => exact h.doIf (.ite h.sysRaise h.sysClear)
  | systemConditionClearTimer => exact h.doIf h.clearTimed
  | damaskObservation => exact h.execDamaskObservation
  | damaskCheckpoint => exact h.doIf h.checkpointDamask
  | callDutyStep => exact h.doIf (.branch (.callChecks (.callTimers (.applyWaiting (.ite h.mergeCall h)))) (·.sendCallState)
      (·.panelsRefresh))
  | toManned => exact h.request
  | toUms => exact h.request
  | acceptUms => exact h.request
  | setDuty => exact h.request
  | acceptDuty => exact h.request
  | rotaOn => exact h.request
  | rotaOff => exact h.request
  | callAccept => exact h.request
  | engAlarm => exact h.request
  | engAlarmReset => exact h.request
  | deadmanStart => exact h.request
  | deadmanReset => exact h.request
  | deadmanStop => exact h.request
  | acceptTimeExpiry => exact h.timerStep (·.stageTimer)
  | backupTimeExpiry => exact h.timerStep (·.stageTimer)
  | attendTimeExpiry => exact h.timerStep (·.stageTimer)
  | handoverTimeout => exact h.timerStep (·.handoverTimer)
  | deadmanPrewarn => exact h.timerStep (·.prewarnTimer)
  | deadmanExpiry => exact h.timerStep (·.deadTimer)
  | mannedEscalateExpiry => exact h.timerStep (·.mannedNote.mannedTimer)
  | callStatePeriodic => exact h.doIf h.sendCallState
  | callStateReceive => exact h.execCallStateReceive
  | callRequestReceive => exact h.execCallRequestReceive
  | callPathTimeout => exact h.doIf h.sysRaise
  | panelAckFrame => exact h.execPanelAckFrame
  | panelSilenceFrame => exact h.execPanelSilenceFrame
  | panelRequestFrame => exact h.execPanelRequestFrame
  | panelHeartbeat => exact h.execPanelHeartbeat
  | panelLostTimeout => exact h.doIf h.modTwins.sysRaise
  | panelCommandPeriodic => exact h.doIf h.panelsRefresh.nodeBeat.nodeBeat
  | panelAlarmRepeat => exact h.doIf (h.foldl fun _ _ h => h.foldl fun _ _ h => h.queueFrame)
  | placementRound => exact h.doIf h.runRound
  | taskHandover => exact h.execTaskHandover
  | drainOff => exact h.execDrainOff
  | resume => exact h.execResume
  | drainComplete => exact h.execDrainComplete
  | updateLoaded => exact h.doIf h.modQuad
  | quadRetry => exact h.execQuadRetry
  | engineRetry => exact h.execEngineRetry
  | rebalance => exact h.execRebalance
  | rotateNow => exact h.execRotateNow
  | forgetNode => exact h.execForgetNode
  | spareRotation => exact h.doIf h.frame.rotateSpares.rebalance
  | wearRead => exact h.doIf h.readWear
  | fwBegin => exact h.execFwBegin
  | fwWindowWrite => exact h.execFwWindowWrite
  | fwCommit => exact h.execFwCommit
  | fwCancel => exact h.execFwCancel
  | fwApply => exact h.execFwApply
  | fwEraseComplete => exact h.doIf h.modFw.setFw
  | fwVerifyComplete => exact h.doIf h.fwVerified
  | fwReceiveTimeout => exact h.doIf h.setFw
  | fwQuadStepComplete => exact h.doIf h.fwNext
  | heartbeatSend => exact h.doIf h.frame.bcast
  | heartbeatReceive => exact h.execHeartbeatReceive
  | peerAbsentTimeout => exact h.doIf h.nowAbsent
  | dutySend => exact h.doIf h.sendDuty
  | dutyReceive => exact h.execDutyReceive
  | placementPeriodic => exact h.doIf h.sendPlacement
  | c3GrantCompute => exact h.doIf h.computeGrants
  | portLinkChange => exact h.doIf h.modRingPort.linkLost
  | ringFrameReceive => exact h.doIf h.clearWire.ringIn
  | stationFrameReceive => exact h.doIf h.clearWire.stationIn
  | hsrSupervisionSend => exact h.doIf h.clearWire.putOnRing
  | proxyEntryExpiry => exact h.doIf h.frame
  | ringOpenTimeout => exact h.doIf h.ringOpenStep
  | ptpMessageReceive => exact h.execPtpMessageReceive
  | ptpPeerDelayMeasure => exact h.doIf h.modRingPort
  | ptpAnnounceTimeout => exact h.doIf h.noAnnounce
  | originationSend => exact h.doIf h.clearWire.sendNext
  | frameBufferEccError => exact h.doIf h.clearWire.discardFrame.recoverFrame
  | pauseRefresh => exact h.doIf h.clearWire.pauseStep
  | berebReceive => exact h.doIf h.receiveMsg
  | berebRead => exact h.execBerebRead
  | berebWrite => exact h.execBerebWrite
  | berebSubscribe => exact h.execBerebSubscribe
  | berebUnsubscribe => exact h.execBerebUnsubscribe
  | snapshotRequest => exact h.execSnapshotRequest
  | identify => exact h.execIdentify
  | endSession => exact h.execEndSession
  | subscriptionCheck => exact h.doIf (h.foldl fun _ _ h => h.checkSub)
  | subscriptionLapse => exact h.doIf h.frame
  | sequenceHoldExpiry => exact h.doIf h.flushHeld
  | eventSend => exact h.doIf h.sendEvents
  | ringClearCounters => exact h.execRingClearCounters
  | clearPeaks => exact h.execClearPeaks
  | canBusIdleDetect => exact h.doIf (.toNormal (.stepIf (.ite h.canRestrict.becomeReady h) (·.modCan)))
  | canNormalEntry => exact h.doIf h.toNormal
  | canBusOff => exact h.doIf h.modCan.setLost.sysRaise
  | canBusOffRecovery => exact h.execCanBusOffRecovery
  | recoverNow => exact h.execRecoverNow
  | canClearCounters => exact h.execCanClearCounters
  | canFrameReceive => exact h.execCanFrameReceive
  | canRxService => exact h.doIf (.ite h.modBuf h.release.handleFrame)
  | bufferLockLapse => exact h.doIf h.modBuf.modCan
  | txRequest => exact h.doIf h.takeQueued.modBuf
  | txCancel => exact h.doIf (.ite h.modBuf.modCan h.modBuf)
  | canTxComplete => exact h.doIf (.branch (.ite h.modCan h) (·.draw.txFails) (fun h => h.modBuf.perfAdd.modCan.stepIf
      (·.setCounts)))
  | canTxError => exact h.execCanTxError
  | mappedTimeout => exact h.doIf h.modCan.wakePoint
  | amendOpen => exact h.execAmendOpen
  | amendApply => exact h.execAmendApply
  | amendAbort => exact h.execAmendAbort
  | amendOpenTimeout => exact h.doIf h.closeAmend
  | amendCheckComplete => exact h.doIf h.endCheck
  | commitStart => exact h.doIf h.startCommit
  | norCommitStepComplete => exact h.execNorCommitStepComplete
  | imageBegin => exact h.execImageBegin
  | imageWindowWrite => exact h.execImageWindowWrite
  | imageCommit => exact h.execImageCommit
  | imageCancel => exact h.execImageCancel
  | imageEraseComplete => exact h.doIf h.frame
  | imageVerifyComplete => exact h.doIf h.endVerify
  | imageReceiveTimeout => exact h.doIf h.imageDrop
  | nandScanComplete => exact h.doIf (.ite h.modLinen.sysRaise (.ite (.ite h.scanDone.restoreDamask
      h.scanDone.modLinen.sysRaise) h.modLinen.sysRaise))
  | indexBuildComplete => exact h.doIf h.modLinen.sysClear
  | nandSegmentProgram => exact h.execNandSegmentProgram
  | nandBlockRefresh => exact h.execNandBlockRefresh
  | recorderCheckpoint => exact h.doIf h.stage
  | recordsDroppedReport => exact h.doIf h.modLinen.stageAsP
  | cursorClaim => exact h.execCursorClaim
  | cursorRelease => exact h.execCursorRelease
  | cursorIdleTimeout => exact h.doIf h.releaseCursor
  | positionLowWrite => exact h.execPositionLowWrite
  | cursorAdvance => exact h.execCursorAdvance
  | seekOldest => exact h.execSeekOldest
  | seekNewest => exact h.execSeekNewest
  | windowFillComplete => exact h.execWindowFillComplete
  | trendSample => exact h.doIf (h.foldl fun _ _ h => h.trendStep)
  | trendArchive => exact h.doIf h.archiveAll.modNand.flushTrend.modNand
  | backupSupplyChangeover => exact h.frame
  | brownoutLatchSet => exact h.frame
  | vbatTest => exact h.doIf h.modBkup.sysSet
  | opMsIncrement => exact h.doIf (.stepIf (.perfAdd (.loadRoll (.modBkup (h.frame_sys rfl)))) (·.setQuality))
  | rtcRolloverComparison => exact .ite h.rollover.compareRtc h.rollover
  | stageWrite => exact h.execStageWrite
  | rtcCommit => exact h.execRtcCommit
  | cancelStage => exact h.execCancelStage
  | stageLapse => exact h.doIf h.modBkup
  | rtcShiftWrite => exact h.execRtcShiftWrite
  | shiftComplete => exact h.doIf h.modBkup
  | rtcTrimCodeWrite => exact h.execRtcTrimCodeWrite
  | autoTrimAdjust => exact h.doIf h.modBkup
  | timePeriodic => exact h.doIf h.bcast
  | shutdown => exact h.execShutdown
  | pwronOff => exact h.execPwronOff
  | wakenLow => exact h.frame
  | wakeAtMatch => exact h.doIf h.modBkup
  | samplerWrap => exact h.execSamplerWrap
  | samplerSelectWrite => exact h.execSamplerSelectWrite
  | countWrite => exact h.execCountWrite
  | clearWraps => exact h.execClearWraps
  | dumpPeriodic => exact h.doIf h.frame.captureDump
  | dumpNow => exact h.execDumpNow
  | counterDump => exact h.execCounterDump
  | resendDump => exact h.execResendDump
  | tapInstruction => exact h.congr rfl rfl rfl
  | registerWrite => exact h.noteOwner.doIf h.noteOwner.writeObjs
  | doCurrentLimit => exact h.doIf h.modDo
  | canReceiveError => exact h.doIf (.ite h.noteErr.setCounts h.noteErr)
  | oscillatorStart => exact h.frame
  | restartSlowedEnd => exact h.doIf h.frame

/-- FLTn goes on following through every step (R334). -/
protected theorem step (h : FltFollows s) (e : step s = .next t) : FltFollows t := by
  unfold step at e
  split at e
  · cases e
    exact h
  · next c rest _ =>
    have ran : FltFollows (after (exec c { s with pending := rest }) { s with pending := rest }) := .exec c h.frame
    rwa [e] at ran

end FltFollows
end Sys2Proof.Machine

namespace Sys2Proof
open Sys2Proof.Machine

/-- Settles O55: what FLTn follows is kept by every operation, since one that changes a SYSTEM condition ends in FLTn's update,
and is made true by the end of the start (R334). -/
theorem fltFollowsConditions : Obligations.FltFollowsConditions := by
  unfold Obligations.FltFollowsConditions
  exact ⟨fun _ _ h e => FltFollows.step h e, rfl⟩

end Sys2Proof
end

section
/-! SUPPORT. Firmware loads (R394 to R398): what a NOR region reads after it is erased or written, what the operations on a copy
do to the load and to the NOR, and what each firmware command leaves. -/

namespace Sys2Proof.Machine
open Sys2Proof

/-! Regions and words of a memory. -/

/-- A region erased lists nothing, and the bytes outside it stand. -/
theorem memGet_memErase (d : BitVec 8) (a n k : Nat) (m : Mem) :
    memGet d (memErase m a n) k = if a ≤ k ∧ k < a + n then d else memGet d m k := by
  induction m with
  | nil => simp [memErase, memGet]
  | cons e t ih =>
    obtain ⟨j, b⟩ := e
    unfold memErase at ih ⊢
    by_cases kept : j < a ∨ a + n ≤ j
    · rw [List.filter_cons_of_pos (by simpa using kept)]
      by_cases here : j = k
      · have outside : ¬(a ≤ k ∧ k < a + n) := by omega
        simp [memGet, here, outside]
      · simpa [memGet, here] using ih
    · rw [List.filter_cons_of_neg (by simpa using kept), ih]
      by_cases here : j = k
      · have inside : a ≤ k ∧ k < a + n := by omega
        simp [inside]
      · simp [memGet, here]

/-- A word written leaves every byte outside it. -/
theorem memGet_memSetWord_ne (d : BitVec 8) (m : Mem) (w : Word) {a k : Nat} (h : k < a ∨ a + 4 ≤ k) :
    memGet d (memSetWord d m a w) k = memGet d m k := by
  unfold memSetWord
  rw [memGet_memSet_ne (by omega), memGet_memSet_ne (by omega), memGet_memSet_ne (by omega), memGet_memSet_ne (by omega)]

/-- The word written reads back. -/
theorem memWord_memSetWord {d : BitVec 8} {m : Mem} (a : Nat) (w : Word) (h : Mem.wf d m = true) :
    memWord d (memSetWord d m a w) a = w := by
  have w1 := memSet_wf (a := a) (b := w.extractLsb' 24 8) h
  have w2 := memSet_wf (a := a + 1) (b := w.extractLsb' 16 8) w1
  have w3 := memSet_wf (a := a + 2) (b := w.extractLsb' 8 8) w2
  have bytes : w.extractLsb' 24 8 ++ w.extractLsb' 16 8 ++ w.extractLsb' 8 8 ++ w.extractLsb' 0 8 = w := by
    rw [BitVec.extractLsb'_append_extractLsb'_eq_extractLsb' (show 24 = 16 + 8 from rfl),
      BitVec.extractLsb'_append_extractLsb'_eq_extractLsb' (show 16 = 8 + 8 from rfl),
      BitVec.extractLsb'_append_extractLsb'_eq_extractLsb' (show 8 = 0 + 8 from rfl)]
    exact BitVec.extractLsb'_eq_self
  unfold memWord memSetWord
  rw [memGet_memSet w3, memGet_memSet_ne (k := a + 2) (by omega), memGet_memSet w2, memGet_memSet_ne (k := a + 1) (by omega),
    memGet_memSet_ne (k := a + 1) (by omega), memGet_memSet w1, memGet_memSet_ne (k := a) (by omega),
    memGet_memSet_ne (k := a) (by omega), memGet_memSet_ne (k := a) (by omega), memGet_memSet h]
  exact bytes

/-- A word written leaves every word beside it. -/
theorem memWord_memSetWord_ne (d : BitVec 8) (m : Mem) (w : Word) {a b : Nat} (h : b + 4 ≤ a ∨ a + 4 ≤ b) :
    memWord d (memSetWord d m a w) b = memWord d m b := by
  unfold memWord
  rw [memGet_memSetWord_ne _ _ _ (by omega), memGet_memSetWord_ne _ _ _ (by omega), memGet_memSetWord_ne _ _ _ (by omega),
    memGet_memSetWord_ne _ _ _ (by omega)]

/-! The load and the NOR after an operation. -/

@[simp] theorem modFw_fw (s : State) (f : Fw → Fw) : (s.modFw f).canvas.fw = f s.canvas.fw := rfl
@[simp] theorem modFw_nor (s : State) (f : Fw → Fw) : (s.modFw f).nor = s.nor := rfl
@[simp] theorem sendProgress_canvas (s : State) : (sendProgress s).canvas = s.canvas := by simp [sendProgress]
@[simp] theorem setFw_fw (s : State) (st : FwState) : (setFw s st).canvas.fw = { s.canvas.fw with st := st } := by simp [setFw]
@[simp] theorem setFw_nor (s : State) (st : FwState) : (setFw s st).nor = s.nor := by simp [setFw, sendProgress]
@[simp] theorem modQuadPl_fw (s : State) (q : Fin 4) (f : QuadPl → QuadPl) : (s.modQuadPl q f).canvas.fw = s.canvas.fw := rfl
@[simp] theorem modQuadPl_nor (s : State) (q : Fin 4) (f : QuadPl → QuadPl) : (s.modQuadPl q f).nor = s.nor := rfl
@[simp] theorem invalidateCopy_canvas (s : State) : (invalidateCopy s).canvas = s.canvas := rfl
@[simp] theorem invalidateCopy_modQuad_nor (s : State) (q : Fin 4) (f : Quad → Quad) :
    (invalidateCopy (s.modQuad q f)).nor = (invalidateCopy s).nor := rfl
@[simp] theorem startDrain_fw (s : State) (q : Fin 4) (d : DrainTo) (hold : Bool) :
    (startDrain s q d hold).canvas.fw = s.canvas.fw := rfl

/-! Words of a copy. -/

/-- A copy is read from the NOR alone. -/
theorem fwWord_congr {s t : State} (h : t.nor = s.nor) (k : Bool) (i : Nat) : fwWord t k i = fwWord s k i := by
  simp only [fwWord, fwBase, h]

/-- A word of a copy programmed reads back. -/
theorem fwWord_programmed {s t : State} {k : Bool} {i : Nat} {w : Word} (wf : Mem.wf norByte s.nor.bytes = true)
    (size : t.nor.mib = s.nor.mib) (bytes : t.nor.bytes = memSetWord norByte s.nor.bytes (fwBase s k + 4 * i) w) :
    fwWord t k i = w := by
  have base : fwBase t k = fwBase s k := by simp only [fwBase, size]
  rw [fwWord, base, bytes, memWord_memSetWord _ _ wf]

/-- The FW_SEQ pair of a copy programmed reads back. -/
theorem fwSeq_programmed {s t : State} {k : Bool} {v c : Word} (wf : Mem.wf norByte s.nor.bytes = true)
    (size : t.nor.mib = s.nor.mib) (bytes : t.nor.bytes = memSetWords norByte s.nor.bytes (fwBase s k + 4) [v, c]) :
    fwWord t k 1 = v ∧ fwWord t k 2 = c := by
  have base : fwBase t k = fwBase s k := by simp only [fwBase, size]
  simp only [memSetWords] at bytes
  constructor
  · rw [fwWord, base, bytes, memWord_memSetWord_ne _ _ _ (by omega), memWord_memSetWord _ _ wf]
  · rw [fwWord, base, bytes, memWord_memSetWord _ _ (memSetWord_wf wf)]

/-- A copy invalidated reads zero in both words of its FW_SEQ pair, whatever is done to other parts (R397). -/
theorem fwSeq_invalidated {s t : State} (wf : Mem.wf norByte s.nor.bytes = true) (h : t.nor = (invalidateCopy s).nor) :
    fwWord t s.canvas.fw.target 1 = 0 ∧ fwWord t s.canvas.fw.target 2 = 0 :=
  fwSeq_programmed wf (by rw [h]; rfl) (by rw [h]; rfl)

/-- A FW_SEQ pair of two zero words is none, so the header fails (R105, R397). -/
theorem fwHeaderOk_of_zeroSeq {s : State} {k : Bool} (h1 : fwWord s k 1 = 0) (h2 : fwWord s k 2 = 0) : fwHeaderOk s k = false := by
  simp [fwHeaderOk, h1, h2]

/-! Programming a word of the window (R396). -/

@[simp] theorem fwProgram_canvas (s : State) (i : Nat) (w : Word) : (fwProgram s i w).canvas = s.canvas := by simp [fwProgram]

/-- The words of the FW_SEQ pair are not programmed. -/
theorem fwProgram_seqPair (s : State) {i : Nat} (w : Word) (h : i = 1 ∨ i = 2) : fwProgram s i w = s :=
  if_pos (by omega)

/-- A word of the region, but one of the FW_SEQ pair, reads back. -/
theorem fwWord_fwProgram {s : State} {i : Nat} (w : Word) (wf : Mem.wf norByte s.nor.bytes = true) (h1 : i ≠ 1) (h2 : i ≠ 2)
    (room : 4 * i < min (norQ s) (8 * 2 ^ 20)) : fwWord (fwProgram s i w) s.canvas.fw.target i = w := by
  have programs : ¬(i = 1 ∨ i = 2 ∨ min (norQ s) (8 * 2 ^ 20) ≤ 4 * i) := by omega
  refine fwWord_programmed wf ?_ ?_ <;> rw [fwProgram, if_neg programs]

/-- No byte outside the word is programmed. -/
theorem fwProgram_frame (s : State) (i : Nat) (w : Word) {a : Nat}
    (h : a < fwBase s s.canvas.fw.target + 4 * i ∨ fwBase s s.canvas.fw.target + 4 * i + 4 ≤ a) :
    memGet norByte (fwProgram s i w).nor.bytes a = memGet norByte s.nor.bytes a := by
  unfold fwProgram
  split
  · rfl
  · exact memGet_memSetWord_ne _ _ _ h

/-- One word written to the window in its turn. -/
theorem fwWindow_next {s : State} {i : Nat} (w : Word) (st : s.canvas.fw.st = .receiving) (turn : i = s.canvas.fw.next.toNat) :
    fwWindow s i [w] = (fwProgram s i w).modFw fun f => { f with next := f.next + 1, writtenAt := now s } := by
  have begins : (s.canvas.fw.st == .receiving && decide (i = s.canvas.fw.next.toNat)) = true := by simp [st, ← turn]
  exact if_pos begins

/-! The end of the check (R396). -/

/-- The target copy staged under a FW_SEQ, its pair programmed. -/
def stageCopy (s : State) (n : Word) : State :=
  let s1 := { s with nor := { s.nor with
    bytes := memSetWords norByte s.nor.bytes (fwBase s s.canvas.fw.target + 4) [n, ~~~n], progress := s.nor.progress + 8 } }
  setFw (s1.modFw fun f => { f with seq := n, version := fwWord s s.canvas.fw.target 5 }) .staged

@[simp] theorem stageCopy_fw (s : State) (n : Word) : (stageCopy s n).canvas.fw =
    { s.canvas.fw with st := .staged, seq := n, version := fwWord s s.canvas.fw.target 5 } := by
  simp [stageCopy]

/-- The FW_SEQ of a copy staged reads back as a pair. -/
theorem fwSeq_stageCopy {s : State} (n : Word) (wf : Mem.wf norByte s.nor.bytes = true) :
    fwWord (stageCopy s n) s.canvas.fw.target 1 = n ∧ fwWord (stageCopy s n) s.canvas.fw.target 2 = ~~~n :=
  fwSeq_programmed wf (by simp [stageCopy]) (by simp [stageCopy])

/-- The check stages a good copy under the next FW_SEQ and rejects another. -/
theorem fwVerified_eq (s : State) : fwVerified s =
    if fwShape s s.canvas.fw.target && fwBodyOk s s.canvas.fw.target && decide (fwHighest s + 1 < 0xFFFFFFFF)
    then stageCopy s (w32 (fwHighest s + 1)) else setFw s .rejected := rfl

/-! The steps of an update (R398). -/

/-- Whether a quad runs the new firmware rests on the quads and the copy's FW_SEQ. -/
theorem runsNew_congr {s t : State} (quads : t.quads = s.quads) (seq : t.canvas.fw.seq = s.canvas.fw.seq) (q : Fin 4) :
    runsNew t q = runsNew s q := by
  rw [runsNew, quadAt, quads, seq]
  rfl

/-- With no quad left to update, every quad in service runs the new firmware, whatever is done to other parts. -/
theorem runsNew_of_nextQuad {s t : State} (nobody : nextQuad s = none) (quads : t.quads = s.quads)
    (seq : t.canvas.fw.seq = s.canvas.fw.seq) (q : Fin 4) (serves : (quadAt t q).st.inService = true) : runsNew t q = true := by
  have serves' : (quadAt s q).st.inService = true := by simpa only [quadAt, quads] using serves
  have updated := List.find?_eq_none.mp nobody q (List.mem_finRange q)
  rw [runsNew_congr quads seq]
  simpa [serves'] using updated

/-- What an update may be after a step of it: it goes on, or it has ended with every quad in service on the copy. -/
def UpdateGoesOn (t : State) : Prop :=
  t.canvas.fw.st = .applying ∨ (t.canvas.fw.st = .applied ∧ ∀ q : Fin 4, (quadAt t q).st.inService = true → runsNew t q = true)

/-- The update is APPLIED only where no quad is left to update. -/
theorem fwNext_goesOn {s : State} (st : s.canvas.fw.st = .applying) : UpdateGoesOn (fwNext s) := by
  unfold fwNext
  dsimp only
  split
  · next nobody =>
    split
    · exact .inl st
    · exact .inr ⟨by simp, runsNew_of_nextQuad nobody (by simp) (by simp)⟩
  · split
    · exact .inl (by simp [st])
    · exact .inl st

/-- A quad that fails in its own step ends the update, with the copy invalidated. -/
theorem fwFailed_at {s : State} {q : Fin 4} (st : s.canvas.fw.st = .applying) (at_ : s.canvas.fw.at_ = some q) :
    (fwFailed s q).canvas.fw.st = .failed ∧ (fwFailed s q).nor = (invalidateCopy s).nor ∧ sysActive (fwFailed s q) 0x28 = true := by
  have fails : (s.canvas.fw.st == .applying && (decide (s.canvas.fw.at_ = some q) || !(vat s.canvas.quad q).reload)) = true := by
    simp [st, at_]
  simp only [fwFailed, if_pos fails]
  simp

/-! The commands. -/

/-- A command whose condition holds does what it does. -/
theorem runs_of_doIf {c : Instr} {s t : State} {P : State → Prop} {b : Bool} (e : exec c s = doIf b s t) (hb : b = true) (h : P t) :
    runs c s P :=
  ⟨t, by rw [e, hb]; rfl, h⟩

theorem fwBegin_runs {r : Req} {s : State} (level : may s r 3 = true) (st : s.canvas.fw.st = .idle)
    (started : startComplete s = true) (free : norBusy s = false) (image : s.nor.image = .idle) :
    runs (.fwBegin r) s fun t =>
      t.canvas.fw.st = .erasing ∧ t.canvas.fw.target = !s.cfg.fwCopy ∧ t.canvas.fw.next = 0 ∧
      ∀ a : Nat, memGet norByte t.nor.bytes a =
        if fwBase s (!s.cfg.fwCopy) ≤ a ∧ a < fwBase s (!s.cfg.fwCopy) + norQ s then norByte else memGet norByte s.nor.bytes a := by
  refine runs_of_doIf rfl level ?_
  have begins : ((s.canvas.fw.st == .idle || s.canvas.fw.st == .applied || s.canvas.fw.st == .rejected || s.canvas.fw.st == .failed) &&
      startComplete s && !norBusy s && (s.nor.image == .idle || s.nor.image == .rejected)) = true := by
    simp [st, started, free, image]
  simp only [fwBegin, if_pos begins]
  refine ⟨by simp, by simp, by simp, fun a => ?_⟩
  simp only [setFw_nor]
  exact memGet_memErase ..

theorem fwEraseComplete_runs {s : State} (out : up s = true) (st : s.canvas.fw.st = .erasing) :
    runs .fwEraseComplete s fun t => t.canvas.fw.st = .receiving ∧ t.nor = s.nor :=
  runs_of_doIf rfl (by simp [out, st]) (by simp)

theorem fwWindowWrite_runs {r : Req} {idx : BitVec 21} {w : Word} {s : State} (level : may s r 3 = true)
    (st : s.canvas.fw.st = .receiving) (turn : idx.toNat = s.canvas.fw.next.toNat) (wf : Mem.wf norByte s.nor.bytes = true) :
    runs (.fwWindowWrite r idx [w]) s fun t =>
      t.canvas.fw.next = s.canvas.fw.next + 1 ∧ t.canvas.fw.writtenAt = now s ∧
      (idx.toNat = 1 ∨ idx.toNat = 2 → t.nor = s.nor) ∧
      (idx.toNat ≠ 1 → idx.toNat ≠ 2 → 4 * idx.toNat < min (norQ s) (8 * 2 ^ 20) →
        fwWord t s.canvas.fw.target idx.toNat = w) ∧
      (∀ a : Nat, a < fwBase s s.canvas.fw.target + 4 * idx.toNat ∨ fwBase s s.canvas.fw.target + 4 * idx.toNat + 4 ≤ a →
        memGet norByte t.nor.bytes a = memGet norByte s.nor.bytes a) := by
  refine runs_of_doIf rfl level ?_
  rw [fwWindow_next w st turn]
  refine ⟨by simp, by simp, fun pair => ?_, fun h1 h2 room => ?_, fun a outside => fwProgram_frame s _ w outside⟩
  · rw [modFw_nor, fwProgram_seqPair s w pair]
  · rw [fwWord_congr (modFw_nor ..), fwWord_fwProgram w wf h1 h2 room]

theorem fwCommit_runs {r : Req} {s : State} (level : may s r 3 = true) (st : s.canvas.fw.st = .receiving) :
    runs (.fwCommit r) s fun t => t.canvas.fw.st = .verifying ∧ t.nor = s.nor :=
  runs_of_doIf rfl level (by simp [fwCommit, st])

theorem fwVerifyComplete_runs {s : State} (out : up s = true) (st : s.canvas.fw.st = .verifying)
    (wf : Mem.wf norByte s.nor.bytes = true) :
    runs .fwVerifyComplete s fun t =>
      if fwShape s s.canvas.fw.target && fwBodyOk s s.canvas.fw.target && decide (fwHighest s + 1 < 0xFFFFFFFF)
      then t.canvas.fw.st = .staged ∧ t.canvas.fw.seq = w32 (fwHighest s + 1) ∧
        fwWord t s.canvas.fw.target 1 = w32 (fwHighest s + 1) ∧ fwWord t s.canvas.fw.target 2 = ~~~(w32 (fwHighest s + 1))
      else t.canvas.fw.st = .rejected ∧ t.nor = s.nor := by
  refine runs_of_doIf rfl (by simp [out, st]) ?_
  rw [fwVerified_eq]
  generalize w32 (fwHighest s + 1) = n
  split
  · exact ⟨by simp, by simp, fwSeq_stageCopy n wf⟩
  · exact ⟨by simp, by simp⟩

theorem fwCancel_runs {r : Req} {s : State} (level : may s r 3 = true) (wf : Mem.wf norByte s.nor.bytes = true) :
    runs (.fwCancel r) s fun t =>
      (s.canvas.fw.st = .receiving → t.canvas.fw.st = .idle ∧ t.nor = s.nor) ∧
      (s.canvas.fw.st = .staged → t.canvas.fw.st = .idle ∧ fwWord t s.canvas.fw.target 1 = 0 ∧
        fwWord t s.canvas.fw.target 2 = 0 ∧ fwHeaderOk t s.canvas.fw.target = false) := by
  refine runs_of_doIf rfl level ⟨fun st => ?_, fun st => ?_⟩
  · simp [fwCancel, st]
  · have cancels : fwCancel s = setFw (invalidateCopy s) .idle := by simp only [fwCancel, st]
    rw [cancels]
    obtain ⟨h1, h2⟩ := fwSeq_invalidated wf (setFw_nor (invalidateCopy s) .idle)
    exact ⟨by simp, h1, h2, fwHeaderOk_of_zeroSeq h1 h2⟩

/-- The third failed check of the quad that the update is at ends the update. -/
theorem quadSelfCheckComplete_fails_update {q : Fin 4} {s : State} (out : up s = true) (reset : (quadAt s q).st = .reset)
    (loaded : s.cfg.fwLoaded = true) (tries : 2 ≤ (quadAt s q).tries) (st : s.canvas.fw.st = .applying)
    (at_ : s.canvas.fw.at_ = some q) (wf : Mem.wf norByte s.nor.bytes = true) :
    runs (.quadSelfCheckComplete q false) s fun t =>
      t.canvas.fw.st = .failed ∧ fwWord t s.canvas.fw.target 1 = 0 ∧ fwWord t s.canvas.fw.target 2 = 0 ∧
      sysActive t 0x28 = true := by
  refine runs_of_doIf rfl (by simp [out, reset, loaded]) ?_
  rw [if_neg (by simp), if_neg (by omega)]
  obtain ⟨failed, nor, active⟩ :=
    fwFailed_at (s := s.modQuad q fun x => { x with st := .failed, tries := 0, faultAt := now s }) (q := q) st at_
  refine ⟨by simp [failed], ?_⟩
  rw [← and_assoc]
  refine ⟨fwSeq_invalidated wf (by simp [nor]), ?_⟩
  rw [sysRaise_active_ne _ (by decide) (by decide) (by decide), active]

theorem fwReceiveTimeout_runs {s : State} (out : up s = true) (st : s.canvas.fw.st = .receiving)
    (late : s.canvas.fw.writtenAt + 600000 ≤ now s) :
    runs .fwReceiveTimeout s fun t => t.canvas.fw.st = .idle ∧ t.nor = s.nor :=
  runs_of_doIf rfl (by simp [out, st, late]) (by simp)

theorem fwApply_runs {r : Req} {s : State} (level : may s r 3 = true) (st : s.canvas.fw.st = .staged) :
    runs (.fwApply r) s UpdateGoesOn := by
  refine runs_of_doIf rfl level ?_
  have applies : (s.canvas.fw.st == .staged) = true := by simp [st]
  rw [fwApply, if_pos applies]
  exact fwNext_goesOn (by simp)

theorem fwQuadStepComplete_runs {s : State} (out : up s = true) (st : s.canvas.fw.st = .applying) (ended : stepEnded s = true) :
    runs .fwQuadStepComplete s UpdateGoesOn :=
  runs_of_doIf rfl (by simp [out, st, ended]) (fwNext_goesOn st)

end Sys2Proof.Machine

namespace Sys2Proof
open Sys2Proof.Machine

/-- Settles O31, command by command: the copy is the only region written, a word programmed reads back, and an update is
APPLIED only where no quad is left to update (R394 to R398). -/
theorem firmwareLoads : Obligations.FirmwareLoads := by
  unfold Obligations.FirmwareLoads
  exact ⟨fun _ _ => fwBegin_runs, fun _ => fwEraseComplete_runs, fun _ _ _ _ => fwWindowWrite_runs, fun _ _ => fwCommit_runs,
    fun _ => fwVerifyComplete_runs, fun _ _ => fwCancel_runs, fun _ _ => quadSelfCheckComplete_fails_update,
    fun _ => fwReceiveTimeout_runs, fun _ _ => fwApply_runs, fun _ => fwQuadStepComplete_runs⟩

end Sys2Proof
end
